-- ==== Sys2Proof/Word.lean ====
section
/-! DEFINITION. The byte type and the plainest little-endian arithmetic of rule R3 (spec/00_scope.md).
Every multi-byte field is little-endian, so a field is read from and written to a list of bytes here, once. -/
namespace Sys2Proof

/-- One byte of a packet, a frame or a memory. -/
abbrev Byte := BitVec 8

/-- The value of a little-endian byte string (R3). -/
def leNat : List Byte → Nat
  | [] => 0
  | b :: bs => b.toNat + 256 * leNat bs

/-- The `n` little-endian bytes of a value (R3). -/
def leBytes : Nat → Nat → List Byte
  | 0, _ => []
  | n + 1, v => BitVec.ofNat 8 v :: leBytes n (v / 256)

/-- The field of `n` bytes at offset `o` of a byte string; bytes past the end read as zero. -/
def leAt (bs : List Byte) (o n : Nat) : Nat := leNat ((bs.drop o).take n)

/-- Bits `[lo + n - 1 : lo]` of a value. -/
def bitsAt (v lo n : Nat) : Nat := v / 2 ^ lo % 2 ^ n

/-- Bit `i` of a value as a truth value. -/
def bitAt (v i : Nat) : Bool := v / 2 ^ i % 2 == 1

/-- A truth value as bit `i`. -/
def bit (b : Bool) (i : Nat) : Nat := if b then 2 ^ i else 0

/-- The bytes of a body padded with zeros to a multiple of 4 (R88). -/
def pad4 (bs : List Byte) : List Byte := bs ++ List.replicate ((4 - bs.length % 4) % 4) 0

/-- A length rounded up to a multiple of 4. -/
def up4 (n : Nat) : Nat := (n + 3) / 4 * 4

/-- `ceil (a / b)`. -/
def ceilDiv (a b : Nat) : Nat := (a + b - 1) / b

/-- The value of an `n`-bit two's-complement field. -/
def signed (n v : Nat) : Int := if v % 2 ^ n < 2 ^ (n - 1) then (v % 2 ^ n : Nat) else (v % 2 ^ n : Nat) - (2 ^ n : Nat)

/-- The `n`-bit two's-complement field of a signed value. -/
def twos (n : Nat) (i : Int) : Nat := (i % (2 ^ n : Nat)).toNat

/-- The element of a list at a position, or a default. -/
def nth {α : Type} (xs : List α) (d : α) (i : Nat) : α := (xs[i]?).getD d

/-- The list with the element at a position changed. -/
def modNth {α : Type} (f : α → α) : Nat → List α → List α
  | _, [] => []
  | 0, x :: xs => f x :: xs
  | i + 1, x :: xs => x :: modNth f i xs

/-- The units `i` below `n` whose bit is set in a mask. -/
def maskUnits (n mask : Nat) : List Nat := (List.range n).filter (bitAt mask)

/-- The number of set bits of the `n` low bits of a mask. -/
def popcount (n mask : Nat) : Nat := (maskUnits n mask).length

end Sys2Proof
end

