-- ==== Sys2Proof/Syntax.lean ====
section
/-! DEFINITION. The commands that reach the AL716: host commands, frames, head, camera and Causeway messages, pins,
timers and the engines' own acts. One constructor of Instr per row of spec/opcode_table.json. What a command carries
that the spec leaves to cryptography or to an analogue measurement stands in it as evidence (log entry 3). -/
namespace Sys2Proof

/-- The header of a host command packet (R80): the session that carries it, TAG, byte 6 (FENCE and reserved bits) and
byte 7 (reserved). -/
structure Hdr where
  session : Nat
  tag : Nat
  flags : Nat
  rsv : Nat
deriving DecidableEq, Repr

/-- What the check of a certificate chain finds (R129, R133, R136): whether the profile and signatures hold, how many
certificates it has, the leaf's role code, the SHA-384 of the root, whether the root is the Krovpor vendor root, the
leaf's validity in seconds UTC, and its subject public key, uncompressed in 97 bytes. -/
structure Chain where
  valid : Bool
  count : Nat
  role : Nat
  root : Nat
  vendorRoot : Bool
  notBefore : Nat
  notAfter : Nat
  pub : List Byte
deriving DecidableEq, Repr

/-- What the check of a firmware image finds (R154): both signatures, the SVN, the version and the build time. -/
structure ImageEv where
  krovpor : Bool
  integrator : Bool
  svn : Nat
  version : Nat
  build : Nat
deriving DecidableEq, Repr

/-- A Fresy frame as it arrives at a port (R54, the *Fresy header*): Ethernet fields, the header fields but TYPE, which the row
gives, the header's reserved bits ([4:0] byte 1, [15:5] SESSION, [19:16] PORTS, [27:20] byte 27), and the GCM tag that LEN
locates. -/
structure Frame where
  port : Nat
  size : Nat
  fcsOk : Bool
  pause : Bool
  dst : Nat
  src : Nat
  vlan : Option Nat
  ethertype : Nat
  ver : Nat
  session : Nat
  rtx : Bool
  ackreq : Bool
  epoch : Bool
  seq : Nat
  ack : Nat
  sack : Nat
  credit : Nat
  len : Nat
  ports : Nat
  txc : Nat
  rsv : Nat
  tag : List Byte
deriving DecidableEq, Repr

/-- An operand that carries nothing: what it names is computed from the state and the other operands (log entry 186). -/
abbrev Computed := Unit

/-- A CLOSE frame and its payload (R76). -/
structure Closing where
  frame : Frame
  payload : List Byte
deriving DecidableEq, Repr

/-- Words of a lane in which nothing else is sent (R301, R315). -/
structure FillRun where
  lane : Nat
  n : Nat
deriving DecidableEq, Repr

/-- The level of B at a sample of an encoder, and how many ns the levels of A and B have held since (R243). -/
structure EncLevel where
  levelB : Bool
  heldA : Nat
  heldB : Nat
deriving DecidableEq, Repr

/-- A pulse of Z on a channel, and how many ns its level has held (R243). -/
structure IndexLevel where
  ch : Nat
  held : Nat
deriving DecidableEq, Repr

/-- Which copies of the control block of the save store verify, A then B, and whether its checkpoint does (R450). -/
structure StoreOk where
  ctrl : List Bool
  ckpt : Bool
deriving DecidableEq, Repr

/-- What a DRAM burst is read for (R396): lines of a head of a segment, a camera frame, a camera line of the renderer's copy,
or the area of a command. -/
inductive DramUse where
  | nothing
  | spool (handle head first count : Nat)
  | frame (port num : Nat)
  | copy (y : Int)
  | job (cid : Nat)
deriving DecidableEq, Repr

/-- A burst as the devices return it (R392): the values of DQ0-DQ31 and CB0-CB7, bit i for beat i, and what reads it. -/
structure Burst where
  lines : List Nat
  use : DramUse
deriving DecidableEq, Repr

/-- A Causeway frame as it arrives on a lane (R359, R360): the LANE unit, and the bytes of the frame with its tag. -/
structure CFrame where
  lane : Nat
  bytes : List Byte
deriving DecidableEq, Repr

/-- The commands of the opcode table, one constructor per row. The first operand of each is the time island's count of
nanoseconds at which the command acts (log entry 1). -/
inductive Instr where
  /-- DEV_PARAM_READ (R89): Reads up to 64 parameters, each with its own status, taking the entries of one unit at one instant. -/
  | devParamRead (t : Nat) (h : Hdr) (b : List Byte)
  /-- DEV_PARAM_STAGE (R98): Adds entries to the session's stage after form and role checks. -/
  | devParamStage (t : Nat) (h : Hdr) (b : List Byte)
  /-- DEV_PARAM_COMMIT (R99): Applies every staged entry at one commit instant, or applies none when any unit refuses; also covers writes to parameters that have no row of their own. -/
  | devParamCommit (t : Nat) (h : Hdr) (b : List Byte)
  /-- DEV_PARAM_WRITE (R505): Tests ownership, stages the entries and commits the whole stage in one command. -/
  | devParamWrite (t : Nat) (h : Hdr) (b : List Byte)
  /-- DEV_STAGE_CLEAR (R100): Empties the session's stage. -/
  | devStageClear (t : Nat) (h : Hdr) (b : List Byte)
  /-- DEV_STAGE_READ (R110): Returns the entries held in the session's stage. -/
  | devStageRead (t : Nat) (h : Hdr) (b : List Byte)
  /-- DEV_RESULT_READ (R104): Returns the retained result of a command named by session and tag. -/
  | devResultRead (t : Nat) (h : Hdr) (b : List Byte)
  /-- DEV_RESULT_RELEASE (R105): Releases retained results named by tag, each with its own status. -/
  | devResultRelease (t : Nat) (h : Hdr) (b : List Byte)
  /-- DEV_STATUS (R110): Returns the device state, the start-up phase and the number of segments accepted. -/
  | devStatus (t : Nat) (h : Hdr) (b : List Byte)
  /-- DEV_ECHO (R110): Returns the bytes of its body unchanged. -/
  | devEcho (t : Nat) (h : Hdr) (b : List Byte)
  /-- SHELL_JOB_KEY_LOAD (R141): Unwraps a job key and stores it for the session, after the ordered checks. -/
  | shellJobKeyLoad (t : Nat) (h : Hdr) (b : List Byte) (key : Computed)
  /-- SHELL_JOB_KEY_DROP (R143): Ends every session's hold on a job key and marks the key for erasure. -/
  | shellJobKeyDrop (t : Nat) (h : Hdr) (b : List Byte)
  /-- SHELL_REKEY (R140): Starts the next key epoch of the direction from the AL716 to the host. -/
  | shellRekey (t : Nat) (h : Hdr) (b : List Byte)
  /-- SHELL_COMMISSION_BURN (R135): Burns a root digest into an empty fuse slot and reads it back. -/
  | shellCommissionBurn (t : Nat) (h : Hdr) (b : List Byte) (digest : Computed)
  /-- SHELL_COMMISSION_REVOKE (R135): Revokes a written fuse slot, unless that would leave no Integrator root. -/
  | shellCommissionRevoke (t : Nat) (h : Hdr) (b : List Byte)
  /-- SHELL_CERT_READ (R133): Returns a slice of the device certificate chain. -/
  | shellCertRead (t : Nat) (h : Hdr) (b : List Byte) (offset count : Nat)
  /-- SHELL_ATTEST (R110): Returns a signed statement of identity and firmware over a nonce. -/
  | shellAttest (t : Nat) (h : Hdr) (b : List Byte)
  /-- FRESY_PORT_STATUS (R110): Returns the state of ports F0 to F3. -/
  | fresyPortStatus (t : Nat) (h : Hdr) (b : List Byte)
  /-- FRESY_SESSION_LIST (R110): Returns the open sessions with their roles and port sets. -/
  | fresySessionList (t : Nat) (h : Hdr) (b : List Byte)
  /-- OWN_CLAIM (R116): Claims ownership, plainly or by force, or renews the claimant's own lease. -/
  | ownClaim (t : Nat) (h : Hdr) (b : List Byte)
  /-- OWN_RELEASE (R112): The owning session releases ownership, and the device becomes VACANT. -/
  | ownRelease (t : Nat) (h : Hdr) (b : List Byte)
  /-- OWN_LEASE_RENEW (R119): Moves the owner's lease end to arrival plus the lease in force. -/
  | ownLeaseRenew (t : Nat) (h : Hdr) (b : List Byte)
  /-- OWN_HANDOVER_OFFER (R123): Offers ownership to a target session and starts the handover window. -/
  | ownHandoverOffer (t : Nat) (h : Hdr) (b : List Byte)
  /-- OWN_HANDOVER_ACCEPT (R124): The target of a standing offer takes ownership with a new lease. -/
  | ownHandoverAccept (t : Nat) (h : Hdr) (b : List Byte)
  /-- OWN_UNPIN (R502): Ends the named parameter pins, or every pin the role may change. -/
  | ownUnpin (t : Nat) (h : Hdr) (b : List Byte)
  /-- OWN_POLICY_RESET (R497): Returns integrator policy to its commissioned values and clears every parameter and nozzle pin at one commit instant. -/
  | ownPolicyReset (t : Nat) (h : Hdr) (b : List Byte)
  /-- OWN_PIN_LIST (R506): Lists the pins in force in ascending ID from an offset. -/
  | ownPinList (t : Nat) (h : Hdr) (b : List Byte)
  /-- SPOOL_SEG_OPEN (R164): Checks a segment header, reserves pods and returns the segment handle. -/
  | spoolSegOpen (t : Nat) (h : Hdr) (b : List Byte)
  /-- SPOOL_SEG_DATA (R167): Writes strip container bytes above STRIP_HELD and checks the tag when the strip is complete. -/
  | spoolSegData (t : Nat) (h : Hdr) (b : List Byte) (husk : Nat)
  /-- SPOOL_SEG_CLOSE (R169): Moves an OPEN segment to VERIFYING, toward admission or a group vote. -/
  | spoolSegClose (t : Nat) (h : Hdr) (b : List Byte)
  /-- SPOOL_SEG_CANCEL (R176): Cancels a segment as its state allows. -/
  | spoolSegCancel (t : Nat) (h : Hdr) (b : List Byte)
  /-- SPOOL_GROUP_ARM (R178): The coordinator's owner starts the group vote. -/
  | spoolGroupArm (t : Nat) (h : Hdr) (b : List Byte)
  /-- SPOOL_SEG_STATUS (R175): Returns the state, flags and lines finished of each named segment. -/
  | spoolSegStatus (t : Nat) (h : Hdr) (b : List Byte)
  /-- SPOOL_RECORD_READ (R184): Returns the completion record of a segment. -/
  | spoolRecordRead (t : Nat) (h : Hdr) (b : List Byte)
  /-- SPOOL_REPEAT (R182): Creates and admits a new segment that prints the data of a KEEP segment again. -/
  | spoolRepeat (t : Nat) (h : Hdr) (b : List Byte)
  /-- SPOOL_ACCOUNT_READ (R187): Returns the nine print accounting counters. -/
  | spoolAccountRead (t : Nat) (h : Hdr) (b : List Byte)
  /-- DRAM_STATUS (R110): Returns the DRAM configuration, training state and scrub progress. -/
  | dramStatus (t : Nat) (h : Hdr) (b : List Byte)
  /-- DRAM_ERROR_READ (R396): Returns DRAM error records, newest first. -/
  | dramErrorRead (t : Nat) (h : Hdr) (b : List Byte)
  /-- DECODE_STATUS (R209): Returns the units in service and the session's recent strip failures. -/
  | decodeStatus (t : Nat) (h : Hdr) (b : List Byte)
  /-- COMP_LEDGER_READ (R110): Returns nozzle-ledger entries of one head. -/
  | compLedgerRead (t : Nat) (h : Hdr) (b : List Byte)
  /-- COMP_NOZZLE_SET (R241): Sets a slot's state, remap or placement, and pins or unpins the entry. -/
  | compNozzleSet (t : Nat) (h : Hdr) (b : List Byte)
  /-- COMP_TABLE_WRITE (R215): Stages a level-remap table in the session's stage. -/
  | compTableWrite (t : Nat) (h : Hdr) (b : List Byte)
  /-- COMP_CHART_QUEUE (R233): Creates and admits a chart segment without verification. -/
  | compChartQueue (t : Nat) (h : Hdr) (b : List Byte)
  /-- COMP_ALIGN_APPLY (R234): Applies a chart measurement to the ledger of each head of the chart. -/
  | compAlignApply (t : Nat) (h : Hdr) (b : List Byte)
  /-- POS_STATUS (R110): Returns position, high-water mark, speed and channel state. -/
  | posStatus (t : Nat) (h : Hdr) (b : List Byte)
  /-- POS_CHANNEL_SELECT (R254): Makes a named encoder channel active at its next count. -/
  | posChannelSelect (t : Nat) (h : Hdr) (b : List Byte)
  /-- POS_REJECT_TEST (R264): Asserts a reject output once for a given width. -/
  | posRejectTest (t : Nat) (h : Hdr) (b : List Byte)
  /-- FIRE_STATUS (R110): Returns line counts and flags for each head. -/
  | fireStatus (t : Nat) (h : Hdr) (b : List Byte)
  /-- HEAD_MEMORY_READ (R110): Reads bytes of a head memory with its signature state. -/
  | headMemoryRead (t : Nat) (h : Hdr) (b : List Byte)
  /-- HEAD_POWER (R281): Switches a head's power on or off. -/
  | headPower (t : Nat) (h : Hdr) (b : List Byte)
  /-- HEAD_RECIPE_WRITE (R273): Stages one level record of a head's recipe. -/
  | headRecipeWrite (t : Nat) (h : Hdr) (b : List Byte)
  /-- HEAD_REAUTH (R156): Authenticates an attached head again. -/
  | headReauth (t : Nat) (h : Hdr) (b : List Byte)
  /-- LANE_STATUS (R110): Returns the state of lanes 0 to 35. -/
  | laneStatus (t : Nat) (h : Hdr) (b : List Byte)
  /-- LANE_RETRAIN (R314): Takes a lane down as FORCED, retrains it and reports the result. -/
  | laneRetrain (t : Nat) (h : Hdr) (b : List Byte)
  /-- LANE_LOOPBACK (R315): Runs a near or far loopback on a lane and counts the errors. -/
  | laneLoopback (t : Nat) (h : Hdr) (b : List Byte)
  /-- CAM_STATUS (R110): Returns the link and frame state of C0 to C3. -/
  | camStatus (t : Nat) (h : Hdr) (b : List Byte)
  /-- CAM_REG_READ (R319): Reads camera registers over the control channel. -/
  | camRegRead (t : Nat) (h : Hdr) (b : List Byte)
  /-- CAM_REG_WRITE (R319): Writes camera registers over the control channel. -/
  | camRegWrite (t : Nat) (h : Hdr) (b : List Byte)
  /-- CAM_STATS_READ (R334): Returns frame statistics records of a port. -/
  | camStatsRead (t : Nat) (h : Hdr) (b : List Byte)
  /-- INSP_STATS_READ (R344): Returns alarm state, per-second counts or defect records as KIND selects. -/
  | inspStatsRead (t : Nat) (h : Hdr) (b : List Byte)
  /-- INSP_IMAGE_REQUEST (R355): Returns camera lines of one job encrypted under an image key. -/
  | inspImageRequest (t : Nat) (h : Hdr) (b : List Byte)
  /-- INSP_COVERAGE_READ (R341): Returns inspection coverage per engine and for the device. -/
  | inspCoverageRead (t : Nat) (h : Hdr) (b : List Byte)
  /-- INSP_CHART_MEASURE (R353): Measures a finished chart and returns a measurement handle. -/
  | inspChartMeasure (t : Nat) (h : Hdr) (b : List Byte)
  /-- CAUSE_STATUS (R110): Returns ring state, address and spans. -/
  | causeStatus (t : Nat) (h : Hdr) (b : List Byte)
  /-- CAUSE_ENUMERATE (R361): Starts enumeration of the ring by this member. -/
  | causeEnumerate (t : Nat) (h : Hdr) (b : List Byte)
  /-- CAUSE_MEMBER_LIST (R110): Returns the ring members from a first address. -/
  | causeMemberList (t : Nat) (h : Hdr) (b : List Byte)
  /-- PACK_COMPRESS (R401): Compresses a source into a pack stream as a PACK_SUBMIT job. -/
  | packCompress (t : Nat) (h : Hdr) (b : List Byte)
  /-- PACK_DECOMPRESS (R402): Inflates and checks a pack stream as a PACK_SUBMIT job. -/
  | packDecompress (t : Nat) (h : Hdr) (b : List Byte)
  /-- PACK_ABORT (R404): Reduces a pack job's output space to zero so that it fails. -/
  | packAbort (t : Nat) (h : Hdr) (b : List Byte)
  /-- EVT_SUBSCRIBE (R415): Replaces the session's event subscription. -/
  | evtSubscribe (t : Nat) (h : Hdr) (b : List Byte)
  /-- EVT_LOG_READ (R412): Returns trouble-log entries from a SEQ, with redaction and skipping. -/
  | evtLogRead (t : Nat) (h : Hdr) (b : List Byte)
  /-- EVT_CLEAR (R408): Clears the latches of the named events as their class allows. -/
  | evtClear (t : Nat) (h : Hdr) (b : List Byte)
  /-- EVT_LOG_EXPORT (R413): Packs a range of log entries for the session. -/
  | evtLogExport (t : Nat) (h : Hdr) (b : List Byte)
  /-- MGMT_MAILBOX_POST (R424): A host posts a message into a TM mailbox. -/
  | mgmtMailboxPost (t : Nat) (h : Hdr) (b : List Byte)
  /-- MGMT_MAILBOX_ACKNOWLEDGE (R425): A host acknowledges a request-class TH mailbox with a code. -/
  | mgmtMailboxAcknowledge (t : Nat) (h : Hdr) (b : List Byte)
  /-- MGMT_MAILBOX_READ (R425): A host reads a TH mailbox. -/
  | mgmtMailboxRead (t : Nat) (h : Hdr) (b : List Byte)
  /-- MGMT_ACKNOWLEDGE_TAKE (R425): A host takes the acknowledge record of a TM mailbox. -/
  | mgmtAcknowledgeTake (t : Nat) (h : Hdr) (b : List Byte)
  /-- MGMT_DOORBELL (R428): Sets TM doorbells, then returns and clears the TH doorbells taken. -/
  | mgmtDoorbell (t : Nat) (h : Hdr) (b : List Byte)
  /-- POWER_STATUS (R110): Returns the rails, VDD_CORE and hold-up state. -/
  | powerStatus (t : Nat) (h : Hdr) (b : List Byte)
  /-- POWER_FW_STAGE (R453): Writes image data into the bank that is not running, erasing it at offset 0. -/
  | powerFwStage (t : Nat) (h : Hdr) (b : List Byte) (length : Nat) (image : Option ImageEv)
  /-- POWER_FW_SWITCH (R454): Requests a switch to the staged bank at the next firmware gap. -/
  | powerFwSwitch (t : Nat) (h : Hdr) (b : List Byte)
  /-- POWER_RESTART_REPORT (R452): Returns the restart report from an offset. -/
  | powerRestartReport (t : Nat) (h : Hdr) (b : List Byte)
  /-- CAL_RUN (R463): Measures field-trimmable elements and stores field offsets. -/
  | calRun (t : Nat) (h : Hdr) (b : List Byte) (devs : List (Int × Int × Int))
  /-- CAL_VERIFY (R462): Measures named elements against references without changing trims. -/
  | calVerify (t : Nat) (h : Hdr) (b : List Byte) (devs : List (Option (Int × Int × Int)))
  /-- CAL_HOLDUP_TEST (R466): Drives HOLD_TST and starts measuring hold-up capacitance and ESR. -/
  | calHoldupTest (t : Nat) (h : Hdr) (b : List Byte) (mv : Nat)
  /-- TEST_BIST (R492): Runs built-in self-tests on the targets of the mask. -/
  | testBist (t : Nat) (h : Hdr) (b : List Byte) (failed : List (Nat × Nat))
  /-- TEST_CAPTURE (R493): Records samples of a capture point into reserved pods. -/
  | testCapture (t : Nat) (h : Hdr) (b : List Byte) 
  /-- UTC_FLOOR_WRITE (R132): A write of SHELL.UTC_FLOOR raises the UTC estimate unless it lies below it. -/
  | utcFloorWrite (t : Nat) (session value : Nat)
  /-- SVN_COMMIT_WRITE (R155): A write of SHELL.SVN_COMMIT burns anti-rollback fuses up to a bounded value. -/
  | svnCommitWrite (t : Nat) (session value : Nat)
  /-- READ_PARAM (R420): Management SPI read of a parameter that the port may learn. -/
  | readParam (t : Nat) (mosi : List Byte)
  /-- WRITE_PARAM (R420): Management SPI write of a parameter as a one-entry commit. -/
  | writeParam (t : Nat) (mosi : List Byte)
  /-- MGMT_HOLDER_CLAIM (R118): A non-zero management-port write of OWN.HOLDER claims ownership while MGMT_CLAIM is 1. -/
  | mgmtHolderClaim (t : Nat) (value : Nat)
  /-- MGMT_HOLDER_RELEASE (R118): A management-port write of 0 to OWN.HOLDER releases ownership while the port holds it. -/
  | mgmtHolderRelease (t : Nat) 
  /-- RESULT (R420): Returns the status and result byte of the latest management write. -/
  | result (t : Nat) (mosi : List Byte)
  /-- LOG_READ (R420): Reads trouble-log entries over the management port. -/
  | logRead (t : Nat) (mosi : List Byte)
  /-- MBOX_POST (R424): The management port posts a message into a TH mailbox. -/
  | mboxPost (t : Nat) (mosi : List Byte)
  /-- MBOX_READ (R425): The management port reads a TM mailbox. -/
  | mboxRead (t : Nat) (mosi : List Byte)
  /-- MBOX_ACK (R425): The management port acknowledges a request-class TM mailbox. -/
  | mboxAck (t : Nat) (mosi : List Byte)
  /-- ACK_READ (R425): The management port takes the acknowledge record of a TH mailbox. -/
  | ackRead (t : Nat) (mosi : List Byte)
  /-- BELL_RING (R428): The management port sets TH doorbells as W1S. -/
  | bellRing (t : Nat) (mosi : List Byte)
  /-- BELL_TAKE (R428): The management port reads and clears the TM doorbells. -/
  | bellTake (t : Nat) (mosi : List Byte)
  /-- SIDE_RESET (R427): The management side reports its restart. -/
  | sideReset (t : Nat) (mosi : List Byte)
  /-- HELLO (R59): A host HELLO opens a handshake, and the AL716 answers with CHALLENGE. -/
  | hello (t : Nat) (f : Frame) (payload : List Byte) (chain : Chain) (role ports : Computed)
  /-- PROVE (R61): A host PROVE is verified, and a session opens or is refused. -/
  | prove (t : Nat) (f : Frame) (payload : List Byte) (sigOk : Computed)
  /-- HANDSHAKE_ABANDON (R59): A handshake whose PROVE has not arrived 200 ms after CHALLENGE is abandoned. -/
  | handshakeAbandon (t : Nat) (src id : Nat)
  /-- DATA (R63): A DATA frame is authenticated, sequenced and delivered in order, and its packets are parsed. -/
  | data (t : Nat) (f : Frame) (payload : List Byte)
  /-- ACK (R64): An ACK frame advances acknowledgement and credit. -/
  | ack (t : Nat) (f : Frame)
  /-- CLOSE (R76): A CLOSE frame ends a session after its in-flight commands. -/
  | close (t : Nat) (c : Closing)
  /-- FENCED_COMMAND_START (R86): A fenced command starts once every earlier command of its session has sent its final reply. -/
  | fencedCommandStart (t : Nat) (cid : Nat)
  /-- RETRANSMIT_TIMER (R65): An unacknowledged frame is resent on the next port when its doubling timer expires. -/
  | retransmitTimer (t : Nat) (session seq : Nat)
  /-- FRESY_LOCK_LOSS (R73): A port that has lost block lock for 1 ms goes down and its frames are resent elsewhere. -/
  | fresyLockLoss (t : Nat) (port : Nat)
  /-- PORT_SILENCE_EXPIRY (R73): A port with no accepted frame for PORT_SILENCE goes down. -/
  | portSilenceExpiry (t : Nat) (port : Nat)
  /-- FRESY_PORT_REJOIN (R74): A port after 100 ms of unbroken lock rejoins the sets, and unacknowledged frames are resent on it. -/
  | fresyPortRejoin (t : Nat) (port : Nat)
  /-- RIDE_THROUGH_EXPIRY (R74): A session whose port set has been down for RIDE_THROUGH ends with cause 0x02. -/
  | rideThroughExpiry (t : Nat) (session : Nat)
  /-- KEEPALIVE_EXPIRY (R75): An ACK frame is sent on a port that has carried nothing of the session for KEEPALIVE. -/
  | keepaliveExpiry (t : Nat) (session port : Nat)
  /-- EPOCH_WINDOW_END (R56): 64 ms after a new epoch's first frame, only frames of the new epoch are accepted. -/
  | epochWindowEnd (t : Nat) (session : Nat) (receive : Bool)
  /-- DEFERRED_REKEY_START (R140): A held SHELL_REKEY starts its epoch when the 64 ms of R56 end. -/
  | deferredRekeyStart (t : Nat) (session : Nat)
  /-- CREDIT_GRANT (R70): Receive credit is granted once shared receive memory is free. -/
  | creditGrant (t : Nat) (session : Nat)
  /-- IDLE_LIMIT_EXPIRY (R121): A session with no command packet for IDLE_LIMIT ends with cause 0x03. -/
  | idleLimitExpiry (t : Nat) (session : Nat)
  /-- RESULT_RETENTION_EXPIRY (R105): Results of an ended session are released 8 s after it ended. -/
  | resultRetentionExpiry (t : Nat) (session tag : Nat)
  /-- EVENT_FRAME_SEND (R416): Queued event entries leave in an EVENT frame once credit and window allow. -/
  | eventFrameSend (t : Nat) (session : Nat)
  /-- LEASE_END (R112): The owner's lease ends, and the device becomes VACANT. -/
  | leaseEnd (t : Nat)
  /-- HANDOVER_WINDOW_END (R112): An offer whose window ends returns to OWNED by the offerer. -/
  | handoverWindowEnd (t : Nat)
  /-- MGMT_IDLE_EXPIRY (R112): The management port's hold lapses after IDLE_LIMIT without an SPI transaction. -/
  | mgmtIdleExpiry (t : Nat)
  /-- LOCKSTEP_MISMATCH (R12): A core pair's results differ; the pair discards the output, stops and restarts from its checkpoint. -/
  | lockstepMismatch (t : Nat) (pair : Nat) (cuts : Computed)
  /-- CORE_RESTART_COMPLETE (R12): A restarted pair resumes, and held commands are processed in order. -/
  | coreRestartComplete (t : Nat) (pair : Nat)
  /-- CORE_RESTART_TIMEOUT (R12): A restart not complete within 50 ms fails and starts again, and a third failure in 60 s makes an ENGINE reset. -/
  | coreRestartTimeout (t : Nat) (pair : Nat)
  /-- INSP_ENGINE_FAIL (R15): An inspection engine failing its self-check or silent for 10 ms is taken out of service. -/
  | inspEngineFail (t : Nat) (engine : Nat)
  /-- PACE_WINDOW (R16): Each 100 µs window yields each service's pace reading. -/
  | paceWindow (t : Nat) (counts : List (List Nat))
  /-- VDD_CORE_LOWER (R432): The policy pair lowers VDD_CORE by one step after 100 ms of unused pace. -/
  | vddCoreLower (t : Nat) 
  /-- VDD_CORE_RAISE (R432): The policy pair raises VDD_CORE by one step, at most once per 1 ms. -/
  | vddCoreRaise (t : Nat) 
  /-- READ_VOUT_CHECK (R433): 1 ms after a write, READ_VOUT and the regulator status are checked. -/
  | readVoutCheck (t : Nat) (ack fault : Bool) (vout : Nat)
  /-- ISLAND_RESET (R28): A one-sided reset of a strait discards its entries in flight and holds the other side. -/
  | islandReset (t : Nat) (svc unit entries : Nat) (lines : List (Nat × Nat))
  /-- STRAIT_RESYNC (R28): Pointers are resynchronised after the reset side is released, and a log record is written. -/
  | straitResync (t : Nat) (svc unit : Nat)
  /-- HORIZON_ENTRY (R38): A segment enters its commit horizon as the web reaches its first line less the lead, and decoding starts. -/
  | horizonEntry (t : Nat) (handle : Nat)
  /-- PGO_EDGE_LATCH (R259): A print-go edge latches position and ring time at its first sample. -/
  | pgoEdgeLatch (t : Nat) (input : Nat) (rising : Bool)
  /-- PGO_EDGE_CONFIRM (R259): A print-go edge held for the debounce time is confirmed and binds the oldest unbound segment. -/
  | pgoEdgeConfirm (t : Nat) (input : Nat)
  /-- PGO_PULSE_DISCARD (R259): A print-go pulse shorter than the debounce is discarded and counted. -/
  | pgoPulseDiscard (t : Nat) (input : Nat)
  /-- STRIP_CHECK_START (R201): A free check unit takes a strip or chunk whose first byte has arrived. -/
  | stripCheckStart (t : Nat) (handle head k unit : Nat)
  /-- STRIP_CHECK_COMPLETE (R199): A strip's check ends, and STRIP_STATE is set to verified or failed. -/
  | stripCheckComplete (t : Nat) (handle head k : Nat) (tagOk plain : Computed)
  /-- GROUP_VOTE_TIMEOUT (R178): At 2 ms without every vote, the coordinator sends ABORT. -/
  | groupVoteTimeout (t : Nat) (group : Nat)
  /-- GROUP_COMMIT_INSTANT (R178): At the commit instant every member accepts its group segment. -/
  | groupCommitInstant (t : Nat) (group : Nat)
  /-- GROUP_DECISION_LOST (R180): A member with no decision 4 ms after its yes vote refuses its segment. -/
  | groupDecisionLost (t : Nat) (handle : Nat)
  /-- GROUP_WAIT_EXPIRY (R181): A VOTING segment with no PREPARE within GROUP_WAIT is refused. -/
  | groupWaitExpiry (t : Nat) (handle : Nat)
  /-- CHUNK_START (R204): A free inflate unit starts a head's next chunk once it falls within the line store. -/
  | chunkStart (t : Nat) (handle head k start unit corrected : Nat)
  /-- CHUNK_RESTART (R206): A chunk whose decoded word fails its husk code restarts on another unit. -/
  | chunkRestart (t : Nat) (handle head k start unit first count : Nat)
  /-- DECODE_UNIT_OUT (R207): An inflate unit failing self-check leaves service and the decode budget falls. -/
  | decodeUnitOut (t : Nat) (unit : Nat)
  /-- CHECK_UNIT_OUT (R207): A check unit failing self-check leaves service. -/
  | checkUnitOut (t : Nat) (unit : Nat)
  /-- LINE_BOUNDARY (R265): A head reaches the line boundary of a position, and its head-line is snapshotted, packed and sent. -/
  | lineBoundary (t : Nat) (head : Nat) (p : Int)
  /-- GO_LAUNCH (R287): The head-lane island launches the GO marker of a head-line. -/
  | goLaunch (t : Nat) (lane lseq : Nat) (fine : Computed)
  /-- STATUS (R276): A head STATUS message is taken, and its temperature is compared with warning and limit. -/
  | status (t : Nat) (lane temp flags faultCode recipeTseq vernierTseq : Nat)
  /-- TEMP_LOOP_TICK (R275): Every 10 ms the policy pair moves PREHEAT toward the set point. -/
  | tempLoopTick (t : Nat) (head : Nat)
  /-- LINE_ACK (R285): A LINE_ACK is taken, and a missing phase is recorded. -/
  | lineAck (t : Nat) (lane lseq flag mask : Nat)
  /-- LINE_ACK_TIMEOUT (R285): A line without LINE_ACK 100 µs after its limit counts as not printed. -/
  | lineAckTimeout (t : Nat) (head lseq : Nat)
  /-- HEAD_HELLO (R283): A head HELLO starts the attach sequence, or a new attach for a different identity. -/
  | headHello (t : Nat) (lane identity slots memSize : Nat)
  /-- MEM_DATA (R283): Head memory bytes are taken, and a complete memory is checked and the head authenticated. -/
  | memData (t : Nat) (lane rtag : Nat) (error : Bool) (data : List Byte) (chain : Chain) (sigOk : Computed)
  /-- TABLE_RESEND (R288): A table message whose TSEQ is not echoed within 200 µs is resent. -/
  | tableResend (t : Nat) (head kind tseq : Nat)
  /-- POWER_GOOD_TIMEOUT (R282): A head without POWER_GOOD 100 ms after HPEN loses HPEN with EV040 reason 3. -/
  | powerGoodTimeout (t : Nat) (head : Nat)
  /-- HEAD_FAULT_CLEAR (R285): After FAULT has read 0 for 10 ms, the head resumes at a line boundary. -/
  | headFaultClear (t : Nat) (head : Nat)
  /-- STATUS_SILENCE (R284): No STATUS for 1 ms while a lane is up makes the head lost. -/
  | statusSilence (t : Nat) (head : Nat)
  /-- GATE_REPORT (R279): A GATE_REPORT records the gated line as kind 1 at the column reached. -/
  | gateReport (t : Nat) (lane lseq flag mask : Nat)
  /-- GATE_REPORT_TIMEOUT (R279): With no GATE_REPORT in 100 µs, the line is recorded with COLUMN COL_FIRST. -/
  | gateReportTimeout (t : Nat) (head : Nat) (lseq : Computed)
  /-- GATE_ACTIVATE (R278): A gate input active for its filter sends GATE on its heads and stops GO. -/
  | gateActivate (t : Nat) (gate : Nat)
  /-- GATE_RELEASE (R280): A gate inactive for its filter sends GATE STATE 0, and firing resumes. -/
  | gateRelease (t : Nat) (gate : Nat)
  /-- HPEN_READBACK_FAULT (R483): HPEN or REJ readback disagreeing for 10 µs raises EV040 or EV053 reason 4. -/
  | hpenReadbackFault (t : Nat) (ball : Nat)
  /-- LANE_LOSS_REPORT (R312): A lane loss reaching FIRE moves the head to single-lane operation from the next line boundary. -/
  | laneLossReport (t : Nat) (lane : Nat)
  /-- LANE_RESTORE_HOLD_END (R313): After RESTORE_HOLD of a returned lane, the port returns to two lanes and 3 bits. -/
  | laneRestoreHoldEnd (t : Nat) (lane : Nat)
  /-- LANE_FAULT (R309): A lane fault takes the lane down with a reason. -/
  | laneFault (t : Nat) (lane reason : Nat)
  /-- LANE_RETRAIN_TIMER (R305): Every 20 ms a FAILED lane starts bring-up again. -/
  | laneRetrainTimer (t : Nat) (lane : Nat)
  /-- LOAD_CHECK (R305): The transmitter load check ends and training cycles begin. -/
  | loadCheck (t : Nat) (lane load : Nat)
  /-- TRAIN (R306): A TRAIN word is taken for readiness or as a latency probe or echo. -/
  | train (t : Nat) (lane word rtt turn ctle : Nat)
  /-- TRAIN_TIMEOUT (R305): A lane not UP within tUP fails. -/
  | trainTimeout (t : Nat) (lane : Nat)
  /-- ALIGN (R296): An ALIGN is taken, the scrambler state is checked and RX_UP noted. -/
  | align (t : Nat) (lane w1 w2 words : Nat) (inverted : Bool)
  /-- ALIGN_DUE (R298): A transmitter sends ALIGN within 8,192 words of the previous one. -/
  | alignDue (t : Nat) (lane : Nat) (w : Computed)
  /-- FILL_DUE (R301): A transmitter sends FILL at least once in 640 words. -/
  | fillDue (t : Nat) (run : FillRun)
  /-- FAR_RX_SILENCE (R309): No ALIGN for 16,384 words takes the lane down with FAR_RX. -/
  | farRxSilence (t : Nat) (lane : Nat)
  /-- THEAL_FRAME_RECEIVE (R300): A Theal frame is assembled and checked, then delivered or discarded. -/
  | thealFrameReceive (t : Nat) (lane fill : Nat) (words : List (Nat × Nat))
  /-- LOOP (R316): A LOOP request starts or ends far-end loopback. -/
  | loop (t : Nat) (lane : Nat) (start : Bool)
  /-- FAR_LOOPBACK_EXPIRY (R316): Far-end loopback ends after 60 s without LOOP end. -/
  | farLoopbackExpiry (t : Nat) (lane : Nat)
  /-- LOOPBACK_END (R315): A loopback ends at its duration, replies with counts and retrains the lane. -/
  | loopbackEnd (t : Nat) (lane : Nat) (words wordErrs bitErrs : Computed)
  /-- ENCODER_COUNT (R244): A counting edge updates the channel count, position and high-water mark. -/
  | encoderCount (t : Nat) (ch : Nat) (riseA riseB : Bool) (level : EncLevel)
  /-- SINCOS_SAMPLE (R245): A sin/cos sample yields phase and amplitude ratio. -/
  | sincosSample (t : Nat) (ch : Nat) (a b : Int) (phase : Computed)
  /-- INTERPOLATION_STOP (R251): With no count for 2 × Δt, interpolation of line starts stops. -/
  | interpolationStop (t : Nat)
  /-- CHANNEL_FAULT (R246): A fault reason appears on a channel. -/
  | channelFault (t : Nat) (ch reason : Nat)
  /-- CHANNEL_RECOVER (R254): A channel free of reasons for RECOVER_TIME leaves fault and becomes standby. -/
  | channelRecover (t : Nat) (ch : Nat)
  /-- SPEED_WINDOW (R256): A speed window closes and SPEED and LINE_RATE update. -/
  | speedWindow (t : Nat)
  /-- INDEX_PULSE (R257): A Z pulse is compared with its expected count. -/
  | indexPulse (t : Nat) (z : IndexLevel)
  /-- INDEX_MISSING (R257): A Z pulse absent past its tolerance raises EV058 with 0x8000_0000. -/
  | indexMissing (t : Nat) (ch : Nat)
  /-- RESNAP (R258): At a segment gap, the base moves by the latest index deviation. -/
  | resnap (t : Nat)
  /-- REJECT_DUE (R262): A reject candidate falls due and the output asserts or the candidate drops. -/
  | rejectDue (t : Nat) (output : Nat)
  /-- REJECT_PULSE_END (R263): A reject assertion ends when its last merged pulse ends. -/
  | rejectPulseEnd (t : Nat) (output : Nat)
  /-- DEFERRED_OUT_APPLY (R236): A deferred OUT declaration is applied once the rate limits allow. -/
  | deferredOutApply (t : Nat) 
  /-- ALIGN_APPLIED (R234): EV037 reports chart changes taking effect for a head at a head gap or once the head is free. -/
  | alignApplied (t : Nat) (head : Nat)
  /-- JOURNAL_GROUP_ADMIT (R448): A group of ledger changes waiting for journal room is journalled whole. -/
  | journalGroupAdmit (t : Nat)
  /-- LEDGER_CHECKPOINT (R447): Every 10 s, or at 4,096 journal entries, the ledger checkpoint is written. -/
  | ledgerCheckpoint (t : Nat) 
  /-- STITCH_CHANGE (R224): A stitch change from the peer is held and applied at its effective position. -/
  | stitchChange (t : Nat) (f : CFrame)
  /-- STITCH_OFFER (R225): A restore offer from the peer is acknowledged if it arrives in time. -/
  | stitchOffer (t : Nat) (f : CFrame)
  /-- STITCH_ACK (R225): The peer's acknowledgement lets the member resume its share or offer again. -/
  | stitchAck (t : Nat) (f : CFrame)
  /-- ZONE_STATE (R223): The peer's zone state is compared with the member's own zone. -/
  | zoneState (t : Nat) (f : CFrame)
  /-- PEER_PATH_TIMEOUT (R375): A peer unheard for PATH_TIMEOUT becomes unreachable. -/
  | peerPathTimeout (t : Nat) (peer : Nat)
  /-- CAMERA_TRIGGER (R320): A line trigger leaves when P reaches x_k, with its stamp and parameter set. -/
  | cameraTrigger (t : Nat) (port : Nat)
  /-- CAMERA_LINE (R323): A camera line arrives and takes the oldest remaining stamp. -/
  | cameraLine (t : Nat) (port : Nat) (header : Option (Nat × Nat)) (samples : List Nat) (stop : Bool)
  /-- CAMERA_FRAME_CLOSE (R325): A frame closes, its statistics are computed and it is registered and assigned. -/
  | cameraFrameClose (t : Nat) (port : Nat) (yielded : Bool) (missing : List Int) (tiles blank : Computed)
  /-- CAM_PACKET_ERROR (R324): A stream packet failing its check is discarded. -/
  | camPacketError (t : Nat) (port : Nat)
  /-- CAM_LINK_DOWN (R318): A connection of a group loses lock, and the group goes down. -/
  | camLinkDown (t : Nat) (port : Nat)
  /-- CAM_LINK_UP (R318): Every connection of a group locks again, discovery runs and the group comes up. -/
  | camLinkUp (t : Nat) (port speed : Nat)
  /-- CAM_ACK_TIMEOUT (R319): A camera control command without acknowledgement in 40 ms draws 0x0502. -/
  | camAckTimeout (t : Nat) (port : Nat)
  /-- CAM_CONTROL_ACK (R319): The camera's acknowledgement completes a register access. -/
  | camControlAck (t : Nat) (port code : Nat) (more : Bool) (data : List Byte)
  /-- DEFECT_ANALYSIS (R343): An engine finds and classifies defect regions of a frame. -/
  | defectAnalysis (t : Nat) (engine : Nat)
  /-- DEFECT_ALARM_CLEAR (R344): A class leaves alarm after 10 s with fewer defects. -/
  | defectAlarmClear (t : Nat) (cls : Nat)
  /-- NOZZLE_HEALTH_ANALYSIS (R345): An engine forms STRIKE and CLEAR verdicts per firing set. -/
  | nozzleHealthAnalysis (t : Nat) (engine : Nat)
  /-- ALIGNMENT_ANALYSIS (R350): An engine estimates edge shifts and moves VERNIER for a band. -/
  | alignmentAnalysis (t : Nat) (engine : Nat) (edges : Computed)
  /-- COVERAGE_LOW (R341): Defect coverage below its alarm for 10 s raises EV068. -/
  | coverageLow (t : Nat) 
  /-- FRAME_BUFFER_HOLD_EXPIRY (R342): A chart frame held 60 s after its chart is released. -/
  | frameBufferHoldExpiry (t : Nat) (port frame : Nat)
  /-- MEASUREMENT_EXPIRY (R354): A measurement is dropped 600 s after its FINAL and use. -/
  | measurementExpiry (t : Nat) (handle : Nat)
  /-- CHART_MEASURE_DONE (R353): A chart measurement completes and sends its FINAL reply. -/
  | chartMeasureDone (t : Nat) (chart : Nat) (found : Computed)
  /-- TIME (R366): A TIME frame yields the ring-time offset from the neighbour. -/
  | time (t : Nat) (f : CFrame) (rx : Nat)
  /-- TIME_SEND (R356): A TIME frame is sent every 10 µs on each direction of each lane UP. -/
  | timeSend (t : Nat) (lane : Nat)
  /-- BEACON (R377): A BEACON is taken, and the return of the member's own beacon noted. -/
  | beacon (t : Nat) (f : CFrame)
  /-- BEACON_SEND (R377): An addressed member sends BEACON every 100 µs. -/
  | beaconSend (t : Nat)
  /-- POSITION (R371): A POSITION frame is accepted as a count sample. -/
  | position (t : Nat) (f : CFrame)
  /-- POSITION_SEND (R370): The position source sends POSITION every POS_PERIOD. -/
  | positionSend (t : Nat)
  /-- DISCOVER (R361): A DISCOVER is answered with DISCOVER_REPLY. -/
  | discover (t : Nat) (f : CFrame) (lower : Bool)
  /-- DISCOVER_REPLY (R361): A reply is collected by the enumerator. -/
  | discoverReply (t : Nat) (f : CFrame)
  /-- ENUM_COLLECT_END (R361): After 2 ms of collecting, addresses are assigned and KEY sent, or enumeration fails. -/
  | enumCollectEnd (t : Nat)
  /-- KEY (R362): KEY fragments are assembled and the record checked before install. -/
  | key (t : Nat) (f : CFrame) (device : Bool) (pub : List Byte) (ring : Computed)
  /-- KEY_INSTALL (R362): At T_INSTALL the member takes its address and the new key generation. -/
  | keyInstall (t : Nat)
  /-- STARTUP_ENUMERATE (R361): An enumerator member enumerates once its lanes are UP or ENUM_WAIT passes. -/
  | startupEnumerate (t : Nat)
  /-- JOIN (R365): A JOIN heard by the time master schedules re-enumeration. -/
  | join (t : Nat) (f : CFrame)
  /-- JOIN_SEND (R365): An unaddressed member sends JOIN every 10 ms. -/
  | joinSend (t : Nat)
  /-- REENUMERATE (R365): The time master re-enumerates 100 ms after the first JOIN. -/
  | reenumerate (t : Nat)
  /-- PREPARE (R374): A PREPARE from the coordinator makes the member run admission and vote. -/
  | prepare (t : Nat) (f : CFrame)
  /-- VOTE (R178): A vote reaches the coordinator, and all yes votes lead to COMMIT. -/
  | vote (t : Nat) (f : CFrame)
  /-- COMMIT (R178): A COMMIT fixes the ring-time instant of acceptance. -/
  | commit (t : Nat) (f : CFrame)
  /-- ABORT (R178): An ABORT refuses the member's group segment with 0x0213. -/
  | abort (t : Nat) (f : CFrame)
  /-- EVENT_SUMMARY (R418): A received summary is logged with RING set and delivered to subscribers. -/
  | eventSummary (t : Nat) (f : CFrame)
  /-- TIME_SOURCE_SILENCE (R367): A time source silent for 50 µs is replaced, or holdover starts. -/
  | timeSourceSilence (t : Nat)
  /-- TIME_SOURCE_BETTER (R367): A lane offering a DIST at least 2 smaller for 100 ms becomes the source. -/
  | timeSourceBetter (t : Nat) (lane : Nat)
  /-- HOLDOVER_EXPIRY (R368): Holdover past TIME_HOLDOVER loses ring time and raises EV070. -/
  | holdoverExpiry (t : Nat)
  /-- POS_TIMEOUT_EXPIRY (R373): No POSITION for POS_TIMEOUT loses position and stops firing. -/
  | posTimeoutExpiry (t : Nat)
  /-- RING_OPEN (R377): The member's beacon not returning on a ring for PATH_TIMEOUT raises EV071. -/
  | ringOpen (t : Nat) (ring : Nat)
  /-- CAUSE_MEMBER_LOST (R377): A member unheard on both rings for PATH_TIMEOUT raises EV075. -/
  | causeMemberLost (t : Nat) (addr : Nat)
  /-- DRAM_DISCOVERY (R379): DRAM is trained and probed, and spool sizes are set. -/
  | dramDiscovery (t : Nat) (boards : List (List Byte × Chain)) (osc temp : List Nat) (fail : Option (Nat × Nat))
  /-- DRAM_READ_REQUEST (R385): A port's read is queued, chosen in priority order and decoded under the husk code. -/
  | dramReadRequest (t : Nat) (sub : Nat) (new : Option (Nat × Nat)) (served : Option Burst)
  /-- DRAM_WRITE_REQUEST (R387): A port's write enters its sub-channel's write queue. -/
  | dramWriteRequest (t : Nat) (port burst : Nat) (data : List Byte) (tag : Computed)
  /-- WRITE_DRAIN (R386): A write-queue drain starts at 48 entries or an urgent entry. -/
  | writeDrain (t : Nat) (sub n : Nat)
  /-- REQUEST_URGENT (R385): A request waiting 75 % of its port's maximum becomes urgent. -/
  | requestUrgent (t : Nat) (sub port burst : Nat)
  /-- DRAM_PRINT_LATE (R388): A print read above 2 µs is counted and raises EV083. -/
  | dramPrintLate (t : Nat) (sub : Nat)
  /-- REFRESH_DUE (R382): All-bank refresh is issued to a rank at tREFI. -/
  | refreshDue (t : Nat) (sub rank temp : Nat)
  /-- POWER_DOWN_ENTRY (R383): A rank idle for PD_TIMER enters power-down. -/
  | powerDownEntry (t : Nat) (sub rank : Nat)
  /-- DQS_OSCILLATOR_READ (R384): Every 1 ms the DQS oscillators are read for drift. -/
  | dqsOscillatorRead (t : Nat) (sub count temp : Nat)
  /-- RETRAIN_WINDOW (R384): A periodic retraining window runs on one sub-channel when allowed. -/
  | retrainWindow (t : Nat) (sub len : Nat)
  /-- SCRUB_READ (R394): The patrol scrub reads and decodes the next burst. -/
  | scrubRead (t : Nat) (data : Option Burst)
  /-- SCRUB_WRITE_BACK (R395): A corrected burst is written back unless a write or epoch change intervened. -/
  | scrubWriteBack (t : Nat) (burst : Nat)
  /-- PACK_JOB_START (R400): The next queued pack job starts when the engine is free. -/
  | packJobStart (t : Nat)
  /-- PACK_JOB_COMPLETE (R397): A pack job ends with its output or a failure. -/
  | packJobComplete (t : Nat) (huskOk : Bool)
  /-- PACK_UNIT_FAULT (R403): A pack engine failing self-check fails every job with EV090. -/
  | packUnitFault (t : Nat)
  /-- EVENT_PIN_PULSE_END (R417): An event pin pulsed by a class O event is released after PULSE_WIDTH. -/
  | eventPinPulseEnd (t : Nat) (pin : Nat)
  /-- SHELL_TAMPER (R158): The Shell's supply or clock leaves its window, keys are erased and sessions end. -/
  | shellTamper (t : Nat)
  /-- ENTROPY_FAIL (R138): A noise-source health test fails and fresh randomness is refused. -/
  | entropyFail (t : Nat) (test : Nat)
  /-- FUSE_PROGRAM_DONE (R135): Fuse programming ends and is read back. -/
  | fuseProgramDone (t : Nat) (agree : Bool)
  /-- PORST_ASSERT (R434): PORST_N low resets the device without a save. -/
  | porstAssert (t : Nat) (sections : Nat)
  /-- PORST_RELEASE (R134): PORST_N release samples COMMISSION and starts the boot chain. -/
  | porstRelease (t : Nat) (strap : Bool)
  /-- SYSRST_ASSERT (R434): SYSRST_N low for 1 µs saves as at a sag, then resets. -/
  | sysrstAssert (t : Nat) 
  /-- SAG_RECOGNISED (R441): HOLD_SNS below threshold for 5 µs starts the sag sequence. -/
  | sagRecognised (t : Nat) (mv : Nat)
  /-- SAG_GLITCH (R441): A HOLD dip shorter than 5 µs is counted only. -/
  | sagGlitch (t : Nat) (mv : Nat)
  /-- SAG_GATE_DONE (R442): At 10 µs in-progress lines are recorded and HPEN falls. -/
  | sagGateDone (t : Nat) 
  /-- SAVE_MODE_ENTRY (R442): At 20 µs transmitters stop, sessions end and the save begins. -/
  | saveModeEntry (t : Nat) 
  /-- SAVE_COMPLETE (R449): The save ends with the control block in state 2, and the device is held in reset. -/
  | saveComplete (t : Nat) 
  /-- HOLD_RESTART (R445): HOLD above 11.0 V for 50 ms releases the reset with kind SAG. -/
  | holdRestart (t : Nat) (mv : Nat)
  /-- SHELL_ROM_DONE (R438): The Shell ROM self-test and fuse read end, and the bank is read. -/
  | shellRomDone (t : Nat) (selA selB : List Byte) (serial : Nat) (macs : List Nat) (records : List (List Byte × List Byte))
  /-- IMAGE_VERIFIED (R438): A bank image is accepted, or the other bank or recovery is started. -/
  | imageVerified (t : Nat) (img0 img1 : Option ImageEv)
  /-- ENGINES_LOADED (R439): The twelve engines are loaded and self-checked, and sessions open. -/
  | enginesLoaded (t : Nat) 
  /-- RESTORE (R450): The save store is restored, the journal replayed and the handle memory rebuilt. -/
  | restore (t : Nat) (good : StoreOk) (headerOk journalOk logOk : Bool) (lostBlocks : List Nat)
  /-- PHASE_READY (R440): The device becomes ready to print when memory, restore, lanes and heads are settled. -/
  | phaseReady (t : Nat) 
  /-- SAVE_STORE_RETRY (R446): A save-store write that failed read-back is retried after 10 ms. -/
  | saveStoreRetry (t : Nat) (good : Bool)
  /-- RAIL_FAULT (R472): A rail outside its window or a reference stopped for 10 µs raises EV109. -/
  | railFault (t : Nat) (rail : Nat)
  /-- FW_BANK_ERASED (R453): The erase of the staging bank completes and the first stage packet replies. -/
  | fwBankErased (t : Nat) 
  /-- FIRMWARE_GAP (R455): At a firmware gap the staged image is loaded and the select record written. -/
  | firmwareGap (t : Nat) 
  /-- FW_GAP_WAIT_EXPIRY (R454): A switch without a gap within FW_GAP_WAIT draws 0x0202. -/
  | fwGapWaitExpiry (t : Nat) 
  /-- TJ_SAMPLE (R458): Every 1 ms Tj is formed from the valid sensors and trims are interpolated. -/
  | tjSample (t : Nat) (s0 s1 s2 : Int)
  /-- CAL_STALE (R461): A trim output without a refresh for 10 ms becomes stale with EV116. -/
  | calStale (t : Nat) (element : Nat)
  /-- HOLDUP_TEST_DONE (R466): The hold-up slope fit ends, HOLD_TST is released and C and ESR reported. -/
  | holdupTestDone (t : Nat) (before after : List Nat) (slope fitted : Computed)
  /-- TEST_EN_RISE (R489): TEST_EN high holds HPEN low and applies cause 0x0C with EV118. -/
  | testEnRise (t : Nat) 
  /-- TEST_EN_FALL (R491): TEST_EN low without a pin-driving instruction resumes running. -/
  | testEnFall (t : Nat) 
  /-- TAP_RESET (R487): Test-Logic-Reset by TMS or TRST_N loads IDCODE. -/
  | tapReset (t : Nat) 
  /-- EXTEST (R489): The boundary register drives and captures every cell while TEST_EN is high. -/
  | extest (t : Nat) (captured load : Nat)
  /-- SAMPLE (R487): The boundary register captures the balls without effect on operation. -/
  | sample (t : Nat) (captured : Nat)
  /-- PRELOAD (R487): The boundary register is loaded while the function keeps the balls. -/
  | preload (t : Nat) (captured load : Nat)
  /-- IDCODE (R487): The device ID register is selected. -/
  | idcode (t : Nat) 
  /-- CLAMP (R487): Outputs are held from the boundary register with bypass selected. -/
  | clamp (t : Nat) 
  /-- HIGHZ (R487): Every output and enable is turned off with bypass selected. -/
  | highz (t : Nat) 
  /-- EXTEST_PULSE (R487): IEEE 1149.6 pulse mode runs on AC pairs. -/
  | extestPulse (t : Nat) (captured load : Nat)
  /-- EXTEST_TRAIN (R487): IEEE 1149.6 train mode runs on AC pairs. -/
  | extestTrain (t : Nat) (captured load : Nat)
  /-- BYPASS (R487): The bypass register is selected, also for unlisted opcodes. -/
  | bypass (t : Nat) (opcode : Nat)
  /-- HPEN_READBACK_AGREE (R483): When the level at an HPEN ball agrees with its drive again, HEAD[h].STATE leaves FAULT and EV040 can clear. -/
  | hpenReadbackAgree (t : Nat) (head : Nat)
  /-- RAILS_GOOD (R472): When every monitored rail is back in its window and every reference clock runs again, EV109 clears. -/
  | railsGood (t : Nat) 
  /-- OLD_GENERATION_WINDOW_END (R362): 1 ms after T_INSTALL a member stops accepting Causeway frames of the old key generation. -/
  | oldGenerationWindowEnd (t : Nat)
  /-- CHECKPOINT_WRITTEN (R447): A ledger checkpoint finishes writing, its slot is marked valid and older journal entries are discarded. -/
  | checkpointWritten (t : Nat) (good : Bool)
  /-- FW_SWITCH_COMPLETE (R455): The engines finish loading and self-checking the new image, and the switch ends with EV008 and OK, or reverts with EV006. -/
  | fwSwitchComplete (t : Nat) (good : Bool)
  /-- CAPTURE_COMPLETE (R493): A diagnostic capture has recorded its length of samples, and TEST_CAPTURE sends its FINAL reply with the first bytes. -/
  | captureComplete (t : Nat) (cid : Nat) (samples : List Byte)
  /-- MALFORMED_TRANSACTION (R421): An SPI transaction with an unlisted CMD, or whose chip select rises early, is not acted on; LAST_ERR is set and EV100 raised. -/
  | malformedTransaction (t : Nat) (mosi : List Byte)
  /-- EVENT_SUMMARY_SEND (R376): When its one-second limit ends, a member sends the EVENT_SUMMARY of an event whose raisings COUNT has gathered. -/
  | eventSummarySend (t : Nat) (ev : Nat)
deriving DecidableEq, Repr

end Sys2Proof
end

