-- ==== Sys2Proof/Decode.lean ====
section
/-! DEFINITION. The command that a word of the opcode table spells. No row of the table gives bits: the AL716 takes
commands as packets, frames, pins and timers, whose forms are read where they arrive. -/
namespace Sys2Proof

/-- The command of a table word: none, since no row gives bits (log entry 13). -/
def decodeTableWord (_nbits _w : Nat) : Option Instr := none

end Sys2Proof
end

