-- ==== Sys2Proof/Config.lean ====
section
/-! DEFINITION. What an implementation fixes and the free values: constants without a body, so that nothing in
Lean can evaluate them or prove a value of them. Each is named in a log entry (notes/assumptions). -/
namespace Sys2Proof.Config

/-- The device root DRK (R137): 256 bits from the entropy source at manufacture, held in Shell fuses (log entry 4). -/
opaque drk : BitVec 256

/-- A value drawn from the entropy source or the DRBG (R61, R150, R153, R296): the `n`-th draw (log entry 4). -/
opaque random : Nat → BitVec 384

/-- Byte `i` of the device certificate chain that SHELL_CERT_READ returns (R133) (log entry 5). -/
opaque chainByte : Nat → BitVec 8

/-- Bytes of the device certificate chain (R58 bounds it by 8,000) (log entry 5). -/
opaque chainLen : Nat

/-- Byte `i` of the signature over an attestation, by draw number: the spec does not lay the statement out (log entry 5). -/
opaque signature : Nat → Nat → BitVec 8

/-- The hash of 3 bytes into the 32,768 chain heads of the pack engine (R397); the spec does not state it (log entry 6). -/
opaque packHash : BitVec 8 → BitVec 8 → BitVec 8 → BitVec 15

/-- The code lengths that the pack engine gives symbols by their counts, and how it writes code lengths as symbols 0-18 with the value of
their extra bits (R397, RFC 1951); the spec leaves the choice among codes as short open (log entry 6). -/
opaque packLengths : List Nat → List Nat
opaque packRuns : List Nat → List (Nat × Nat)

/-- The progress in permille of a command still in flight (R82), by its number and the ring time of the reading
(log entry 7). -/
opaque progress : Nat → Nat → BitVec 10

/-- Bytes of a reply body of an opcode whose layout the spec does not give (log entry 8). -/
opaque fieldsLen : Nat → Nat

/-- Byte `i` of such a body, by opcode and the values that it carries (log entry 8). -/
opaque fieldsByte : Nat → List (String × Nat) → Nat → BitVec 8

/-- A measurement handle of R354, by the number of the measurement (log entry 4). -/
opaque measureHandle : Nat → BitVec 64

/-- The wrap public key of a ring member, 97 bytes most significant first, by its identity (R153): the spec does not say how the
enumerator learns it (log entry 139). -/
opaque memberWrap : Nat → BitVec 776

/-- The first 16 bytes of SHA-384 over the identity certificate (*Causeway payloads*, ID) (log entry 5). -/
opaque ident : BitVec 128

/-- Whether the arctangent of a sine and a cosine that is no whole number of steps is rounded up, and the phase of a sample of zeros (R245);
the spec states neither (log entry 167). -/
opaque phaseUp : Int → Int → BitVec 1
opaque phaseOfNothing : BitVec 10

/-- Whether a quotient of the image pipeline that is no whole number is rounded up, by stage, dividend and divisor (R329,
R336, R337); the spec states no rounding (log entry 14). -/
opaque roundUp : Nat → Nat → Nat → BitVec 1

/-- The sample of a filter code that no row of a mosaic window holds, by trigger number, pixel and code (R329) (log entry 14). -/
opaque missingSample : Nat → Nat → Nat → BitVec 16

/-- Whether a camera register address is a connection-configuration bootstrap register of CoaXPress (R319); the spec
leaves the addresses to that standard (log entry 15). -/
opaque bootstrapRegister : Nat → BitVec 1

/-- The coverage of R341 over a time in which no camera line was received, by engine and analysis; the spec states none (log
entry 14). -/
opaque emptyCoverage : Nat → Nat → BitVec 10

/-- The median of an even number of shifts, between the two middle ones, and which of several shifts with the least sum a tile takes (R338); the
spec states neither (log entry 99). -/
opaque medianOf : List Int → Nat
opaque tileTie : List (Int × Int) → Nat

/-- The shift along the web, in 1/64 line, of the measured edge at a line against the expected one (R350), from the band's expected and
measured values along the frame; the spec says that it is estimated and not how (log entry 101). -/
opaque edgeShift : List (Int × Int) → Nat → BitVec 16

/-- Whether a dot line is found (R353), from the coverage measured at the positions about it; the spec states no limit (log entry 101). -/
opaque dotFound : List (Int × Int) → BitVec 1

/-- What a completion record still holds, by field, of a segment that a device reset finished (R184, R188): the save store keeps
none of it, and the spec states no value (log entry 16). -/
opaque restored : Nat → Nat → BitVec 64

/-- LINES that SPOOL_SEG_STATUS reports of a segment finished before the reset (R188); the handle ring does not hold it (log
entry 16). -/
opaque restoredLines : Nat → BitVec 19

/-- The reason code with which EV006 refuses an image of a bank (R154); the spec numbers none (log entry 17). -/
opaque fwReason : Nat → ImageEv → BitVec 8

/-- The bank that is tried first when no select record is well formed (R438); the spec names none (log entry 17). -/
opaque firstBank : BitVec 1

/-- The floor count of a pace ring whose element PACE_REF runs on its design default (R457, R465); the spec gives none (log
entry 18). -/
opaque paceFloor : Nat → BitVec 16

/-- A reading that only the line or the analog part of a receiver gives, by parameter and instant: the FEC counters of a Fresy
port, and the eye and frequency offset of a lane (R500) (log entry 19). -/
opaque reading : Nat → Nat → BitVec 32

/-- Where the word boundaries of a lane lie in time, in ps, by lane and number of its training (R287); the spec does not place them
(log entry 156). -/
opaque wordPhase : Nat → Nat → Nat

/-- A result that the management port or a mailbox command carries where the spec names none: 0 for a claim of OWN.HOLDER while
OWN.MGMT_CLAIM is 0, 1 + state for a take of an acknowledge from a mailbox that is not ACKED (log entry 22). -/
opaque mgmtResult : Nat → BitVec 16

end Sys2Proof.Config
end

