-- ==== Sys2Proof/Machine/Crypto.lean ====
section
/-! DEFINITION. The algorithms that the spec names for its keys, seals and signatures: SHA-384, HMAC, HKDF, AES-256 in counter
and Galois mode (R56, R139, R142, R145, R149-R151) and ECDH and ECDSA on P-384 (R139, R153). The spec names the standards and
prints none of them; they stand here as FIPS 180-4, FIPS 197, FIPS 186-4, SP 800-38D, RFC 2104 and RFC 5869 give them (log
entry 134). -/
namespace Sys2Proof.Machine

/-- The number whose bytes, most significant first, are given. -/
def beNat (bs : List Byte) : Nat := bs.foldl (fun a b => 256 * a + b.toNat) 0

/-- The `n` bytes of a number, most significant first. -/
def beBytes (n v : Nat) : List Byte := (List.range n).map (fun i => BitVec.ofNat 8 (v / 256 ^ (n - 1 - i)))

/-- The bytes of an ASCII label without terminator. -/
def ascii (l : String) : List Byte := l.toList.map (fun c => BitVec.ofNat 8 c.toNat)

/-! ## SHA-384, HMAC and HKDF -/

/-- The round constants of SHA-384, rounds 0-39. -/
def shaKLow : List Nat :=
  [0x428a2f98d728ae22, 0x7137449123ef65cd, 0xb5c0fbcfec4d3b2f, 0xe9b5dba58189dbbc,
   0x3956c25bf348b538, 0x59f111f1b605d019, 0x923f82a4af194f9b, 0xab1c5ed5da6d8118,
   0xd807aa98a3030242, 0x12835b0145706fbe, 0x243185be4ee4b28c, 0x550c7dc3d5ffb4e2,
   0x72be5d74f27b896f, 0x80deb1fe3b1696b1, 0x9bdc06a725c71235, 0xc19bf174cf692694,
   0xe49b69c19ef14ad2, 0xefbe4786384f25e3, 0x0fc19dc68b8cd5b5, 0x240ca1cc77ac9c65,
   0x2de92c6f592b0275, 0x4a7484aa6ea6e483, 0x5cb0a9dcbd41fbd4, 0x76f988da831153b5,
   0x983e5152ee66dfab, 0xa831c66d2db43210, 0xb00327c898fb213f, 0xbf597fc7beef0ee4,
   0xc6e00bf33da88fc2, 0xd5a79147930aa725, 0x06ca6351e003826f, 0x142929670a0e6e70,
   0x27b70a8546d22ffc, 0x2e1b21385c26c926, 0x4d2c6dfc5ac42aed, 0x53380d139d95b3df,
   0x650a73548baf63de, 0x766a0abb3c77b2a8, 0x81c2c92e47edaee6, 0x92722c851482353b]

/-- The round constants of SHA-384, rounds 40-79. -/
def shaKHigh : List Nat :=
  [0xa2bfe8a14cf10364, 0xa81a664bbc423001, 0xc24b8b70d0f89791, 0xc76c51a30654be30,
   0xd192e819d6ef5218, 0xd69906245565a910, 0xf40e35855771202a, 0x106aa07032bbd1b8,
   0x19a4c116b8d2d0c8, 0x1e376c085141ab53, 0x2748774cdf8eeb99, 0x34b0bcb5e19b48a8,
   0x391c0cb3c5c95a63, 0x4ed8aa4ae3418acb, 0x5b9cca4f7763e373, 0x682e6ff3d6b2b8a3,
   0x748f82ee5defb2fc, 0x78a5636f43172f60, 0x84c87814a1f0ab72, 0x8cc702081a6439ec,
   0x90befffa23631e28, 0xa4506cebde82bde9, 0xbef9a3f7b2c67915, 0xc67178f2e372532b,
   0xca273eceea26619c, 0xd186b8c721c0c207, 0xeada7dd6cde0eb1e, 0xf57d4f7fee6ed178,
   0x06f067aa72176fba, 0x0a637dc5a2c898a6, 0x113f9804bef90dae, 0x1b710b35131c471b,
   0x28db77f523047d84, 0x32caab7b40c72493, 0x3c9ebe0a15c9bebc, 0x431d67c49c100d4c,
   0x4cc5d4becb3e42b6, 0x597f299cfc657e2a, 0x5fcb6fab3ad6faec, 0x6c44198c4a475817]

/-- The first hash value of SHA-384. -/
def shaStart : List Nat :=
  [0xcbbb9d5dc1059ed8, 0x629a292a367cd507, 0x9159015a3070dd17, 0x152fecd8f70e5939,
   0x67332667ffc00b31, 0x8eb44a8768581511, 0xdb0c2e0d64f98fa7, 0x47b5481dbefa4fa4]

/-- A 64-bit word turned right. -/
def rotr (n x : Nat) : Nat := (x >>> n) ||| ((x <<< (64 - n)) % 2 ^ 64)

/-- The message schedule, newest word first. -/
def shaSchedule : Nat → List Nat → List Nat
  | 0, w => w
  | k + 1, w =>
    let a := nth w 0 14
    let b := nth w 0 1
    let s0 := rotr 1 a ^^^ rotr 8 a ^^^ (a >>> 7)
    let s1 := rotr 19 b ^^^ rotr 61 b ^^^ (b >>> 6)
    shaSchedule k ((s1 + nth w 0 6 + s0 + nth w 0 15) % 2 ^ 64 :: w)

/-- One round over the working variables a-h, by its constant and word. -/
def shaRound (v : List Nat) (kw : Nat × Nat) : List Nat :=
  match v with
  | [a, b, c, d, e, f, g, h] =>
    let t1 := h + (rotr 14 e ^^^ rotr 18 e ^^^ rotr 41 e) + ((e &&& f) ^^^ ((2 ^ 64 - 1 - e) &&& g)) + kw.1 + kw.2
    let t2 := (rotr 28 a ^^^ rotr 34 a ^^^ rotr 39 a) + ((a &&& b) ^^^ (a &&& c) ^^^ (b &&& c))
    [(t1 + t2) % 2 ^ 64, a, b, c, (d + t1) % 2 ^ 64, e, f, g]
  | _ => v

/-- One block of 128 bytes into a hash value. -/
def shaBlock (hash : List Nat) (block : List Byte) : List Nat :=
  let w := (shaSchedule 64 ((List.range 16).map (fun i => beNat ((block.drop (8 * i)).take 8))).reverse).reverse
  let v := ((shaKLow ++ shaKHigh).zip w).foldl shaRound hash
  (hash.zip v).map (fun p => (p.1 + p.2) % 2 ^ 64)

/-- The blocks of a padded message into a hash value. -/
def shaBlocks : Nat → List Nat → List Byte → List Nat
  | 0, h, _ => h
  | k + 1, h, bs => shaBlocks k (shaBlock h (bs.take 128)) (bs.drop 128)

/-- SHA-384: 48 bytes. -/
def sha384 (m : List Byte) : List Byte :=
  let blocks := (m.length + 17 + 127) / 128
  let padded := m ++ [0x80] ++ List.replicate (128 * blocks - m.length - 17) 0 ++ beBytes 16 (8 * m.length)
  ((shaBlocks blocks shaStart padded).take 6).flatMap (beBytes 8)

/-- HMAC with SHA-384. -/
def hmac (key m : List Byte) : List Byte :=
  let k := if 128 < key.length then sha384 key else key
  let k := k ++ List.replicate (128 - k.length) 0
  sha384 (k.map (· ^^^ 0x5C) ++ sha384 (k.map (· ^^^ 0x36) ++ m))

/-- HKDF-Extract; without a salt, one of 48 zero bytes. -/
def hkdfExtract (salt ikm : List Byte) : List Byte := hmac (if salt.isEmpty then List.replicate 48 0 else salt) ikm

/-- The blocks of HKDF-Expand from block `i` on. -/
def hkdfBlocks (prk info : List Byte) : Nat → Nat → List Byte → List Byte
  | 0, _, _ => []
  | k + 1, i, t =>
    let t := hmac prk (t ++ info ++ [BitVec.ofNat 8 i])
    t ++ hkdfBlocks prk info k (i + 1) t

/-- HKDF-Expand to `n` bytes. -/
def hkdfExpand (prk info : List Byte) (n : Nat) : List Byte := (hkdfBlocks prk info ((n + 47) / 48) 1 []).take n

/-! ## AES-256 and its Galois/counter mode -/

/-- The S-box of AES, entry `i` in byte `i`. -/
def aesBox : Nat :=
  0x16bb54b00f2d99416842e6bf0d89a18cdf2855cee9871e9b948ed9691198f8e19e1dc186b95735610ef6034866b53e708a8bbd4b1f74dde8c6b4a61c2e2578ba08ae7a65eaf4566ca94ed58d6d37c8e779e4959162acd3c25c2406490a3a32e0db0b5ede14b8ee4688902a22dc4f816073195d643d7ea7c41744975fec130ccdd2f3ff1021dab6bcf5389d928f40a351a89f3c507f02f94585334d43fbaaefd0cf584c4a39becb6a5bb1fc20ed00d153842fe329b3d63b52a05a6e1b1a2c830975b227ebe28012079a059618c323c7041531d871f1e5a534ccf73f362693fdb7c072a49cafa2d4adf04759fa7dc982ca76abd7fe2b670130c56f6bf27b777c63

/-- The S-box of one byte. -/
def sub8 (x : Nat) : Nat := (aesBox >>> (8 * x)) % 256

/-- The product with x in the field of AES. -/
def aesDouble (x : Nat) : Nat := if x < 128 then 2 * x else (2 * x) % 256 ^^^ 0x1B

/-- The key schedule of AES-256, newest word of 4 bytes first, from 8 words on: the next word, by its index. -/
def aesExpand : Nat → Nat → Nat → List (List Nat) → List (List Nat)
  | 0, _, _, w => w
  | k + 1, i, rcon, w =>
    let t := nth w [] 0
    let t := if i % 8 = 0 then
        match t with
        | [a, b, c, d] => [sub8 b ^^^ rcon, sub8 c, sub8 d, sub8 a]
        | _ => t
      else if i % 8 = 4 then t.map sub8 else t
    aesExpand k (i + 1) (if i % 8 = 0 then aesDouble rcon else rcon) (((nth w [] 7).zip t).map (fun p => p.1 ^^^ p.2) :: w)

/-- The 15 round keys of a key of 32 bytes, 16 bytes each. -/
def aesKeys (key : List Byte) : List (List Nat) :=
  let k := key.map BitVec.toNat
  let w := (aesExpand 52 8 1 ((List.range 8).map (fun i => (k.drop (4 * i)).take 4)).reverse).reverse
  (List.range 15).map (fun r => ((w.drop (4 * r)).take 4).flatten)

/-- Two lists of bytes added. -/
def xorList (a b : List Nat) : List Nat := (a.zip b).map (fun p => p.1 ^^^ p.2)

/-- SubBytes and ShiftRows of a block. -/
def aesShift (b : List Nat) : List Nat := [0, 5, 10, 15, 4, 9, 14, 3, 8, 13, 2, 7, 12, 1, 6, 11].map (fun i => sub8 (nth b 0 i))

/-- MixColumns of a block. -/
def aesMix : List Nat → List Nat
  | a :: b :: c :: d :: rest =>
    let t := a ^^^ b ^^^ c ^^^ d
    (a ^^^ t ^^^ aesDouble (a ^^^ b)) :: (b ^^^ t ^^^ aesDouble (b ^^^ c)) :: (c ^^^ t ^^^ aesDouble (c ^^^ d)) :: (d ^^^ t ^^^ aesDouble (d ^^^ a)) :: aesMix rest
  | rest => rest

/-- The rounds after the first key. -/
def aesRounds : List (List Nat) → List Nat → List Nat
  | [], b => b
  | [k], b => xorList (aesShift b) k
  | k :: ks, b => aesRounds ks (xorList (aesMix (aesShift b)) k)

/-- AES-256 of one block under its round keys. -/
def aesBlock (keys : List (List Nat)) (b : List Nat) : List Nat :=
  match keys with
  | [] => b
  | k :: ks => aesRounds ks (xorList b k)

/-- Bytes of a number, most significant first, as numbers. -/
def natBytes (n v : Nat) : List Nat := (beBytes n v).map BitVec.toNat

/-- The number of bytes, most significant first, given as numbers. -/
def bytesNat (bs : List Nat) : Nat := bs.foldl (fun a b => 256 * a + b) 0

/-- The product of two field elements of GCM, from the bit of the first under which a count of bits stand: the sum so far and the second
element's present multiple. -/
def ghashMul (x : Nat) : Nat → Nat → Nat → Nat
  | 0, z, _ => z
  | k + 1, z, v => ghashMul x k (if (x >>> k) % 2 = 1 then z ^^^ v else z) (if v % 2 = 1 then (v >>> 1) ^^^ (0xE1 <<< 120) else v >>> 1)

/-- GHASH over bytes that are padded to blocks of 16. -/
def ghash (h : Nat) : Nat → Nat → List Byte → Nat
  | 0, y, _ => y
  | k + 1, y, bs =>
    let b := bs.take 16
    ghash h k (ghashMul (y ^^^ beNat (b ++ List.replicate (16 - b.length) 0)) 128 0 h) (bs.drop 16)

/-- Counter mode from a counter block on. -/
def aesCtr (keys : List (List Nat)) (iv : List Byte) : Nat → Nat → List Byte → List Byte
  | 0, _, _ => []
  | k + 1, i, bs =>
    let ks := aesBlock keys (iv.map BitVec.toNat ++ natBytes 4 i)
    ((bs.take 16).zip ks).map (fun p => p.1 ^^^ BitVec.ofNat 8 p.2) ++ aesCtr keys iv k (i + 1) (bs.drop 16)

/-- The tag of AES-256-GCM over additional data and ciphertext, of 16 bytes. -/
def gcmTag (key iv aad ct : List Byte) : List Byte :=
  let keys := aesKeys key
  let h := bytesNat (aesBlock keys (List.replicate 16 0))
  let y := ghash h ((aad.length + 15) / 16) 0 aad
  let y := ghash h ((ct.length + 15) / 16) y ct
  let y := ghashMul (y ^^^ (8 * aad.length * 2 ^ 64 + 8 * ct.length)) 128 0 h
  beBytes 16 (y ^^^ bytesNat (aesBlock keys (iv.map BitVec.toNat ++ [0, 0, 0, 1])))

/-- AES-256-GCM encryption, and decryption alike: the bytes under the key stream of a nonce of 12 bytes. -/
def gcmStream (key iv bs : List Byte) : List Byte := aesCtr (aesKeys key) iv ((bs.length + 15) / 16) 2 bs

/-- AES-256-GCM with a tag of `n` bytes: ciphertext and tag. -/
def gcmSeal (n : Nat) (key iv aad pt : List Byte) : List Byte × List Byte :=
  let ct := gcmStream key iv pt
  (ct, (gcmTag key iv aad ct).take n)

/-- What AES-256-GCM finds of a ciphertext and its tag: the plaintext where the tag holds. -/
def gcmOpen (key iv aad ct tag : List Byte) : Option (List Byte) :=
  if (gcmTag key iv aad ct).take tag.length = tag then some (gcmStream key iv ct) else none

/-! ## P-384 -/

/-- The prime of the field, the order of the base point, and the curve's constant b. -/
def ecP : Nat := 0xfffffffffffffffffffffffffffffffffffffffffffffffffffffffffffffffeffffffff0000000000000000ffffffff
def ecN : Nat := 0xffffffffffffffffffffffffffffffffffffffffffffffffc7634d81f4372ddf581a0db248b0a77aecec196accc52973
def ecB : Nat := 0xb3312fa7e23ee7e4988e056be3f82d19181d9c6efe8141120314088f5013875ac656398d8a2ed19d2a85c8edd3ec2aef

/-- A point in Jacobian coordinates; the point at infinity has Z 0. -/
abbrev EcPoint := Nat × Nat × Nat

/-- The base point. -/
def ecG : EcPoint :=
  (0xaa87ca22be8b05378eb1c71ef320ad746e1d3b628ba79b9859f741e082542a385502f25dbf55296c3a545e3872760ab7,
    0x3617de4a96262c6f5d9e98bf9292dc29f8f41dbd289a147ce9da3113b5f0b8c00a60b1ce1d7e819d7a431d7c90ea0e5f, 1)

/-- A power modulo `m`, over the lowest `k` bits of the exponent. -/
def powMod (m : Nat) : Nat → Nat → Nat → Nat
  | 0, _, _ => 1
  | k + 1, x, e =>
    let r := powMod m k (x * x % m) (e >>> 1)
    if e % 2 = 1 then x * r % m else r

/-- The inverse modulo an odd prime of 384 bits. -/
def invMod (m x : Nat) : Nat := powMod m 384 (x % m) (m - 2)

/-- A difference in the field. -/
def subP (a b : Nat) : Nat := (a + ecP - b % ecP) % ecP

/-- A point doubled. -/
def ecDouble (a : EcPoint) : EcPoint :=
  let (x, y, z) := a
  let zz := z * z % ecP
  let yy := y * y % ecP
  let m := 3 * subP x zz * (x + zz) % ecP
  let s := 4 * x * yy % ecP
  let x' := subP (m * m) (2 * s)
  (x', subP (m * subP s x') (8 * yy * yy), 2 * y * z % ecP)

/-- Two points added. -/
def ecAdd (a b : EcPoint) : EcPoint :=
  if a.2.2 = 0 then b
  else if b.2.2 = 0 then a
  else
    let (x1, y1, z1) := a
    let (x2, y2, z2) := b
    let w1 := z1 * z1 % ecP
    let w2 := z2 * z2 % ecP
    let u1 := x1 * w2 % ecP
    let s1 := y1 * z2 * w2 % ecP
    let h := subP (x2 * w1) u1
    let r := subP (y2 * z1 * w1) s1
    if h = 0 then (if r = 0 then ecDouble a else (1, 1, 0))
    else
      let hh := h * h % ecP
      let v := u1 * hh % ecP
      let x' := subP (r * r) (h * hh + 2 * v)
      (x', subP (r * subP v x') (s1 * h * hh), h * z1 * z2 % ecP)

/-- A multiple of a point, over the bits below `k` of the factor. -/
def ecMul (a : EcPoint) (d : Nat) : Nat → EcPoint → EcPoint
  | 0, acc => acc
  | k + 1, acc =>
    let acc := ecDouble acc
    ecMul a d k (if (d >>> k) % 2 = 1 then ecAdd acc a else acc)

/-- A multiple of a point in plane coordinates; `none` at infinity. -/
def ecTimes (d : Nat) (a : EcPoint) : Option (Nat × Nat) :=
  let (x, y, z) := ecMul a d 384 (1, 1, 0)
  if z = 0 then none
  else
    let i := invMod ecP z
    some (x * i * i % ecP, y * i * i * i % ecP)

/-- A public key of 97 bytes, uncompressed; `none` where it is no point of the curve. -/
def ecPoint (b : List Byte) : Option EcPoint :=
  let x := beNat ((b.drop 1).take 48)
  let y := beNat ((b.drop 49).take 48)
  if b.length = 97 ∧ b.head? = some 4 ∧ x < ecP ∧ y < ecP ∧ y * y % ecP = (x * x * x + (ecP - 3) * x + ecB) % ecP then some (x, y, 1) else none

/-- The public key of a private key, in 97 bytes. -/
def ecPublic (d : Nat) : List Byte := match ecTimes d ecG with
  | some (x, y) => 4 :: (beBytes 48 x ++ beBytes 48 y)
  | none => []

/-- ECDH: the x-coordinate in 48 bytes, where the other key is a point of the curve. -/
def ecdh (d : Nat) (pub : List Byte) : Option (List Byte) :=
  ((ecPoint pub).bind (ecTimes d)).map (fun p => beBytes 48 p.1)

/-- Whether an ECDSA signature r‖s of 96 bytes holds over SHA-384 of a message, under a public key of 97 bytes. -/
def ecdsaVerify (pub m sig : List Byte) : Bool :=
  let r := beNat (sig.take 48)
  let s := beNat (sig.drop 48)
  match ecPoint pub with
  | none => false
  | some q =>
    if sig.length ≠ 96 ∨ r = 0 ∨ ecN ≤ r ∨ s = 0 ∨ ecN ≤ s then false
    else
      let w := invMod ecN s
      let (x, _, z) := ecAdd (ecMul ecG (beNat (sha384 m) * w % ecN) 384 (1, 1, 0)) (ecMul q (r * w % ecN) 384 (1, 1, 0))
      let i := invMod ecP z
      z != 0 && x * i * i % ecP % ecN == r

/-- The ECDSA signature r‖s over SHA-384 of a message under a private key, with a per-signature secret. -/
def ecdsaSign (d k : Nat) (m : List Byte) : List Byte :=
  let r := ((ecTimes k ecG).elim 0 Prod.fst) % ecN
  beBytes 48 r ++ beBytes 48 (invMod ecN k * (beNat (sha384 m) + r * d) % ecN)

/-- A private key from 48 random or derived bytes. -/
def ecScalar (b : List Byte) : Nat := 1 + beNat b % (ecN - 1)

end Sys2Proof.Machine
end

