-- ==== Sys2Proof/Machine/State.lean ====
section
/-! DEFINITION. The state of the AL716 as plain data: every register, store, queue, counter, mode and pin that the
spec names, and the queue of commands that wait. Parameters stand in one sparse store, `params`, keyed by their
32-bit ID; what cannot be one value of a parameter has a field of its own. -/
namespace Sys2Proof.Machine

/-- Why a step can stop with a fault. No command of this device stops the machine, so nothing raises it. -/
inductive Fault where
  /-- Raised by nothing: kept so that the type has a value. Safe. -/
  | none
deriving DecidableEq, Repr

/-- Why a command can be refused by the model. -/
inductive Refusal where
  /-- The command has no meaning in the model yet; raised by the arm of `exec` that names it. Safe. -/
  | notModelled (mnemonic : String)
deriving DecidableEq, Repr

/-- The body of a reply: bytes where the spec lays them out, named values where it names what the reply carries and
gives no layout (log entry 8). -/
inductive Body where
  | bytes (b : List Byte)
  | fields (f : List (String × Nat))
deriving DecidableEq, Repr

/-- A reply packet (R80, Reply header), and the command whose retained result it delivers (R106). -/
structure Reply where
  opcode : Nat
  tag : Nat
  final : Bool
  again : Bool          -- REPEAT
  unsolicited : Bool
  status : Nat
  progress : Nat
  detail : Nat
  body : Body
  carries : Option Nat
deriving DecidableEq, Repr

/-- An entry of the trouble log (R410). -/
structure LogEntry where
  t : Nat
  seq : Nat
  code : Nat
  record : Bool         -- KIND
  svc : Nat
  unit : Nat
  sev : Nat
  handle : Bool
  counters : Bool
  redacted : Bool
  preReset : Bool
  ring : Bool
  args : List Byte
deriving DecidableEq, Repr

/-- What a sequenced Fresy frame of the AL716 carries. -/
inductive Payload where
  | replies (rs : List Reply)
  | events (es : List LogEntry)
  | close
deriving DecidableEq, Repr

/-- A sequenced frame that waits for its acknowledgement (R65): its number, contents, the blocks charged, the port of
its latest transmission, how often it was sent, when it was first sent and when its timer expires. -/
structure SentFrame where
  seq : Nat
  payload : Payload
  blocks : Nat
  port : Nat
  tries : Nat
  first : Nat
  due : Nat
  nextWait : Nat                   -- wait after the next transmission
  last : Nat                       -- when it was last sent
deriving DecidableEq, Repr

/-- A frame received out of order (R63). -/
structure HeldFrame where
  seq : Nat
  ftype : Nat
  payload : List Byte
  blocks : Nat
deriving DecidableEq, Repr

/-- An entry of a session's stage (R97). -/
structure StageEntry where
  id : Nat
  value : Nat
deriving DecidableEq, Repr

/-- A key epoch of one direction of a session (R56, R139): its AES-256 key, its direction salt, and the traffic secret of the
epoch that follows. -/
structure Epoch where
  key : List Byte
  salt : List Byte
  next : List Byte
deriving DecidableEq, Repr

/-- The failure of a strip that DECODE_STATUS lists to its opener (08_raster_and_decode.md). -/
structure StripFailure where
  handle : Nat
  strip : Nat                      -- 64h + k
  reason : Nat
  zreach : Nat
  rreach : Nat
deriving DecidableEq, Repr

/-- An open session of Fresy (R56-R76, R499). Times are counts of the time island unless said otherwise. -/
structure Session where
  num : Nat
  role : Nat
  subject : Nat                    -- SHELL[s].CERT_KEY
  root : Nat                       -- SHA-384 of the chain's root
  commissioning : Bool             -- opened under R136 and slot 0 not yet burnt
  hostPorts : Nat                  -- PORTS of the peer's latest accepted frame
  macs : List (Nat × Nat)          -- port and source address of its latest accepted frame
  opened : Nat                     -- ring time of ACCEPT
  lastCmd : Nat                    -- ring time of the latest command packet
  lastCmdAt : Nat                  -- the same instant as a count of the time island
  commands : Nat
  txSeq : Nat                      -- SEQ of the next sequenced frame
  rxNext : Nat                     -- next SEQ expected
  lastAck : Nat                    -- latest ACK of the host
  held : List HeldFrame
  unacked : List SentFrame
  txq : List Payload               -- waits for credit or window
  creditLimit : Nat                -- the host's CREDIT, in blocks since the session opened
  blocksSent : Nat
  grant : Nat                      -- the CREDIT given to the host
  blocksTaken : Nat                -- blocks of frames that the packet layer took
  blocksHeld : Nat                 -- blocks of frames received and still held
  txc : Nat
  rxTxc : Nat
  tx : Epoch                       -- AL716 to host
  rx : Epoch                       -- host to AL716
  rxOld : Option Epoch             -- the receive epoch before, within its 64 ms
  epochTx : Bool
  epochRx : Bool
  txNew : Bool                     -- the transmit epoch has started and no frame of it has left
  rxWindow : Option Nat            -- end of the 64 ms in which both receive epochs pass
  txWindow : Option Nat            -- end of the 64 ms of the latest transmit epoch
  rekeyHeld : Bool                 -- R140
  rekeys : Nat
  portTx : List Nat                -- time of the latest frame sent on each port
  ackDue : Bool                    -- a received frame is not yet acknowledged
  setPorts : Nat                   -- the set of R72 as last evaluated
  downSince : Option Nat           -- every port of the set down since
  subMask : Nat                    -- OWN[s].SUBSCRIBED
  subRing : Bool
  evq : List LogEntry
  dropped : Nat                    -- entries dropped in the present run of R416
  stage : List StageEntry
  capture : List Byte              -- latest capture held (R493)
  capturePod : Option Nat          -- the reserved pod that holds it
  failures : List StripFailure
deriving DecidableEq, Repr

/-- A handshake in progress (R59). -/
structure Handshake where
  port : Nat
  src : Nat
  id : Nat
  role : Nat
  hostPorts : Nat
  chain : Chain
  at_ : Nat                        -- when CHALLENGE left
  hello : List Byte                -- HELLO payload
  challenge : List Byte            -- CHALLENGE payload
  eph : Nat                        -- the AL716's ephemeral private key
deriving DecidableEq, Repr

/-- A Fresy port (R73, R74). -/
structure Port where
  up : Bool
  lastFrame : Nat                  -- latest accepted frame
  since : Nat                      -- since when a session includes it
  drainAt : Nat                    -- when its transmit queue empties, in 1/25 ns (log entry 10)
deriving DecidableEq, Repr

/-- A command in flight (R84), from its arrival to its FINAL reply. `wait` holds it while an earlier command of its session keeps it from
starting (R86). -/
structure Flight where
  cid : Nat
  arrived : Nat                    -- when it arrived
  session : Nat
  role : Nat
  subject : Nat
  tag : Nat
  opcode : Nat
  body : List Byte
  flags : Nat                      -- byte 6 of the header
  rsv : Nat                        -- byte 7
  started : Bool
  pendingSent : Bool
  wait : Option Instr
  endedAt : Option Nat             -- when its session ended
  progress : Nat                   -- PROGRESS last reported
  final : Option Reply             -- FINAL reply of ended work that may not leave yet (R13, R86)
  extra : Nat                      -- ns by which its latency maximum has grown (R51, R455)
deriving DecidableEq, Repr

/-- A retained result (R104-R108). -/
structure Result where
  cid : Nat
  session : Nat
  subject : Nat
  endedAt : Option Nat             -- when its session ended
  tag : Nat
  opcode : Nat
  status : Nat
  progress : Nat
  detail : Nat
  body : Body
  delivered : Bool
deriving DecidableEq, Repr

/-- A pin of an Expert parameter (R92). -/
structure Pin where
  id : Nat
  session : Nat
  t : Nat                          -- ring time
deriving DecidableEq, Repr

/-- Ownership (R112). -/
structure Own where
  state : Nat
  holder : Nat
  leaseEnd : Nat                   -- ring time; 0 when VACANT or held by the management port
  leaseMs : Nat                    -- lease in force
  byDefault : Bool                 -- the lease follows OWN.LEASE_DEFAULT
  target : Nat
  windowEnd : Nat
  endedSubject : Nat
  endedRole : Nat
  mgmtLast : Nat                   -- latest SPI transaction
deriving DecidableEq, Repr

/-- A commissioning slot in fuses (R134). -/
structure Slot where
  kind : Nat
  revoked : Bool
  digest : Nat
deriving DecidableEq, Repr

/-- A job key in the store (R141). -/
structure JobKey where
  job : Nat
  key : Nat
  holders : List Nat
  marked : Bool
  drops : List Nat                 -- flights of the drops that wait
deriving DecidableEq, Repr

/-- A fuse programming in progress (R135): the flight, the slot, burn or revoke, the kind and the digest. -/
structure FuseJob where
  cid : Nat
  slot : Nat
  revoke : Bool
  kind : Nat
  digest : Nat
deriving DecidableEq, Repr

/-- The Shell (06_secrecy.md). Keys that follow from the device root by HKDF are computed from it where they are used (R137). -/
structure Shell where
  drk : Nat                        -- device root DRK, its bytes most significant first
  spoolKey : Nat                   -- spool key, its bytes most significant first
  slots : List Slot
  keys : List JobKey
  utcBase : Nat                    -- ring time at which SHELL.UTC_FLOOR was set or restored
  utcStoreDue : Bool               -- a floor written and not yet in the save store
  tampered : Bool
  entropyFailed : Bool
  fuses : List FuseJob             -- programming in progress, first the one that runs
  recoveryFw : Bool
  strap : Bool                     -- COMMISSION strap as sampled
deriving DecidableEq, Repr

/-- Events, the trouble log and the event pins (18_events_and_trouble_log.md). -/
structure Evt where
  log : List LogEntry              -- oldest first
  nextSeq : Nat
  latched : Nat
  conds : List (Nat × Nat)         -- event and unit of each condition of class S that holds
  last : List ((Nat × Nat) × Nat)  -- event and key of the once-per-second limits, with their latest entry
  pulses : List (Nat × Nat)        -- pin and end of a pulse
deriving DecidableEq, Repr

/-- A range of lines of one head that did not print as promised or is flagged (R184). -/
structure Range where
  head : Nat
  first : Nat
  count : Nat
  cause : Nat
  kind : Nat
  column : Nat
deriving DecidableEq, Repr

/-- A strip of a segment (R161, R167, R168): its place, declared size, bytes held, STRIP_STATE, the container bytes
held, its pods, whether its check runs and for which packet, the decoded bytes of a passed check, the restart points it
offers, and whether its pods have returned to the free list. -/
structure Strip where
  head : Nat
  k : Nat
  size : Nat
  held : Nat
  state : Nat
  data : List Byte
  pods : List Nat
  checking : Bool
  firsts : List Nat                -- arrival numbers of the first bytes of the strip and of its offered chunks (R201)
  unitsUsed : List Nat             -- check units assigned (R201)
  cid : Option Nat                 -- the SPOOL_SEG_DATA that completed it, until its reply
  raw : List Byte
  points : List (Nat × Nat)        -- offered restart points: decoded byte and ZOFF
  released : Bool
deriving DecidableEq, Repr

/-- A segment that the spool holds (R160-R188). -/
structure Seg where
  handle : Nat
  job : Nat
  segId : Nat
  printGo : Bool                   -- MODE
  pgo : Nat
  keep : Bool
  group : Bool
  depth : Nat
  heads : Nat
  lines : Nat
  rate : Nat
  first : Nat                      -- P0, or the offset of a print-go segment
  groupId : Nat
  coord : Nat
  members : Nat
  opener : Nat
  state : Nat                      -- *Segment states*
  strips : List Strip
  source : Option Nat              -- the segment whose data a repeat prints
  reserved : Nat                   -- pods reserved and not yet allocated
  edge : Option Int                -- position of the bound print-go edge, 1/65,536 line
  bound : Bool
  p0 : Int                         -- first-line position once known
  tAccept : Nat
  tFirst : Nat
  tLast : Nat
  order : Nat                      -- acceptance order
  verifiedAt : Nat                 -- when its verification ended (R181)
  votedAt : Option Nat             -- when this member voted yes (R180)
  lead : Nat                       -- lead in lines, fixed at acceptance (R37)
  decRate : Nat
  readRate : Nat
  closeCid : Option Nat
  armCid : Option Nat
  cancelCids : List Nat            -- cancellations that wait
  next : List (Nat × Nat)          -- per head, the index of the next line whose boundary has not passed
  ranges : List Range
  causes : List Nat                -- causes for which EV020 was raised
  chart : Option (Nat × Nat)       -- chart kind and serial of a chart segment (R233)
  byReset : Bool                   -- RESET of its record
  bad : List (Nat × Nat × Nat)     -- head, first line and count of lines that read badly and do not fire (R148, R206)
deriving DecidableEq, Repr

/-- A completion record kept of a finished segment (R184, R185). -/
structure Record where
  seg : Seg
deriving DecidableEq, Repr

/-- A finished handle in the handle memory (R165), with what SPOOL_SEG_STATUS still reports of it. -/
structure Done where
  handle : Nat
  state : Nat
  lines : Nat
  flags : Nat
  opener : Nat                     -- the open session that opened it, else 0 (R166, R176)
deriving DecidableEq, Repr

/-- A chunk of a strip being decoded for print (R204). -/
structure Chunk where
  head : Nat
  handle : Nat
  k : Nat
  start : Nat                      -- first decoded byte
  inflate : Nat                    -- inflate unit; 32 while it waits for one (R207)
deriving DecidableEq, Repr

/-- Segments, pods and the decode units. -/
structure Spool where
  segs : List Seg
  done : List Done                 -- handle memory of finished segments, oldest first, at most 65,536
  records : List Record            -- the newest 8,192, oldest first
  free : List (Nat × Nat)          -- free spool pods as runs, in the order in which they were freed
  bufs : List (Nat × Nat)          -- free pods of the frame buffers, as runs
  works : List (Nat × Nat)         -- free pods of the other reserved areas, as runs
  epochs : List (Nat × Nat)        -- pods of any area whose write epoch is not 0
  retired : List Nat
  nextOrder : Nat
  inflateUnits : Nat               -- mask of the inflate units in service
  checkUnits : Nat                 -- mask of the check units in service
  arrivals : Nat                   -- first bytes of strips and chunks that have arrived (R201)
  chunks : List Chunk
  decoded : List ((Nat × Nat) × Nat × Nat) -- handle and head: strip and first byte of the latest chunk started for print
deriving DecidableEq, Repr

/-- A mailbox (R423, R424, R427): state, class in force, its next SEQ, and the message with its SEQ and flags. -/
structure Mailbox where
  state : Nat
  request : Bool
  nextSeq : Nat
  seq : Nat
  data : List Byte
  code : Nat
  preReset : Bool
  senderReset : Bool
  again : Bool
deriving DecidableEq, Repr

/-- Mailboxes, doorbells and the management port. -/
structure Mgmt where
  th : List Mailbox
  tm : List Mailbox
  thBells : Nat
  tmBells : Nat
  lastErr : Bool
  resStatus : Nat                  -- RESULT of the latest write command
  resByte : Nat
deriving DecidableEq, Repr

/-- An encoder channel (R243-R258). Its position is `basePos` plus the counts since `baseCount`. -/
structure Chan where
  count : Int
  baseCount : Int
  basePos : Int                    -- 1/65,536 line
  edgeA : Option Nat               -- latest counting edge of A, and of B
  edgeB : Option Nat
  inFault : Bool
  faultAt : Nat                    -- when the latest reason appeared
  winCount : Int                   -- count at the start of the speed window
  phase : Option Nat               -- sin/cos phase of the latest sample, 1/1,024 period
  outRun : Nat                     -- consecutive samples outside the amplitude window
  ratioSum : Nat                   -- sum and number of the ratios of the window
  ratioN : Nat
  idxRef : Option Int              -- R_Z
  idxLast : Int                    -- count of the latest Z pulse, or the latest expected one passed
  idxDev : Option Int              -- deviation of an EV058 that waits for a resnap (R258)
  stale : Bool                     -- a commit changed it while it stood by, and it realigns at its next count (R248)
deriving DecidableEq, Repr

/-- A latched print-go edge (R259): position, ring time, and the debounce and lockout in force. -/
structure PgoLatch where
  pos : Int
  t : Nat
  debounce : Nat
  lockout : Nat
deriving DecidableEq, Repr

/-- A print-go input (R259, R260). -/
structure PgoIn where
  latch : Option PgoLatch
  last : Option Int                -- position of the previous confirmed edge
deriving DecidableEq, Repr

/-- A reject candidate (R261): where it falls due, the product it names, and what makes it a reject. -/
structure Cand where
  due : Int                        -- line
  width : Nat                      -- µs, fixed with the reference
  handle : Option Nat              -- segment
  unserved : Bool
  insp : Bool                      -- named by an inspection reject
deriving DecidableEq, Repr

/-- A reject output (R262, R263). -/
structure RejOut where
  queue : List Cand
  from_ : Nat                      -- start of the present assertion
  assertedTo : Option Nat          -- end of the present assertion
  full : Bool                      -- a candidate came to a full queue, and the queue has had no room since (R263)
  cont : Bool                      -- asserted without an end until the queue has room
  sag : Bool                       -- asserted by a sag (R442)
  dropped : List (Nat × Nat)       -- segments whose candidate fell due and was dropped, with its width
deriving DecidableEq, Repr

/-- The position engine (10_position.md). -/
structure Pos where
  chans : List Chan
  active : Nat
  p : Int                          -- P, 1/65,536 line
  tK : Nat                         -- ring time of the latest count that set P
  dt : Nat                         -- time and position between it and the one before (R251)
  dp : Int
  one : Int                        -- one count of the channel that set P
  stopped : Bool                   -- interpolation has stopped
  hw : Int                         -- POS.HIGH_WATER, lines
  hwP : Int                        -- P at the count that set the mark
  excursion : Bool
  hold : Bool                      -- held under R250
  quiet : Bool                     -- a resnap lowered P and the web has not yet passed the mark (R258)
  lost : Option Nat                -- the cause while position is lost (R255, R373)
  strikes : Nat
  agrees : Nat
  xStart : Option (Nat × Int × Int) -- cross-check window: channel, its count and the standby's at its start
  select : Option Nat              -- channel chosen by POS_CHANNEL_SELECT, waits for its next count
  speedAt : Nat                    -- start of the speed window
  pgos : List PgoIn
  rejects : List RejOut
deriving DecidableEq, Repr

/-- A read of a head memory by MEM_READ messages of at most 512 bytes: kind 0 attach, 1 HEAD_REAUTH, 2 HEAD_MEMORY_READ. -/
structure MemRead where
  kind : Nat
  cid : Nat
  offset : Nat
  total : Nat
  data : List Byte
deriving DecidableEq, Repr

/-- A RECIPE (kind 2) or VERNIER (kind 3) message that STATUS has not yet echoed (R288). -/
structure TableMsg where
  kind : Nat
  tseq : Nat
  apply_ : Nat                     -- APPLY_LSEQ
  first : Nat                      -- FIRST_SLOT
  data : List Byte
  sentAt : Nat
deriving DecidableEq, Repr

/-- A head module as a port knows it (R281-R289). -/
structure Head where
  phase : Nat                      -- 0 none, 1 its memory is being read for the attach, 2 attached
  identity : Nat
  laneIds : List (Nat × Nat)       -- lane bit and the identity of its HELLO since the lane came UP
  slots : Nat                      -- S of HELLO
  memSize : Nat
  mem : List Byte                  -- the memory as read
  sigOk : Bool                     -- its signature verified
  auth : Bool
  nocap : Bool                     -- cannot carry the port's window, mapping or segments (R283)
  powerFail : Bool                 -- R282
  fault : Bool                     -- STATUS FAULT, until it has read 0 for 10 ms (R285)
  faultCode : Nat
  faultGone : Option Nat           -- when FAULT first read 0
  readback : Bool                  -- HPEN readback disagrees (R483)
  out : Bool                       -- taken out of service by a store self-test (R492)
  reads : List MemRead
  rtag : Nat
  lastIdent : Option Nat           -- identity last attached since device reset (R273)
  cmd : Option Bool                -- HEAD_POWER that stands
  hpen : Bool
  hpenAt : Nat
  good : Bool                      -- POWER_GOOD since HPEN rose
  withheld : Option Nat            -- cause that took the power away, until the head is READY again (R280, R491)
  lastStatus : Nat
  tempSum : Int                    -- readings since the last tick of R275
  tempN : Nat
  stageNext : Option (Nat × Nat)   -- temperature stage and reading that wait for the next line boundary (R276)
  ahead : List (Nat × Nat × List Nat) -- messages taken from one lane whose copy on the other, named by its bit, may follow (R286)
  recipeTseq : Nat                 -- last TSEQ sent of each kind
  vernTseq : Nat
  tables : List TableMsg
  tickAt : Nat                     -- latest tick of R275
deriving DecidableEq, Repr

/-- A head-line sent and not yet acknowledged (R186, R279, R285). -/
structure HeadLine where
  lseq : Nat
  items : List (Nat × Nat × Nat)   -- segment, line and depth
  fireAt : Nat                     -- nominal fire instant
  period : Nat                     -- ns
  gone : Nat                       -- mask of the lanes on which its GO was launched
  gated : Option (Nat × Nat)       -- cause and instant of a GATE that met it in progress
  broke : Bool                     -- counted in FIRE[h].LINES_BROKEN
deriving DecidableEq, Repr

/-- The firing engine of one head. -/
structure FireHead where
  last : Int                       -- base position of the latest line boundary
  lastStart : Option Nat           -- start of the latest head-line started
  lseq : Nat                       -- LSEQ of the next head-line
  acked : Nat                      -- last LSEQ acknowledged
  sent : List HeadLine
  recent : List HeadLine           -- the newest 64 head-lines sent
  excursion : Bool                 -- R266
  clean : Nat                      -- head-lines since the latest deferral
  lanes : Nat                      -- mask of the port's lanes that FIRE uses
  lost : Nat                       -- mask of lanes lost and not returned
  lossAt : Option Nat              -- report of a loss whose first line boundary has not come (R312)
  degraded : Bool                  -- EV048 raised for the present loss
  back : Nat                       -- mask of lanes whose hold has ended, before the next line boundary (R313)
deriving DecidableEq, Repr

/-- A gate input: active, and the heads and role with which it acted (R278). -/
structure Gate where
  active : Bool
  heads : Nat
  role : Nat
deriving DecidableEq, Repr

/-- The firing engine (11_firing_and_heads.md). -/
structure Fire where
  heads : List FireHead
  gates : List Gate
  outside : Bool                   -- outside its operating conditions: cause 0x02 (R19)
  sag : Bool                       -- gated by a sag: cause 0x01
  reset : Bool                     -- PORST_N or SYSRST_N asserted: cause 0x0C
deriving DecidableEq, Repr

/-- A loopback that this end runs (R315). -/
structure LoopRun where
  cid : Nat
  kind : Nat
  stop : Nat
  words : Nat                      -- words checked, words in error and bit errors so far
  wordErrs : Nat
  bitErrs : Nat
deriving DecidableEq, Repr

/-- A Theal lane (12_theal_lanes.md); its state, reason, latency and counters are its parameters. -/
structure Lane where
  startAt : Nat                    -- step 1 of the present bring-up
  failedAt : Nat                   -- when the lane failed
  rxReady : Bool
  peerReady : Bool
  probes : List Nat                -- probe numbers echoed
  rtt : Nat                        -- largest latency found so far, ns
  txState : Nat                    -- the transmitter's scrambler state
  sinceFill : Nat                  -- words sent since its latest FILL and its latest ALIGN
  sinceAlign : Nat
  fseqTx : Nat                     -- FSEQ of its next frame
  rxState : Option Nat             -- descrambler state
  alignAt : Nat                    -- latest ALIGN received
  peerRx : Bool                    -- RX_UP of the latest ALIGN received
  peerLane : Option Nat            -- its LANE bit
  acount : Nat                     -- ALIGN count sent
  fseqRx : Option Nat              -- FSEQ of the latest frame received
  rx : List Byte                   -- payload of the latest frame delivered
  errs : List Nat                  -- instants of discarded frames within the last 1 ms
  downs : List Nat                 -- instants of departures within LANE.FLAP_WINDOW
  upAt : Nat
  hold : Option Nat                -- end of RESTORE_HOLD (R313)
  loop : Option LoopRun
  far : Option Nat                 -- acts as far end since
  retrain : Option Nat             -- LANE_RETRAIN that waits for its result
  flapping : Bool                  -- held with FLAPPING until LANE_RETRAIN (R310)
  force : Nat                      -- CTLE_FORCE, TX_SWING and TX_DEEMPH that its latest training took (R308)
  swing : Nat
  deemph : Nat
deriving DecidableEq, Repr

/-- What the policy pair remembers of a nozzle slot (R234-R240, R346). Times are counts of the time island. -/
structure SlotHist where
  outAt : Nat                      -- when it was declared out
  restores : List Nat
  remapAt : Option Nat
  vernAt : Option Nat
  baseRemap : Nat                  -- table that the last chart or the head memory set
  basePlace : Nat                  -- place that they set, 1/64 line
  suspect : Bool
deriving DecidableEq, Repr

/-- A journal entry (R448): KIND, INDEX, SLOT and VALUE. -/
structure JEntry where
  kind : Nat
  index : Nat
  slot : Nat
  value : Nat
deriving DecidableEq, Repr

/-- A change of the compensation engine: its journal entry, whether its place waits for a head gap (R229), and whether
it ends a chart apply that EV037 reports. -/
structure Change where
  entry : JEntry
  gap : Bool
  chart : Bool
deriving DecidableEq, Repr

/-- A split probe of a column (R348): lines fired from the first and then from the second nozzle. -/
structure Probe where
  head : Nat
  column : Nat
  fired : Nat
deriving DecidableEq, Repr

/-- A declaration of OUT that waits for the rates of R236. -/
structure DeferredOut where
  t : Nat                          -- evidence time
  head : Nat
  slot : Nat
deriving DecidableEq, Repr

/-- A column of a stitch zone across AL716 that either side does not print (R224-R226). -/
structure ZoneCol where
  plane : Nat
  side : Nat                       -- 0 east, 1 west
  j : Nat
  own : Bool                       -- this member prints its share
  ownTo : Option Int               -- position from which it does so again
  agreed : Bool                    -- own share as last agreed with the peer (R226)
  peer : Bool                      -- the peer prints its share
  peerFrom : Int                   -- position from which this member takes the whole column
  peerTo : Option Int              -- position from which the peer resumes
  offer : Option Int               -- effective position offered and not acknowledged
  owed : Bool                      -- a change not yet sent, the peer being unreachable
deriving DecidableEq, Repr

/-- The nozzle ledger of a port with what belongs to it: entries that differ from an absent slot's, history, and the
identity stored with it. -/
structure Ledger where
  entries : List (Nat × Nat)
  hist : List (Nat × SlotHist)
  identity : Option Nat
  places : List (Nat × Nat)        -- places that wait for a head gap, by slot: bit 12 CHARTED, bit 13 of a chart apply
  chart : Bool                     -- they come from a chart apply
  term : Option Int                -- move of the head-level term that waits (R229)
  remap : Bool                     -- the mapping changed since the entries were built (R211)
deriving DecidableEq, Repr

/-- The latest ZONE_STATE of a member for a zone of a plane (R223, R375): `side` is the side of this member. -/
structure PeerZone where
  plane : Nat
  side : Nat
  src : Nat
  width : Nat
  source : Nat
  mask : Nat                       -- bit j: zone column j is printable there
  waits : Bool                     -- it came while the peer was unreachable
deriving DecidableEq, Repr

/-- The compensation engine (09_nozzle_compensation.md). -/
structure Comp where
  ledgers : List Ledger
  untrusted : Bool                 -- the stored ledger is untrusted (R450)
  tables : List Nat                -- level-remap tables in force
  fb : List Nat                    -- fall-back selection in force, by head
  journal : List JEntry            -- entries since the valid checkpoint, oldest first
  groups : List (List Change)      -- groups that wait for journal room (R448)
  probes : List Probe
  deferred : List DeferredOut
  declared : List (Nat × Nat)      -- instant and head of declarations of OUT within the last 1 s
  zones : List ZoneCol
  mismatch : List (Nat × Nat)      -- plane and side of zones under EV036
  peerZones : List PeerZone
  ckptAt : Nat                     -- when the latest checkpoint was taken
deriving DecidableEq, Repr

/-- A bank of the boot flash (R437, R453): the image it holds as the Shell finds it, the length its header gives, and the bytes
written so far. -/
structure Bank where
  image : Option ImageEv
  length : Nat
  held : Nat
  data : List Byte
deriving DecidableEq, Repr

/-- An entry of the handle ring (R188, R446). -/
structure RingEnt where
  handle : Nat
  state : Nat
  flags : Nat
deriving DecidableEq, Repr

/-- A ledger checkpoint (R232, R447): the ledgers with their identities, the tables, the fall-back selection and the zones. -/
structure Ckpt where
  ledgers : List Ledger
  tables : List Nat
  fb : List Nat
  zones : List ZoneCol
deriving DecidableEq, Repr

/-- A segment entry of the save and of the restart report (*Segment entry*). -/
structure SavedSeg where
  handle : Nat
  state : Nat
  nonePrinted : Bool
  unknown : Bool
  flagged : Bool
  heads : Nat
  firstOpen : List Nat
deriving DecidableEq, Repr

/-- The SAG region of the save store (R449), which of its sections exist, and how many of the six were completed. -/
structure Save where
  seq : Nat
  kind : Nat
  tSag : Nat
  utc : Nat
  counters : List Nat
  segs : List SavedSeg
  journal : List JEntry
  log : List LogEntry
  header : Bool                    -- step 2 is part of it (R445)
  journalHeld : Bool               -- step 4 is part of it
  sections : Nat
deriving DecidableEq, Repr

/-- A copy of the control block: SAVE_SEQ, the save state, the valid checkpoint slot, SHELL.UTC_FLOOR and the write counter. -/
structure Ctrl where
  seq : Nat
  state : Nat
  slot : Nat
  utcFloor : Nat
  counter : Nat
deriving DecidableEq, Repr

/-- What the board record gives (*Board record*): CHANNELS, RANKS, DENSITY, RATE, ADDR4, SAVE_BYTES, PMBUS_ADDR, PMBUS_PAGE, HOLD_UF. -/
structure Board where
  channels : Nat
  ranks : Nat
  density : Nat
  rate : Nat
  addr4 : Bool
  saveBytes : Nat
  pmbusAddr : Nat
  pmbusPage : Nat
  holdUf : Nat
deriving DecidableEq, Repr

/-- The save store (20_power_boot_and_holdup.md): SAVE_SEQ, the save state, the handle ring oldest first, SHELL.UTC_FLOOR, the
write counter, the valid checkpoint with its slot, and the latest save. -/
structure Store where
  older : Ctrl                     -- the copy of the control block that the latest write left
  copyB : Bool                     -- the latest write went to copy B
  seq : Nat
  state : Nat
  ring : List RingEnt
  utcFloor : Nat
  counter : Nat
  ckpt : Option Ckpt
  slot : Nat
  save : Option Save
deriving DecidableEq, Repr

/-- The restart report (R452): KIND, the flag byte, SAVE_SEQ, T_SAG, UTC, the nine counters and the segment entries. -/
structure Report where
  kind : Nat
  flags : Nat
  seq : Nat
  tSag : Nat
  utc : Nat
  counters : List Nat
  segs : List SavedSeg
deriving DecidableEq, Repr

/-- Power, start-up and hold-up. -/
structure Power where
  banks : List Bank                -- the boot flash
  select : List (Option (Nat × Nat)) -- SEQ and BANK of the select records A and B
  store : Store
  down : Bool                      -- in reset
  sag : Nat                        -- sag sequence: 0 none, 1 gated, 2 head power off, 3 saving, 4 held in reset
  sagKind : Nat                    -- reset kind of the save in progress
  sagAt : Nat                      -- ring time at recognition
  saving : Option Save             -- the save in progress
  ringDue : List RingEnt           -- entries of the handle ring not yet written
  retryAt : Option Nat             -- when a write that failed is tried again
  ckptRun : Option (Ckpt × Nat)    -- the checkpoint being written, and the journal's length at its snapshot
  driven : List SavedSeg           -- segments broken by a pin-driving instruction (R490)
  restored : Bool
  report : Option Report
  erase : List (Nat × Option ImageEv) -- POWER_FW_STAGE packets that wait for the erase, and what they complete
  switch : Option (Nat × Nat × Nat) -- switch that waits for a gap: flight, bank, since
  switching : Option (Nat × Nat)   -- switch under way: flight and bank
  vddLowered : Nat                 -- latest steps of VDD_CORE
  vddRaised : Nat
  vddAt : Option Nat               -- a write whose READ_VOUT is due
  railBad : List Nat
  board : Option Board             -- the board record in use (R437)
deriving DecidableEq, Repr

/-- What is known of another member of the ring, by its address (R152, R375, R377). -/
structure Member where
  addr : Nat
  seen : List (Nat × Nat × Nat)    -- GEN, CTR and tag of the frames accepted, newest CTR first, within the window
  heardA : Option Nat              -- latest BEACON on ring A, and on ring B
  heardB : Option Nat
  hopsA : Nat
  hopsB : Nat
  ident : Nat
  flags : Nat                      -- of its latest BEACON
  source : Nat
  lastEvent : Nat
  lost : Bool                      -- EV075 raised and not heard since
deriving DecidableEq, Repr

/-- A vote that this member coordinates (R178). -/
structure Vote where
  group : Nat
  handle : Nat
  sentAt : Nat                     -- ring time of the PREPARE
  yes : List Nat
deriving DecidableEq, Repr

/-- A PREPARE that waits for the end of a segment's verification (R178). -/
structure Prepare where
  group : Nat
  src : Nat
  t : Nat
deriving DecidableEq, Repr

/-- An answer to DISCOVER (R361-R363). -/
structure EnumReply where
  ident : Nat
  hopsA : Nat
  hopsB : Nat
  old : Nat
  busy : Bool
deriving DecidableEq, Repr

/-- An enumeration that this member runs: its run number, start, answers, the command that asked, and whether ring A
returned DISCOVER. -/
structure EnumRun where
  run : Nat
  startAt : Nat
  replies : List EnumReply
  cids : List Nat                  -- the CAUSE_ENUMERATE commands that it answers
  ringA : Bool
deriving DecidableEq, Repr

/-- The generation before the installed one (R362): its number and key, and until when its frames are accepted. -/
structure OldGen where
  gen : Nat
  key : Nat
  stop : Nat
deriving DecidableEq, Repr

/-- A ring key that waits for its install instant (R362). -/
structure KeyWait where
  addr : Nat
  members : Nat
  gen : Nat
  install : Nat                    -- ring time
  key : Nat
deriving DecidableEq, Repr

/-- A Causeway lane as a source of ring time (R366, R367). -/
structure TimeLane where
  last : Option Nat                -- latest valid TIME
  dist : Nat
  better : Option Nat              -- offers a DIST at least 2 smaller since
  offset : Int                     -- offset of the latest TIME to the member's ring time, ns
deriving DecidableEq, Repr

/-- Raisings of an event that the next EVENT_SUMMARY carries (R376). -/
structure Summary where
  ev : Nat
  svc : Nat
  unit : Nat
  count : Nat
  t : Nat
  sent : Option Nat                -- when the latest summary of this event was sent
deriving DecidableEq, Repr

/-- The Causeway (15_causeway.md). -/
structure Cause where
  key : Nat                        -- the installed ring key
  oldGen : Option OldGen           -- the generation before
  ctr : Nat                        -- the next frame's counter
  members : List Member
  anon : List (Nat × Nat × Nat)    -- senders without an address: who, CTR and tag of the frames accepted, within the window (R152)
  votes : List Vote
  prepares : List Prepare
  commits : List (Nat × Nat)       -- group and commit instant
  run : Option EnumRun
  heard : Option (Nat × Nat × Nat) -- DISCOVER heard: run, hops on ring A and on ring B
  frags : List (Nat × List Byte)   -- KEY fragments of the present run
  wait : Option KeyWait
  join : Option Nat                -- first JOIN heard
  beacon : Bool                    -- a BEACON was heard while no address is held (R365)
  startEnum : Bool                 -- the enumeration of start-up was made
  time : List TimeLane
  stepped : Bool                   -- the one step of R368 was made
  slewAt : Nat                     -- latest slew (R368)
  holdover : Option Nat
  timeLost : Bool
  backA : Nat                      -- ring time of the latest return of the own BEACON
  backB : Nat
  openA : Bool
  openB : Bool
  posAt : Option Nat               -- T_K of the latest POSITION accepted
  posHeard : Nat                   -- when it was accepted
  sums : List Summary
  sentAt : List (Nat × Nat)        -- when each periodic frame was last sent: TYPE, TIME by 64 + its lane
deriving DecidableEq, Repr

/-- A core pair (R12): start of the restart under way, and instants of failed restarts within 60 s. -/
structure CorePair where
  restart : Option Nat
  fails : List Nat
deriving DecidableEq, Repr

/-- The engines, pace monitors and straits (01_sound_and_islands.md). -/
structure Dev where
  cmd : CorePair
  pol : CorePair
  paceLow : List (Nat × Nat)       -- service and its consecutive windows below 1,000
  paceGood : List (Nat × Nat)      -- service under EV002 and its consecutive windows at or above 1,000
  paceApart : List (Nat × Nat)     -- service and its consecutive windows of disagreeing rings (R465)
  hot : Bool                       -- Tj above 105 °C (R19)
  low : Bool                       -- VDD_CORE below 0.70 V
  resync : List (Nat × Nat × Nat)  -- islands reset and not yet resynchronised: service, unit and entries discarded (R28)
deriving DecidableEq, Repr

/-- A parameter set of a camera device (R327): the DEV.COMMIT_SEQ that wrote it and its parameters that differ from reset. -/
structure CamSet where
  seq : Nat
  vals : List (Nat × Nat)
deriving DecidableEq, Repr

/-- The stamp of a trigger that left (R323): trigger number, position in 1/65,536 line, ring time and count of its edge, its
parameter set, and whether it was a designated frame start. -/
structure Stamp where
  k : Nat
  x : Int
  t : Nat
  edge : Nat
  seq : Nat
  start : Bool
deriving DecidableEq, Repr

/-- A camera line as received: trigger number, position and raw samples. -/
structure CamLine where
  k : Nat
  x : Int
  data : List Nat
deriving DecidableEq, Repr

/-- A frame from its opening to its closing (R325). -/
structure CamFrame where
  num : Nat
  set : CamSet
  tFirst : Nat
  pFirst : Int                     -- stamp positions of its first line and of the latest
  pLast : Int
  lines : List CamLine             -- in the order of arrival
  consumed : Nat                   -- stamps consumed from its first line on
  lost : Nat
  discarded : Nat
  short : Bool
  long : Bool
  gap : Bool
  realigned : Bool
  format : Bool
  unbuffered : Bool
  pods : List Nat                  -- its frame-buffer pods
  insp : List (Nat × Nat)          -- view, renderer and class parameters when it opened, away from their resets
deriving DecidableEq, Repr

/-- Statistics of one channel (*Frame statistics record*). -/
structure ChanStat where
  mean : Nat
  min : Nat
  max : Nat
  sat : Nat
  code : Nat
deriving DecidableEq, Repr

/-- A frame statistics record (R334). -/
structure FrameStat where
  num : Nat
  seq : Nat
  pFirst : Int
  pLast : Int
  tFirst : Nat
  lines : Nat
  lost : Nat
  discarded : Nat
  flags : Nat                      -- byte 38
  chans : List ChanStat
deriving DecidableEq, Repr

/-- A control command to a camera (R319), sent or waiting. -/
structure CamCmd where
  cid : Nat
  write : Bool
  addr : Nat
  count : Nat
  data : List Byte
  sentAt : Option Nat
deriving DecidableEq, Repr

/-- A camera port (13_camera_pipeline.md). -/
structure Cam where
  state : Nat                      -- 0 disabled, 1 down, 2 discovering, 3 up
  speed : Nat
  k : Nat                          -- number of the next trigger
  next : Int                       -- its position, 1/65,536 line
  start : Nat                      -- next designated frame start
  last : Option Nat                -- edge of the latest trigger that left
  stalled : Bool                   -- firing was held or position lost since the latest trigger
  stamps : List Stamp              -- oldest first
  cur : CamSet                     -- set in force for triggers
  old : List CamSet                -- earlier sets that stamps still name
  shadow : Option CamSet
  fresh : Nat                      -- 1: the next line with a stamp opens a frame; 2: and that frame was found realigned
  hdr : Nat × Nat                  -- width and pixel format of the latest image header
  opened : Option CamFrame
  excess : Option Nat              -- frame whose image goes on after its H stamps
  closing : List CamFrame          -- closed frames whose statistics are not yet made
  stats : List FrameStat           -- oldest first, at most 1,024
  cmds : List CamCmd               -- first the one that is sent
  lock : Option Nat                -- the connection of the port is locked: the highest speed that the camera admits on it
deriving DecidableEq, Repr

/-- An output line of a frame in a buffer: position and, for each pixel, the channels' samples (R331). -/
structure OutLine where
  x : Int
  pix : List (List Nat)
deriving DecidableEq, Repr

/-- A frame in its buffer (R333, R342). -/
structure Image where
  port : Nat
  num : Nat
  seq : Nat
  codes : List Nat                 -- filter codes of its channels
  pitch : Nat                      -- CAM[c].TRIG_PITCH of its set
  lines : List OutLine
  pods : List Nat                  -- its frame-buffer pods
  stage : Nat                      -- analyses behind it: 0 none, 1 defects, 2 nozzle health, 3 all ended or skipped
  done : Bool                      -- at least one analysis was made
  registered : Bool                -- registered or blank
  sx : Int                         -- shift across, 1/4 pixel
  sy : Int                         -- shift along, 1/4 camera line
  charts : List Nat                -- chart segments whose lines hold it (R342)
  insp : List (Nat × Nat)          -- view, renderer and class parameters of its frame
  run : Nat                        -- unregistered frames of the view in a row, this one included (R339)
deriving DecidableEq, Repr

/-- A nozzle that fired, as the renderer's copy holds it (R335). -/
structure Shot where
  head : Nat
  slot : Nat
  plane : Nat
  col : Nat                        -- plane column
  y : Int                          -- position
  code : Nat
  handle : Nat
  chart : Bool
  solo : Bool                      -- fired through SOLO_TABLE
deriving DecidableEq, Repr

/-- An inspection engine (R340): frames queued by port and number, first the one in work. -/
structure Engine where
  out : Bool
  queue : List (Nat × Nat)
deriving DecidableEq, Repr

/-- Registration of a view (R339): the last registered frame's shift and the run of unregistered frames. -/
structure ViewReg where
  sx : Int
  sy : Int
  lost : Nat
deriving DecidableEq, Repr

/-- Camera lines of one frame for the coverage of R341: when it closed, its engine, lines received, and lines that each
analysis took. -/
structure Cover where
  t : Nat
  engine : Option Nat
  port : Nat
  num : Nat
  lines : Nat
  defects : Nat
  nozzles : Nat
  align : Nat
deriving DecidableEq, Repr

/-- A defect (*Defect record*). -/
structure Defect where
  num : Nat
  handle : Nat
  pos : Int                        -- 1/65,536 line
  cls : Nat
  view : Nat
  plane : Nat
  rejected : Bool
  colFirst : Nat
  colCount : Nat
  lines : Nat
  peak : Int
deriving DecidableEq, Repr

/-- The alarm of a defect class (R344): in alarm, its defects of the last 1 s, and the end of the latest time at which they
reached ALARM_COUNT. -/
structure Alarm where
  on : Bool
  times : List Nat
  high : Nat
deriving DecidableEq, Repr

/-- Density evidence of a firing set (R349). -/
structure Density where
  head : Nat
  slots : List Nat
  lines : Nat
  sum : Int
deriving DecidableEq, Repr

/-- Edges of a band of 16 columns of a plane, and the nozzles that fired the band (R350). -/
structure Band where
  plane : Nat
  band : Nat
  edges : Nat
  sum : Int                        -- 1/64 line
  nozzles : List (Nat × Nat)       -- head and slot
deriving DecidableEq, Repr

/-- A measurement (R354): what it found of each slot, whose meaning its kind gives: 1 printed or 0 not, a place in 1/64
line, or a table. -/
structure Measure where
  handle : Nat
  kind : Nat
  heads : Nat
  idents : List (Nat × Option Nat) -- identity of each head when the chart was measured
  slots : List (Nat × Nat × Int)
  t : Nat                          -- when its FINAL left
deriving DecidableEq, Repr

/-- An INSP_CHART_MEASURE that runs. -/
structure MeasureRun where
  cid : Nat
  chart : Nat
  views : Nat
deriving DecidableEq, Repr

/-- A camera line whose trigger came (R352): its view, position and the position it views, whether its defect analysis was
made, and whether the trigger left with a stamp (R322). -/
structure Viewed where
  view : Nat
  x : Int
  y : Int
  done : Bool
  stamped : Bool
deriving DecidableEq, Repr

/-- The inspection service (14_inspection_loop.md). -/
structure Insp where
  images : List Image
  tap : List Shot                  -- the renderer's copy: the most recent 8,192 positions
  gone : List Int                  -- positions of it that could not be written or read back (R335, R396)
  engines : List Engine
  views : List ViewReg
  viewed : List Viewed             -- triggered lines of the views, newest first
  cover : List Cover               -- of the last 60 s
  coverLow : Option Nat            -- device coverage below the alarm level since
  alarms : List Alarm
  seconds : List (Nat × Nat × List Nat) -- second, view and its defects of classes 1-6; newest first
  defects : List Defect            -- the newest 1,024, newest first
  nextDefect : Nat
  density : List Density
  bands : List Band
  runs : List MeasureRun
  measures : List Measure          -- oldest first
  nextMeasure : Nat
deriving DecidableEq, Repr


/-- The user of a pack job (17_pack_engine.md): PACK_SUBMIT, EVT_LOG_EXPORT, the return of an inspection image with its job, the nonce
N and the image header (R355), or a diagnostic capture with its point, start and length (R493). -/
inductive PackUse where
  | host
  | logExport
  | image (job : Nat) (nonce header : List Byte)
  | capture (point start len : Nat)
deriving DecidableEq, Repr

/-- A job of the pack engine (R400): the flight it answers, its session and tag, OP (1 compress, 2 decompress), SOURCE, and its
user; SRC_FIRST, SRC_LEN and OUT_LIMIT; the source once the job runs, and the entries left out. -/
structure PackJob where
  cid : Nat
  sn : Nat
  tag : Nat
  op : Nat
  source : Nat
  use : PackUse
  first : Nat
  count : Nat
  limit : Nat
  data : List Byte
  skipped : Nat
  running : Bool
  pod : Option Nat                 -- its work area in the reserved pods
deriving DecidableEq, Repr

/-- The pack engine (17_pack_engine.md). -/
structure Pack where
  out : Bool                       -- its self-check failed (R403)
  jobs : List PackJob              -- in order of acceptance, first the one that runs
deriving DecidableEq, Repr

/-- An entry of a write queue (R386): burst address, port, when it entered the island, whether it is urgent, and the values of
the 40 lines (R392). -/
structure DramWrite where
  addr : Nat
  port : Nat
  since : Nat
  urgent : Bool
  lines : List Nat
deriving DecidableEq, Repr

/-- A read that waits (R385). -/
structure DramRead where
  addr : Nat
  port : Nat
  since : Nat
  urgent : Bool
  late : Bool                      -- a print read counted under R388
  expert : Bool                    -- DRAM.HUSK_MODE when it started (R390)
deriving DecidableEq, Repr

/-- A rank of a sub-channel (R382, R383). -/
structure Rank where
  down : Bool                      -- in power-down
  hot : Bool                       -- refreshed at the halved interval
  last : Nat                       -- latest request queued for it
  refreshAt : Nat                  -- latest refresh
deriving DecidableEq, Repr

/-- A sub-channel. -/
structure SubCh where
  reads : List DramRead            -- oldest first
  writes : List DramWrite          -- oldest first
  strait : List DramWrite          -- offered into a full queue and stalled (R386)
  draining : Bool
  ranks : List Rank
  osc : Nat                        -- oscillator count at the last training
  oscNow : Nat                     -- latest count read
  oscAt : Nat                      -- when it was read
  temp : Nat                       -- mode-register-4 step at the last training
  tempNow : Nat
  dueAt : Option Nat               -- a retraining window is due since
  highSeen : Bool                  -- counted in DRIFT_HIGH for the window that is due
  windowEnd : Nat                  -- end of the latest window
  windowAt : Option Nat            -- start of the latest window
  corrected : List Nat             -- instants of corrected bursts within 3,600 s
  alarmAt : Option Nat             -- latest EV082
deriving DecidableEq, Repr

/-- A corrected burst that waits to be written back (R395): its lines, its pod's epoch at the read, and whether a write to it
has entered the write queue since. -/
structure BackWrite where
  addr : Nat
  lines : List Nat
  epoch : Nat
  written : Bool
deriving DecidableEq, Repr

/-- A DRAM error record (*DRAM error record*). -/
structure DramErr where
  t : Nat
  addr : Nat                       -- burst address, which gives SUB, RANK, BG, BANK, ROW, BURST and POD
  word : Nat
  kind : Nat
  symA : Nat
  symB : Nat
  port : Nat
  again : Nat                      -- REPEAT
deriving DecidableEq, Repr

/-- The DRAM island (16_dram_and_husk_code.md). -/
structure Dram where
  subs : List SubCh                -- units 0-3
  errors : List DramErr            -- the 256 newest, newest first
  scrub : Nat                      -- next burst of the patrol scrub
  passAt : Nat                     -- when its present pass began
  tPass : Nat
  backs : List BackWrite
  podErrs : List (Nat × Nat)       -- corrected bursts of a pod in the present pass
  marked : List Nat                -- pods to retire when next freed
deriving DecidableEq, Repr

/-- A trimmed element (21_calibration_and_self_check.md): whether a fuse record gives it, its values (three per trim where it
has a temperature set), the field offset, the latest values and those that have reached the outputs, the latest refresh,
and whether it was field-trimmed. -/
structure Trim where
  fused : Bool
  tset : Bool
  count : Nat
  values : List Int
  offset : Int
  next : List Int
  out : List Int
  at_ : Nat
  trimmed : Bool
  stale : Bool
deriving DecidableEq, Repr

/-- Calibration. -/
structure Cal where
  trims : List Trim                -- elements 0-8
  holdup : Option (List Nat × Nat) -- CAL_HOLDUP_TEST that runs, HOLD_TST high: its flights and the load in mA
deriving DecidableEq, Repr

/-- A diagnostic capture that runs (R493). -/
structure CaptureRun where
  cid : Nat
  sn : Nat
  point : Nat
  len : Nat
  start : Nat                      -- T_START
deriving DecidableEq, Repr

/-- A TEST_BIST whose pack pipeline waits for the jobs then queued (R492): what it found of the units before and after the pipeline, and
whether the pipeline fails. -/
structure BistRun where
  cid : Nat
  before : List Byte
  after : List Byte
  failed : Bool
  jobs : List Nat
deriving DecidableEq, Repr

/-- The TAP (23_boundary_scan_and_test.md): the boundary register's update latches and the value it captured last, the value the
instruction register captured last; and diagnostic captures. TEST_EN, the instruction and PIN_DRIVEN are parameters. -/
structure Test where
  boundary : Nat
  captured : Nat
  irCapture : Nat
  captures : List CaptureRun
  bist : List BistRun
deriving DecidableEq, Repr

/-- What arrived while the command pair takes no packets (R13, R454): a frame in order of a session, or a host command. -/
inductive Parked where
  | frame (session : Nat) (f : HeldFrame)
  | row (session : Nat) (i : Instr)
deriving DecidableEq, Repr

/-- What the latest command sent or drove (log entry 9). -/
inductive Out where
  /-- A Fresy session frame: port, session, TYPE, RTX, EPOCH, SEQ, ACK, SACK, CREDIT, TXC, destination, payload, the PCP and VID of
  its tag, and its bytes from the header to the GCM tag (R55, R56). -/
  | frame (port session ftype : Nat) (rtx epoch : Bool) (seq ack sack credit txc dst : Nat) (payload : Option Payload)
    (vlan : Option (Nat × Nat)) (wire : List Byte)
  /-- A reply made for a command, before it is put into a frame. -/
  | reply (session : Nat) (r : Reply)
  /-- A handshake frame: port, destination, TYPE, handshake ID, the PCP and VID of its tag, and its bytes from the header on. -/
  | handshake (port dst ftype id : Nat) (vlan : Option (Nat × Nat)) (wire : List Byte)
  /-- A Theal message on a lane: lane unit, message type, values and bytes. -/
  | theal (lane mtype : Nat) (vals : List Nat) (data : List Byte)
  /-- A marker on a lane: lane unit, marker code and argument. -/
  | marker (lane code arg : Nat)
  /-- Words put on a lane: lane unit, and each word's stuff bits and its content as it leaves (R293, R295). -/
  | line (lane : Nat) (words : List (Nat × Nat))
  /-- A Causeway frame on a lane: lane unit and bytes. -/
  | causeway (lane : Nat) (frame : List Byte)
  /-- A word to a camera: port, kind and values. -/
  | camera (port kind : Nat) (vals : List Nat)
  /-- A pin driven: its name and level. -/
  | pin (name : String) (level : Nat)
  /-- A pin driven at an instant to come (R264). -/
  | pinAt (name : String) (level start : Nat)
  /-- The data of an SPI reply. -/
  | spi (data : List Byte)
  /-- VOUT_COMMAND to the core regulator over PMBus (R432): address, page and voltage in mV. -/
  | pmbus (addr page mv : Nat)
  /-- A write to the save store or the flash: area and values. -/
  | store (area : String) (vals : List Nat)
  /-- A value shifted out of a TAP register: 0 instruction, 1 bypass, 2 device ID, 3 boundary. -/
  | scan (reg value : Nat)
  /-- A command to DRAM: sub-channel, kind and values. -/
  | dram (sub kind : Nat) (vals : List Nat)
deriving DecidableEq, Repr

/-- The state of the AL716. -/
structure State where
  now : Nat                        -- the time island's count, ns since reset release (DEV.UPTIME)
  offset : Int                     -- ring time less the count (R368)
  params : List (Nat × Nat)        -- parameters that differ from their reset values, ascending ID
  pins : List Pin
  nextCid : Nat
  flights : List Flight
  results : List Result
  sessions : List Session
  shakes : List Handshake
  ports : List Port
  dev : Dev
  own : Own
  shell : Shell
  evt : Evt
  spool : Spool
  mgmt : Mgmt
  pos : Pos
  power : Power
  heads : List Head
  fire : Fire
  lanes : List Lane
  comp : Comp
  cams : List Cam
  insp : Insp
  pack : Pack
  dram : Dram
  cal : Cal
  test : Test
  cause : Cause
  draws : Nat                      -- draws of random values made; selects the next free value (log entry 4)
  hap : Nat                        -- entries that the present happening has written (R407)
  readings : Nat                   -- progress readings made; selects the next free value (log entry 7)
  out : List Out                   -- what the latest command sent
  stalled : List Out               -- what waits for an island that resynchronises (R28), oldest first
  parked : List Parked             -- what arrived while the command pair takes nothing (R13, R454), oldest first
  pending : List Instr             -- commands that wait, first in, first out
deriving DecidableEq, Repr

/-- Table `t` of *Level-remap tables at reset* (R215), entry 0 in the lowest byte. -/
def remapReset (t : Nat) : Nat :=
  leNat ((if t < 13 then (List.range 8).map (fun b => if b = 0 then 0 else min 7 (max 1 ((b * (t + 4) + 5) / 10)))
    else if t = 13 then [0, 2, 4, 6, 7, 7, 7, 7]
    else if t = 14 then [0, 1, 2, 3, 4, 5, 6, 7]
    else [0, 1, 1, 2, 2, 3, 3, 3]).map (BitVec.ofNat 8))

/-- The AL716 right after reset release. -/
def State.reset : State where
  now := 0
  offset := 0
  params := []
  pins := []
  nextCid := 0
  flights := []
  results := []
  sessions := []
  shakes := []
  ports := List.replicate 4 ⟨false, 0, 0, 0⟩
  dev := ⟨⟨none, []⟩, ⟨none, []⟩, [], [], [], false, false, []⟩
  own := ⟨0, 0, 0, 0, false, 0, 0, 0, 0, 0⟩
  shell := ⟨Config.drk.toNat, (Config.random 0).toNat % 2 ^ 256, List.replicate 4 ⟨0, false, 0⟩, [], 0, false, false, false, [], false, false⟩
  evt := ⟨[], 0, 0, [], [], []⟩
  spool := ⟨[], [], [], [], [], [], [], [], 0, 0xFFFFFFFF, 0xFFFFFFFF, 0, [], []⟩
  mgmt := ⟨List.replicate 16 ⟨0, false, 0, 0, [], 0, false, false, false⟩,
    List.replicate 16 ⟨0, false, 0, 0, [], 0, false, false, false⟩, 0, 0, false, 0, 0⟩
  pos := ⟨List.replicate 2 ⟨0, 0, 0, none, none, false, 0, 0, none, 0, 0, 0, none, 0, none, false⟩, 0, 0, 0, 0, 0, 0, false, 0, 0, false,
    false, false, none, 0, 0, none, none, 0, List.replicate 4 ⟨none, none⟩, List.replicate 2 ⟨[], 0, none, false, false, false, []⟩⟩
  power := ⟨[⟨none, 0, 0, []⟩, ⟨none, 0, 0, []⟩], [none, none], ⟨⟨0, 0, 0, 0, 0⟩, false, 0, 0, [], 0, 0, none, 0, none⟩, false, 0, 0, 0, none, [], none, none, [], false, none, [], none, none, 0, 0, none, [], none⟩
  heads := List.replicate 16 ⟨0, 0, [], 0, 0, [], false, false, false, false, false, 0, none, false, false, [], 0, none, none, false, 0,
    false, none, 0, 0, 0, none, [], 0, 0, [], 0⟩
  fire := ⟨List.replicate 16 ⟨0, none, 0, 0, [], [], false, 0, 0, 0, none, false, 0⟩, List.replicate 6 ⟨false, 0, 0⟩, false, false, false⟩
  lanes := List.replicate 36 ⟨0, 0, false, false, [], 0, 0, 0, 0, 0, none, 0, false, none, 0, none, [], [], [], 0, none, none, none, none, false, 0, 0, 0⟩
  comp := ⟨List.replicate 16 ⟨[], [], none, [], false, none, false⟩, false, (List.range 16).map remapReset, List.replicate 16 15, [], [], [], [], [],
    [], [], [], 0⟩
  cams := List.replicate 4 ⟨0, 0, 0, 0, 0, none, false, [], ⟨0, []⟩, [], none, 0, (0, 0), none, none, [], [], [], none⟩
  insp := ⟨[], [], [], List.replicate 8 ⟨false, []⟩, List.replicate 4 ⟨0, 0, 0⟩, [], [], none, List.replicate 6 ⟨false, [], 0⟩, [], [], 0, [], [], [], [], 0⟩
  pack := ⟨false, []⟩
  dram := ⟨List.replicate 4 ⟨[], [], [], false, [], 0, 0, 0, 0, 0, none, false, 0, none, [], none⟩, [], 0, 0, 0, [], [], []⟩
  cal := ⟨List.replicate 9 ⟨false, false, 0, [], 0, [], [], 0, false, false⟩, none⟩
  test := ⟨0, 0, 0, [], []⟩
  cause := ⟨0, none, 0, [], [], [], [], [], none, none, [], none, none, false, false, List.replicate 4 ⟨none, 0x7FF, none, 0⟩, false, 0, none, false, 0, 0,
    false, false, none, 0, [], []⟩
  draws := 1
  hap := 0
  readings := 0
  out := []
  stalled := []
  parked := []
  pending := []

end Sys2Proof.Machine
end

