-- ==== Sys2Proof/Machine/Flags.lean ====
section
/-! DEFINITION. Status codes, secrecy classes and the access matrix (06_secrecy.md), and the event table with its
severities, clearing classes and argument classes (18_events_and_trouble_log.md). -/
namespace Sys2Proof.Machine

/-- The object classes of the access matrix (R130). -/
inductive Cls where
  | jobContent | spool | images | inspStats | ledger | headCal | policy | oper | firmware | log | counters
  | identity | causeway | scan
deriving DecidableEq, Repr

/-- A learn right (R130): none, the whole class, by a held key, or the Observer summary. -/
inductive Learn where
  | none | all | key | summary
deriving DecidableEq, Repr

/-- The role codes (R129). -/
abbrev roleIntegrator : Nat := 1
abbrev roleOperator : Nat := 2
abbrev roleService : Nat := 3
abbrev roleObserver : Nat := 4
abbrev roleVendor : Nat := 5

/-- The learn column of the access matrix (R130). -/
def learnRight (role : Nat) (c : Cls) : Learn :=
  if role = roleIntegrator ∨ role = roleOperator ∨ role = roleService then
    match c with
    | .jobContent | .images => .key
    | .scan => .none
    | _ => .all
  else if role = roleObserver then
    match c with
    | .spool | .inspStats | .ledger | .log | .causeway => .summary
    | .headCal | .oper | .firmware | .identity => .all
    | _ => .none
  else if role = roleVendor then
    match c with
    | .oper | .firmware | .log | .identity => .all
    | _ => .none
  else .none

/-- The right C of the access matrix (R130): a change by commit or opcode. -/
def mayChange (role : Nat) (c : Cls) : Bool :=
  match c with
  | .inspStats | .ledger | .oper | .log => role == roleIntegrator || role == roleOperator || role == roleService
  | .policy | .identity => role == roleIntegrator
  | .firmware => role == roleIntegrator || role == roleService || role == roleVendor
  | .causeway => role == roleIntegrator || role == roleService
  | _ => false

/-- The right J of the access matrix (R130): opens, feeds and closes segments. -/
def mayFeed (role : Nat) : Bool := role == roleIntegrator || role == roleOperator

/-- The clearing classes of events (R405). -/
inductive Clearing where
  | oneShot | self | held | toReset
deriving DecidableEq, Repr

/-- A row of the *Events* table (R406): number, service, severity, clearing class and class of its arguments (R503). -/
structure EvRow where
  ev : Nat
  svc : Nat
  sev : Nat
  clearing : Clearing
  args : Cls
deriving DecidableEq, Repr

/-- Rows of the *Events* table, part 0. EV002 and EV085 take their service from the raising. -/
def evRows0 : List EvRow :=
  [⟨0, 0x01, 0, .oneShot, .oper⟩,
   ⟨1, 0x01, 3, .held, .oper⟩,
   ⟨2, 0x00, 3, .self, .oper⟩,
   ⟨3, 0x13, 3, .self, .oper⟩,
   ⟨4, 0x02, 3, .toReset, .oper⟩,
   ⟨5, 0x02, 3, .toReset, .oper⟩,
   ⟨6, 0x02, 2, .held, .firmware⟩,
   ⟨7, 0x02, 1, .oneShot, .identity⟩,
   ⟨8, 0x13, 1, .oneShot, .firmware⟩,
   ⟨10, 0x03, 2, .self, .oper⟩,
   ⟨11, 0x03, 2, .oneShot, .oper⟩,
   ⟨12, 0x04, 2, .oneShot, .oper⟩,
   ⟨13, 0x03, 2, .oneShot, .oper⟩,
   ⟨14, 0x03, 1, .oneShot, .oper⟩,
   ⟨16, 0x04, 1, .oneShot, .oper⟩,
   ⟨17, 0x04, 2, .oneShot, .oper⟩,
   ⟨20, 0x05, 3, .held, .spool⟩,
   ⟨21, 0x05, 2, .oneShot, .counters⟩,
   ⟨22, 0x05, 2, .oneShot, .oper⟩,
   ⟨23, 0x05, 2, .oneShot, .spool⟩,
   ⟨24, 0x05, 3, .oneShot, .spool⟩,
   ⟨30, 0x07, 3, .toReset, .oper⟩,
   ⟨31, 0x07, 2, .toReset, .oper⟩,
   ⟨32, 0x07, 1, .oneShot, .spool⟩,
   ⟨33, 0x08, 1, .oneShot, .ledger⟩,
   ⟨34, 0x08, 1, .oneShot, .ledger⟩,
   ⟨35, 0x08, 2, .oneShot, .ledger⟩,
   ⟨36, 0x08, 3, .self, .ledger⟩,
   ⟨37, 0x08, 1, .oneShot, .ledger⟩,
   ⟨38, 0x08, 2, .self, .ledger⟩]

/-- Rows of the *Events* table, part 1. EV002 and EV085 take their service from the raising. -/
def evRows1 : List EvRow :=
  [⟨39, 0x08, 1, .oneShot, .ledger⟩,
   ⟨40, 0x0B, 3, .self, .oper⟩,
   ⟨41, 0x0B, 2, .self, .oper⟩,
   ⟨42, 0x0B, 3, .held, .oper⟩,
   ⟨43, 0x0B, 3, .held, .oper⟩,
   ⟨44, 0x0B, 1, .oneShot, .oper⟩,
   ⟨45, 0x0B, 2, .oneShot, .oper⟩,
   ⟨46, 0x0C, 2, .self, .oper⟩,
   ⟨47, 0x0B, 1, .oneShot, .oper⟩,
   ⟨48, 0x0B, 2, .self, .oper⟩,
   ⟨49, 0x0B, 3, .self, .oper⟩,
   ⟨50, 0x09, 2, .self, .oper⟩,
   ⟨51, 0x09, 2, .oneShot, .oper⟩,
   ⟨52, 0x09, 1, .oneShot, .oper⟩,
   ⟨53, 0x09, 2, .oneShot, .oper⟩,
   ⟨54, 0x09, 3, .self, .oper⟩,
   ⟨55, 0x0A, 2, .self, .oper⟩,
   ⟨56, 0x09, 2, .self, .oper⟩,
   ⟨57, 0x09, 2, .self, .oper⟩,
   ⟨58, 0x09, 2, .oneShot, .oper⟩,
   ⟨60, 0x0D, 2, .self, .oper⟩,
   ⟨61, 0x0D, 1, .oneShot, .oper⟩,
   ⟨62, 0x0D, 1, .oneShot, .oper⟩,
   ⟨63, 0x0D, 2, .oneShot, .oper⟩,
   ⟨64, 0x0D, 2, .oneShot, .oper⟩,
   ⟨65, 0x0E, 2, .toReset, .inspStats⟩,
   ⟨66, 0x0E, 2, .self, .inspStats⟩,
   ⟨67, 0x0E, 2, .self, .inspStats⟩,
   ⟨68, 0x0E, 2, .self, .inspStats⟩,
   ⟨70, 0x0F, 3, .self, .oper⟩]

/-- Rows of the *Events* table, part 2. EV002 and EV085 take their service from the raising. -/
def evRows2 : List EvRow :=
  [⟨71, 0x0F, 2, .self, .oper⟩,
   ⟨72, 0x0F, 2, .oneShot, .oper⟩,
   ⟨73, 0x0F, 1, .oneShot, .oper⟩,
   ⟨74, 0x0F, 1, .oneShot, .oper⟩,
   ⟨75, 0x0F, 2, .held, .causeway⟩,
   ⟨76, 0x0F, 2, .oneShot, .oper⟩,
   ⟨80, 0x06, 3, .toReset, .oper⟩,
   ⟨82, 0x06, 2, .oneShot, .oper⟩,
   ⟨83, 0x06, 3, .oneShot, .oper⟩,
   ⟨84, 0x06, 2, .self, .oper⟩,
   ⟨85, 0x00, 3, .oneShot, .oper⟩,
   ⟨88, 0x06, 3, .oneShot, .oper⟩,
   ⟨90, 0x10, 3, .toReset, .oper⟩,
   ⟨96, 0x11, 2, .oneShot, .log⟩,
   ⟨100, 0x12, 2, .oneShot, .oper⟩,
   ⟨104, 0x13, 3, .self, .oper⟩,
   ⟨106, 0x14, 2, .held, .oper⟩,
   ⟨107, 0x13, 3, .self, .oper⟩,
   ⟨108, 0x13, 1, .oneShot, .oper⟩,
   ⟨109, 0x13, 3, .self, .oper⟩,
   ⟨110, 0x13, 3, .held, .oper⟩,
   ⟨111, 0x13, 3, .held, .oper⟩,
   ⟨112, 0x13, 2, .held, .oper⟩,
   ⟨116, 0x14, 2, .self, .oper⟩,
   ⟨117, 0x14, 2, .oneShot, .oper⟩,
   ⟨118, 0x15, 3, .self, .oper⟩,
   ⟨119, 0x15, 3, .oneShot, .oper⟩]

/-- The *Events* table. -/
def evRows : List EvRow := evRows0 ++ evRows1 ++ evRows2

/-- The row of an event number; a reserved number has none (R406). -/
def evRow (ev : Nat) : Option EvRow := evRows.find? (fun r => r.ev == ev)

/-- The mask of every event of severity E, the reset value of EVT.PIN0_MASK and EVT.RING_MASK. -/
def severeMask : Nat := (evRows.filter (fun r => r.sev == 3)).foldl (fun m r => m + 2 ^ r.ev) 0

/-- The class of a log record's arguments (R503). -/
def recordArgs (code : Nat) (nozzle : Bool) : Cls :=
  if code == 4 || code == 6 then .log else if code == 5 && nozzle then .ledger else .oper

namespace Ev
/-- EV000 DEVICE_READY. -/
abbrev deviceReady : Nat := 0
/-- EV001 CORE_PAIR_RESTART. -/
abbrev corePairRestart : Nat := 1
/-- EV002 PACE_BELOW_FLOOR. -/
abbrev paceBelowFloor : Nat := 2
/-- EV003 TJ_HIGH. -/
abbrev tjHigh : Nat := 3
/-- EV004 SHELL_TAMPER. -/
abbrev shellTamper : Nat := 4
/-- EV005 ENTROPY_FAIL. -/
abbrev entropyFail : Nat := 5
/-- EV006 FW_REFUSED. -/
abbrev fwRefused : Nat := 6
/-- EV007 COMMISSION_CHANGED. -/
abbrev commissionChanged : Nat := 7
/-- EV008 FW_SWITCHED. -/
abbrev fwSwitched : Nat := 8
/-- EV010 FRESY_PORT_DOWN. -/
abbrev fresyPortDown : Nat := 10
/-- EV011 FRESY_FAILOVER. -/
abbrev fresyFailover : Nat := 11
/-- EV012 SESSION_LOST. -/
abbrev sessionLost : Nat := 12
/-- EV013 FRESY_AUTH_FAIL. -/
abbrev fresyAuthFail : Nat := 13
/-- EV014 HANDSHAKE_REFUSED. -/
abbrev handshakeRefused : Nat := 14
/-- EV016 OWNER_CHANGED. -/
abbrev ownerChanged : Nat := 16
/-- EV017 OWNER_LEASE_LAPSED. -/
abbrev ownerLeaseLapsed : Nat := 17
/-- EV020 PROMISE_BROKEN. -/
abbrev promiseBroken : Nat := 20
/-- EV021 PGO_UNSERVED. -/
abbrev pgoUnserved : Nat := 21
/-- EV022 POD_RETIRED. -/
abbrev podRetired : Nat := 22
/-- EV023 GROUP_ABORTED. -/
abbrev groupAborted : Nat := 23
/-- EV024 GROUP_DECISION_LOST. -/
abbrev groupDecisionLost : Nat := 24
/-- EV030 DECODE_UNIT_OUT. -/
abbrev decodeUnitOut : Nat := 30
/-- EV031 CHECK_UNIT_OUT. -/
abbrev checkUnitOut : Nat := 31
/-- EV032 STRIP_CHECK_FAILED. -/
abbrev stripCheckFailed : Nat := 32
/-- EV033 NOZZLE_OUT. -/
abbrev nozzleOut : Nat := 33
/-- EV034 NOZZLE_RESTORED. -/
abbrev nozzleRestored : Nat := 34
/-- EV035 COLUMN_UNPRINTABLE. -/
abbrev columnUnprintable : Nat := 35
/-- EV036 STITCH_MISMATCH. -/
abbrev stitchMismatch : Nat := 36
/-- EV037 ALIGN_APPLIED. -/
abbrev alignApplied : Nat := 37
/-- EV038 COMP_LIMIT. -/
abbrev compLimit : Nat := 38
/-- EV039 LEDGER_REBUILT. -/
abbrev ledgerRebuilt : Nat := 39
/-- EV040 HEAD_FAULT. -/
abbrev headFault : Nat := 40
/-- EV041 HEAD_TEMPERATURE. -/
abbrev headTemperature : Nat := 41
/-- EV042 HEAD_AUTH_FAIL. -/
abbrev headAuthFail : Nat := 42
/-- EV043 HEAD_LOST. -/
abbrev headLost : Nat := 43
/-- EV044 HEAD_ATTACHED. -/
abbrev headAttached : Nat := 44
/-- EV045 LINE_PHASE_MISSING. -/
abbrev linePhaseMissing : Nat := 45
/-- EV046 LANE_DOWN. -/
abbrev laneDown : Nat := 46
/-- EV047 LANE_RESTORED. -/
abbrev laneRestored : Nat := 47
/-- EV048 LANE_DEPTH_DEGRADED. -/
abbrev laneDepthDegraded : Nat := 48
/-- EV049 PORT_LANES_LOST. -/
abbrev portLanesLost : Nat := 49
/-- EV050 ENCODER_FAULT. -/
abbrev encoderFault : Nat := 50
/-- EV051 ENCODER_SWITCHOVER. -/
abbrev encoderSwitchover : Nat := 51
/-- EV052 ENCODER_RECOVERED. -/
abbrev encoderRecovered : Nat := 52
/-- EV053 REJECT_FAULT. -/
abbrev rejectFault : Nat := 53
/-- EV054 ENCODER_LOST_BOTH. -/
abbrev encoderLostBoth : Nat := 54
/-- EV055 OVERSPEED. -/
abbrev overspeed : Nat := 55
/-- EV056 REVERSE_HOLD. -/
abbrev reverseHold : Nat := 56
/-- EV057 GATE_ACTIVE. -/
abbrev gateActive : Nat := 57
/-- EV058 INDEX_DEVIATION. -/
abbrev indexDeviation : Nat := 58
/-- EV060 CAM_LINK_DOWN. -/
abbrev camLinkDown : Nat := 60
/-- EV061 CAM_LINK_UP. -/
abbrev camLinkUp : Nat := 61
/-- EV062 CAM_FRAME_IRREGULAR. -/
abbrev camFrameIrregular : Nat := 62
/-- EV063 CAM_TRIGGER_SKIPPED. -/
abbrev camTriggerSkipped : Nat := 63
/-- EV064 CAM_FORMAT_MISMATCH. -/
abbrev camFormatMismatch : Nat := 64
/-- EV065 INSP_ENGINE_OUT. -/
abbrev inspEngineOut : Nat := 65
/-- EV066 REGISTRATION_LOST. -/
abbrev registrationLost : Nat := 66
/-- EV067 DEFECT_ALARM. -/
abbrev defectAlarm : Nat := 67
/-- EV068 COVERAGE_LOW. -/
abbrev coverageLow : Nat := 68
/-- EV070 RING_TIME_LOST. -/
abbrev ringTimeLost : Nat := 70
/-- EV071 RING_OPEN. -/
abbrev ringOpen : Nat := 71
/-- EV072 CAUSE_AUTH_FAIL. -/
abbrev causeAuthFail : Nat := 72
/-- EV073 RING_CLOSED. -/
abbrev ringClosed : Nat := 73
/-- EV074 CAUSE_ENUMERATED. -/
abbrev causeEnumerated : Nat := 74
/-- EV075 CAUSE_MEMBER_LOST. -/
abbrev causeMemberLost : Nat := 75
/-- EV076 CAUSE_ENUM_FAILED. -/
abbrev causeEnumFailed : Nat := 76
/-- EV080 DRAM_DISCOVERY_FAILED. -/
abbrev dramDiscoveryFailed : Nat := 80
/-- EV082 DRAM_CORRECTED_RATE. -/
abbrev dramCorrectedRate : Nat := 82
/-- EV083 DRAM_PRINT_LATE. -/
abbrev dramPrintLate : Nat := 83
/-- EV084 DRAM_TEMPERATURE. -/
abbrev dramTemperature : Nat := 84
/-- EV085 HUSK_UNCORRECTABLE. -/
abbrev huskUncorrectable : Nat := 85
/-- EV088 SPOOL_UNCORRECTABLE. -/
abbrev spoolUncorrectable : Nat := 88
/-- EV090 PACK_UNIT_FAULT. -/
abbrev packUnitFault : Nat := 90
/-- EV096 EVENT_QUEUE_OVERFLOW. -/
abbrev eventQueueOverflow : Nat := 96
/-- EV100 MGMT_PROTOCOL_ERROR. -/
abbrev mgmtProtocolError : Nat := 100
/-- EV104 PMBUS_FAULT. -/
abbrev pmbusFault : Nat := 104
/-- EV106 HOLDUP_TEST_FAILED. -/
abbrev holdupTestFailed : Nat := 106
/-- EV107 SAVE_STORE_FAULT. -/
abbrev saveStoreFault : Nat := 107
/-- EV108 RESTART_REPORT_READY. -/
abbrev restartReportReady : Nat := 108
/-- EV109 RAIL_FAULT. -/
abbrev railFault : Nat := 109
/-- EV110 SUPPLY_SAG. -/
abbrev supplySag : Nat := 110
/-- EV111 EXTERNAL_RESET. -/
abbrev externalReset : Nat := 111
/-- EV112 BOOT_BANK_FALLBACK. -/
abbrev bootBankFallback : Nat := 112
/-- EV116 CAL_STALE. -/
abbrev calStale : Nat := 116
/-- EV117 CAL_DEVIATION. -/
abbrev calDeviation : Nat := 117
/-- EV118 TEST_EN_ACTIVE. -/
abbrev testEnActive : Nat := 118
/-- EV119 BIST_FAILED. -/
abbrev bistFailed : Nat := 119
end Ev

namespace St
/-- Status codes (R111). -/
abbrev ok : Nat := 0x0000
abbrev pending : Nat := 0x0001
abbrev pinned : Nat := 0x0002
abbrev staged : Nat := 0x0003
abbrev partially : Nat := 0x0004
abbrev valueRange : Nat := 0x0101
abbrev readOnly : Nat := 0x0102
abbrev reservedNonzero : Nat := 0x0103
abbrev unknownOpcode : Nat := 0x0104
abbrev unknownParameter : Nat := 0x0105
abbrev badUnit : Nat := 0x0106
abbrev badLength : Nat := 0x0107
abbrev badEnum : Nat := 0x0108
abbrev badPacking : Nat := 0x0109
abbrev tagInUse : Nat := 0x010A
abbrev badCount : Nat := 0x010B
abbrev noSuchResult : Nat := 0x010C
abbrev unknownHandle : Nat := 0x010D
abbrev nothingStaged : Nat := 0x0201
abbrev segmentState : Nat := 0x0202
abbrev notReady : Nat := 0x0203
abbrev unitsRefused : Nat := 0x0204
abbrev inFlight : Nat := 0x0205
abbrev leadTooShort : Nat := 0x0210
abbrev rateAboveHead : Nat := 0x0211
abbrev positionOverlap : Nat := 0x0212
abbrev groupAborted : Nat := 0x0213
abbrev headNotReady : Nat := 0x0214
abbrev verifyFailed : Nat := 0x0215
abbrev insideHorizon : Nat := 0x0220
abbrev lastPort : Nat := 0x0221
abbrev alreadyDone : Nat := 0x0222
abbrev certInvalid : Nat := 0x0301
abbrev signatureInvalid : Nat := 0x0302
abbrev roleNotPermitted : Nat := 0x0303
abbrev classForbidden : Nat := 0x0304
abbrev notOwner : Nat := 0x0305
abbrev claimLost : Nat := 0x0306
abbrev noJobKey : Nat := 0x0307
abbrev otherSessionResult : Nat := 0x0308
abbrev sessionInflightFull : Nat := 0x0401
abbrev deviceInflightFull : Nat := 0x0402
abbrev resultStoreFull : Nat := 0x0403
abbrev stageFull : Nat := 0x0404
abbrev replyTooLarge : Nat := 0x0405
abbrev pinTableFull : Nat := 0x0406
abbrev decodeBudget : Nat := 0x0410
abbrev dramBudget : Nat := 0x0411
abbrev laneBudget : Nat := 0x0412
abbrev queueFull : Nat := 0x0413
abbrev sessionsFull : Nat := 0x0414
abbrev handshakesBusy : Nat := 0x0415
abbrev segmentTooLarge : Nat := 0x0416
abbrev spoolFull : Nat := 0x0417
abbrev outputFull : Nat := 0x0418
abbrev noGain : Nat := 0x0419
abbrev keyStoreFull : Nat := 0x041A
abbrev engineRestart : Nat := 0x0501
abbrev unitFault : Nat := 0x0502
abbrev dataUncorrectable : Nat := 0x0503
abbrev shellFault : Nat := 0x0504
end St

end Sys2Proof.Machine
end

