-- ==== Sys2Proof/Machine/Operands.lean ====
section
/-! DEFINITION. Operand forms: the parameter tables of every chapter with width, access, level, class, range and
reset value, the form checks of a parameter entry (R88-R90), and readers of command bodies. -/
namespace Sys2Proof.Machine

/-- Access codes (R6). W1C and W1S are used by no parameter. -/
inductive Access where
  | ro | rw | wo | claim
deriving DecidableEq, Repr

/-- Basic, or Expert as a loop-driven or a mode parameter (R92). -/
inductive Level where
  | basic | loop | mode
deriving DecidableEq, Repr

/-- What a written value must satisfy by the parameter's own definition. The `enum` forms draw 0x0108, reserved
bits 0x0103, and the others 0x0101. -/
inductive Rng where
  | any
  | range (lo hi : Nat)
  | rangeOr (lo hi v : Nat)
  | step (lo hi by_ : Nat)
  | enum (n : Nat)
  | enumFrom (lo hi : Nat)
  | enumList (vs : List Nat)
  | nibbles (n : Nat)
  | channels
  | levels (n : Nat)
  | reserved (bytes : List Nat)
  | topBits
  | dropMass
  | spread
  | classRec
  | recipe
deriving DecidableEq, Repr

/-- A row of a parameter table: service, first and last unit, first index, how many indices at which stride, bits of a
scalar or bytes of a table, access, level, class, range and reset value. -/
structure Desc where
  svc : Nat
  lo : Nat
  hi : Nat
  idx : Nat
  n : Nat
  stride : Nat
  bits : Nat
  bytes : Nat
  access : Access
  level : Level
  cls : Cls
  rng : Rng
  reset : Nat
deriving DecidableEq, Repr

/-- Reset of INSP.DROP_MASS and INSP.DENS_TARGET_Pp. -/
def dropMassReset : Nat := leNat (List.flatten ([0, 70, 140, 210, 290, 360, 430, 500].map (leBytes 2)))

/-- Reset of INSP.SPREAD: K[dy][dc] = a[dy] × b[dc] / 256. -/
def spreadReset : Nat :=
  leNat (List.flatten ([64, 128, 64].map (fun a => [16, 48, 128, 48, 16].map (fun b => BitVec.ofNat 8 (a * b / 256)))))

/-- Reset of CAM[c].LIN_KNOTS: knot j = min(65,535, 2,048 × j). -/
def linKnotsReset : Nat := leNat (List.flatten ((List.range 33).map (fun j => leBytes 2 (min 65535 (2048 * j)))))

/-- Reset of CAM[c].SEP_MATRIX: identity on R, G, B, IR with 1.0 = 4,096, and C column 0. -/
def sepMatrixReset : Nat :=
  leNat (List.flatten ((List.range 4).map (fun r => List.flatten ((List.range 5).map (fun c =>
    leBytes 2 (if c = (if r = 3 then 4 else r) then 4096 else 0))))))

/-- Reset of INSP.CLASSn (Defect classes): ENABLE 1, REJECT 0, THRESH, MIN_SIZE, ALARM_COUNT 1. -/
def classReset (n : Nat) : Nat :=
  let p : Nat × Nat := match n with
    | 1 => (350, 256) | 2 => (350, 256) | 3 => (500, 64) | 4 => (500, 16) | 5 => (150, 1) | _ => (0, 1)
  leNat ([1, 0] ++ leBytes 2 p.1 ++ leBytes 2 p.2 ++ leBytes 2 1)

/-- The parameters of service 0x01 (24_parameter_groups.md and the service's chapter), in table order:
DEV.STRAIT_RESYNCS, DEV.STRAIT_DISCARDS, DEV.COMMIT_SEQ, DEV.PIN_COUNT, DEV.RESULTS_HELD, DEV.PART, DEV.STEPPING, DEV.IDCODE, DEV.SERIAL, DEV.FW_VERSION, DEV.STATE, DEV.UPTIME, DEV.PARAM_COUNT, DEV.SVC_STATE01. -/
def devDescs : List Desc :=
  [⟨0x01, 0, 0, 0x0040, 1, 1, 32, 0, .ro, .basic, .oper, .any, 0⟩,
   ⟨0x01, 0, 0, 0x0041, 1, 1, 32, 0, .ro, .basic, .oper, .any, 0⟩,
   ⟨0x01, 0, 0, 0x0042, 1, 1, 32, 0, .ro, .basic, .oper, .any, 0⟩,
   ⟨0x01, 0, 0, 0x0043, 1, 1, 11, 0, .ro, .basic, .oper, .any, 0⟩,
   ⟨0x01, 0, 0, 0x0044, 1, 1, 16, 0, .ro, .basic, .oper, .any, 0⟩,
   ⟨0x01, 0, 0, 0x0010, 1, 1, 16, 0, .ro, .basic, .identity, .any, 42774⟩,
   ⟨0x01, 0, 0, 0x0011, 1, 1, 8, 0, .ro, .basic, .identity, .any, 176⟩,
   ⟨0x01, 0, 0, 0x0012, 1, 1, 32, 0, .ro, .basic, .identity, .any, 443640231⟩,
   ⟨0x01, 0, 0, 0x0013, 1, 1, 0, 16, .ro, .basic, .identity, .any, 0⟩,
   ⟨0x01, 0, 0, 0x0014, 1, 1, 32, 0, .ro, .basic, .firmware, .any, 0⟩,
   ⟨0x01, 0, 0, 0x0015, 1, 1, 3, 0, .ro, .basic, .oper, .any, 0⟩,
   ⟨0x01, 0, 0, 0x0016, 1, 1, 64, 0, .ro, .basic, .oper, .any, 0⟩,
   ⟨0x01, 0, 0, 0x0017, 1, 1, 16, 0, .ro, .basic, .oper, .any, 2912⟩,
   ⟨0x01, 0, 0, 0x0021, 21, 1, 8, 0, .ro, .basic, .oper, .any, 0⟩]

/-- The parameters of service 0x02 (24_parameter_groups.md and the service's chapter), in table order:
SHELL.COMMISSION_STATE, SHELL.SLOT_STATE, SHELL.SVN_FUSE, SHELL.SVN_COMMIT, SHELL.UTC_FLOOR, SHELL.JOB_KEYS, SHELL.ENTROPY_STATE, SHELL.TAMPER_COUNT, SHELL.SLOT_DIGEST0, SHELL[s].JOBS_HELD, SHELL[s].EPOCH, SHELL[s].TXC, SHELL[s].RX_TXC, SHELL[s].REKEYS, SHELL[s].CERT_KEY. -/
def shellDescs : List Desc :=
  [⟨0x02, 0, 0, 0x0010, 1, 1, 2, 0, .ro, .basic, .identity, .any, 0⟩,
   ⟨0x02, 0, 0, 0x0011, 1, 1, 12, 0, .ro, .basic, .identity, .any, 0⟩,
   ⟨0x02, 0, 0, 0x0012, 1, 1, 7, 0, .ro, .basic, .firmware, .any, 0⟩,
   ⟨0x02, 0, 0, 0x0013, 1, 1, 7, 0, .wo, .mode, .firmware, .range 0 64, 0⟩,
   ⟨0x02, 0, 0, 0x0014, 1, 1, 64, 0, .rw, .basic, .identity, .any, 0⟩,
   ⟨0x02, 0, 0, 0x0015, 1, 1, 14, 0, .ro, .basic, .counters, .any, 0⟩,
   ⟨0x02, 0, 0, 0x0016, 1, 1, 2, 0, .ro, .basic, .oper, .any, 0⟩,
   ⟨0x02, 0, 0, 0x0017, 1, 1, 16, 0, .ro, .basic, .oper, .any, 0⟩,
   ⟨0x02, 0, 0, 0x0020, 4, 1, 0, 48, .ro, .basic, .identity, .any, 0⟩,
   ⟨0x02, 1, 16, 0x0010, 1, 1, 9, 0, .ro, .basic, .counters, .any, 0⟩,
   ⟨0x02, 1, 16, 0x0011, 1, 1, 2, 0, .ro, .basic, .oper, .any, 0⟩,
   ⟨0x02, 1, 16, 0x0012, 1, 1, 32, 0, .ro, .basic, .oper, .any, 0⟩,
   ⟨0x02, 1, 16, 0x0013, 1, 1, 32, 0, .ro, .basic, .oper, .any, 0⟩,
   ⟨0x02, 1, 16, 0x0014, 1, 1, 16, 0, .ro, .basic, .oper, .any, 0⟩,
   ⟨0x02, 1, 16, 0x0015, 1, 1, 0, 48, .ro, .basic, .oper, .any, 0⟩]

/-- The parameters of service 0x03 (24_parameter_groups.md and the service's chapter), in table order:
FRESY.ETHERTYPE, FRESY.RX_CREDIT, FRESY.PORT_SILENCE, FRESY.RIDE_THROUGH, FRESY.KEEPALIVE, FRESY[p].MAC, FRESY[p].MEDIUM, FRESY[p].FEC, FRESY[p].VLAN_MODE, FRESY[p].VID, FRESY[p].PCP, FRESY[p].ENABLE, FRESY[p].RX_FRAMES, FRESY[p].RX_BYTES, FRESY[p].TX_FRAMES, FRESY[p].TX_BYTES, FRESY[p].RX_FCS_ERR, FRESY[p].RX_SIZE_ERR, FRESY[p].RX_OTHER, FRESY[p].RX_PAUSE, FRESY[p].RX_FEC_CORR, FRESY[p].RX_FEC_UNCORR, FRESY[p].RX_AUTH_FAIL, FRESY[p].RX_DUP, FRESY[p].RX_WINDOW, FRESY[p].RX_CREDIT_VIOL, FRESY[p].TX_RETRANSMIT, FRESY[p].TX_GAVE_UP, FRESY[p].LINK_DOWNS. -/
def fresyDescs : List Desc :=
  [⟨0x03, 0, 0, 0x0010, 1, 1, 16, 0, .rw, .mode, .oper, .range 0x0600 0xFFFF, 34998⟩,
   ⟨0x03, 0, 0, 0x0011, 1, 1, 16, 0, .rw, .mode, .oper, .range 144 4096, 1152⟩,
   ⟨0x03, 0, 0, 0x0012, 1, 1, 16, 0, .rw, .basic, .oper, .range 200 10000, 500⟩,
   ⟨0x03, 0, 0, 0x0013, 1, 1, 16, 0, .rw, .basic, .oper, .range 500 60000, 2000⟩,
   ⟨0x03, 0, 0, 0x0014, 1, 1, 16, 0, .rw, .basic, .oper, .range 10 65535, 100⟩,
   ⟨0x03, 0, 3, 0x0020, 1, 1, 48, 0, .ro, .basic, .oper, .any, 0⟩,
   ⟨0x03, 0, 3, 0x0021, 1, 1, 2, 0, .rw, .basic, .oper, .enum 3, 0⟩,
   ⟨0x03, 0, 3, 0x0022, 1, 1, 2, 0, .rw, .basic, .oper, .enum 3, 2⟩,
   ⟨0x03, 0, 3, 0x0023, 1, 1, 2, 0, .rw, .basic, .oper, .enum 3, 0⟩,
   ⟨0x03, 0, 3, 0x0024, 1, 1, 12, 0, .rw, .basic, .oper, .range 1 4094, 1⟩,
   ⟨0x03, 0, 3, 0x0025, 1, 1, 3, 0, .rw, .basic, .oper, .any, 0⟩,
   ⟨0x03, 0, 3, 0x0026, 1, 1, 1, 0, .rw, .basic, .oper, .any, 1⟩,
   ⟨0x03, 0, 3, 0x0100, 1, 1, 64, 0, .ro, .basic, .counters, .any, 0⟩,
   ⟨0x03, 0, 3, 0x0101, 1, 1, 64, 0, .ro, .basic, .counters, .any, 0⟩,
   ⟨0x03, 0, 3, 0x0102, 1, 1, 64, 0, .ro, .basic, .counters, .any, 0⟩,
   ⟨0x03, 0, 3, 0x0103, 1, 1, 64, 0, .ro, .basic, .counters, .any, 0⟩,
   ⟨0x03, 0, 3, 0x0110, 1, 1, 32, 0, .ro, .basic, .oper, .any, 0⟩,
   ⟨0x03, 0, 3, 0x0111, 1, 1, 32, 0, .ro, .basic, .oper, .any, 0⟩,
   ⟨0x03, 0, 3, 0x0112, 1, 1, 32, 0, .ro, .basic, .oper, .any, 0⟩,
   ⟨0x03, 0, 3, 0x0113, 1, 1, 32, 0, .ro, .basic, .oper, .any, 0⟩,
   ⟨0x03, 0, 3, 0x0114, 1, 1, 32, 0, .ro, .basic, .oper, .any, 0⟩,
   ⟨0x03, 0, 3, 0x0115, 1, 1, 32, 0, .ro, .basic, .oper, .any, 0⟩,
   ⟨0x03, 0, 3, 0x0116, 1, 1, 32, 0, .ro, .basic, .oper, .any, 0⟩,
   ⟨0x03, 0, 3, 0x0117, 1, 1, 32, 0, .ro, .basic, .oper, .any, 0⟩,
   ⟨0x03, 0, 3, 0x0118, 1, 1, 32, 0, .ro, .basic, .oper, .any, 0⟩,
   ⟨0x03, 0, 3, 0x0119, 1, 1, 32, 0, .ro, .basic, .oper, .any, 0⟩,
   ⟨0x03, 0, 3, 0x011A, 1, 1, 32, 0, .ro, .basic, .oper, .any, 0⟩,
   ⟨0x03, 0, 3, 0x011B, 1, 1, 32, 0, .ro, .basic, .oper, .any, 0⟩,
   ⟨0x03, 0, 3, 0x011C, 1, 1, 32, 0, .ro, .basic, .oper, .any, 0⟩]

/-- The parameters of service 0x04 (24_parameter_groups.md and the service's chapter), in table order:
OWN.HOLDER, OWN.STATE, OWN.LEASE_END, OWN.LEASE_DEFAULT, OWN.HANDOVER_WINDOW, OWN.IDLE_LIMIT, OWN.MGMT_CLAIM, OWN.OFFER_TARGET, OWN.CHANGES, OWN[s].ROLE, OWN[s].PORTS, OWN[s].OPENED, OWN[s].LAST_CMD, OWN[s].INFLIGHT, OWN[s].RESULTS, OWN[s].STAGED, OWN[s].SUBSCRIBED, OWN[s].COMMANDS. -/
def ownDescs : List Desc :=
  [⟨0x04, 0, 0, 0x0010, 1, 1, 5, 0, .claim, .basic, .oper, .any, 0⟩,
   ⟨0x04, 0, 0, 0x0011, 1, 1, 2, 0, .ro, .basic, .oper, .any, 0⟩,
   ⟨0x04, 0, 0, 0x0012, 1, 1, 64, 0, .ro, .basic, .oper, .any, 0⟩,
   ⟨0x04, 0, 0, 0x0013, 1, 1, 32, 0, .rw, .basic, .oper, .range 1000 600000, 10000⟩,
   ⟨0x04, 0, 0, 0x0014, 1, 1, 16, 0, .rw, .basic, .oper, .range 500 60000, 5000⟩,
   ⟨0x04, 0, 0, 0x0015, 1, 1, 32, 0, .rw, .basic, .oper, .range 10000 3600000, 60000⟩,
   ⟨0x04, 0, 0, 0x0016, 1, 1, 1, 0, .rw, .mode, .oper, .any, 0⟩,
   ⟨0x04, 0, 0, 0x0017, 1, 1, 5, 0, .ro, .basic, .oper, .any, 0⟩,
   ⟨0x04, 0, 0, 0x0018, 1, 1, 32, 0, .ro, .basic, .oper, .any, 0⟩,
   ⟨0x04, 1, 16, 0x0010, 1, 1, 3, 0, .ro, .basic, .oper, .any, 0⟩,
   ⟨0x04, 1, 16, 0x0011, 1, 1, 4, 0, .ro, .basic, .oper, .any, 0⟩,
   ⟨0x04, 1, 16, 0x0012, 1, 1, 64, 0, .ro, .basic, .oper, .any, 0⟩,
   ⟨0x04, 1, 16, 0x0013, 1, 1, 64, 0, .ro, .basic, .oper, .any, 0⟩,
   ⟨0x04, 1, 16, 0x0014, 1, 1, 9, 0, .ro, .basic, .oper, .any, 0⟩,
   ⟨0x04, 1, 16, 0x0015, 1, 1, 13, 0, .ro, .basic, .oper, .any, 0⟩,
   ⟨0x04, 1, 16, 0x0016, 1, 1, 9, 0, .ro, .basic, .oper, .any, 0⟩,
   ⟨0x04, 1, 16, 0x0017, 1, 1, 0, 16, .ro, .basic, .oper, .any, 0⟩,
   ⟨0x04, 1, 16, 0x0018, 1, 1, 64, 0, .ro, .basic, .counters, .any, 0⟩]

/-- The parameters of service 0x05 (24_parameter_groups.md and the service's chapter), in table order:
SPOOL.LEAD_TIME, SPOOL.DECODE_BUDGET, SPOOL.DRAM_RESERVABLE, SPOOL.DECODE_RESERVED, SPOOL.DRAM_RESERVED, SPOOL.MAX_SEGMENT_BYTES, SPOOL.MAX_SEGMENT_LINES, SPOOL.PODS_TOTAL, SPOOL.PODS_RESERVED, SPOOL.PODS_FREE, SPOOL.KEEP_ENABLE, SPOOL.GROUP_WAIT, SPOOL.SEG_ACCEPTED, SPOOL.SEG_COMPLETE, SPOOL.SEG_BROKEN, SPOOL.SEG_CANCELLED, SPOOL.SEG_REFUSED, SPOOL.LINES_PRINTED, SPOOL.LINES_NOT_PRINTED, SPOOL.PGO_UNSERVED, SPOOL.REPEATS. -/
def spoolDescs : List Desc :=
  [⟨0x05, 0, 0, 0x0010, 1, 1, 32, 0, .rw, .mode, .policy, .range 2000 100000, 2000⟩,
   ⟨0x05, 0, 0, 0x0011, 1, 1, 32, 0, .ro, .basic, .oper, .any, 94400⟩,
   ⟨0x05, 0, 0, 0x0012, 1, 1, 32, 0, .ro, .basic, .oper, .any, 0⟩,
   ⟨0x05, 0, 0, 0x0013, 1, 1, 32, 0, .ro, .basic, .counters, .any, 0⟩,
   ⟨0x05, 0, 0, 0x0014, 1, 1, 32, 0, .ro, .basic, .counters, .any, 0⟩,
   ⟨0x05, 0, 0, 0x0015, 1, 1, 64, 0, .ro, .basic, .oper, .any, 0⟩,
   ⟨0x05, 0, 0, 0x0016, 1, 1, 19, 0, .ro, .basic, .oper, .any, 0⟩,
   ⟨0x05, 0, 0, 0x0017, 1, 1, 18, 0, .ro, .basic, .counters, .any, 0⟩,
   ⟨0x05, 0, 0, 0x0018, 1, 1, 12, 0, .ro, .basic, .counters, .any, 2048⟩,
   ⟨0x05, 0, 0, 0x0019, 1, 1, 18, 0, .ro, .basic, .counters, .any, 0⟩,
   ⟨0x05, 0, 0, 0x001A, 1, 1, 1, 0, .rw, .mode, .policy, .any, 0⟩,
   ⟨0x05, 0, 0, 0x001B, 1, 1, 16, 0, .rw, .basic, .oper, .range 100 10000, 1000⟩,
   ⟨0x05, 0, 0, 0x0100, 1, 1, 64, 0, .ro, .basic, .counters, .any, 0⟩,
   ⟨0x05, 0, 0, 0x0101, 1, 1, 64, 0, .ro, .basic, .counters, .any, 0⟩,
   ⟨0x05, 0, 0, 0x0102, 1, 1, 64, 0, .ro, .basic, .counters, .any, 0⟩,
   ⟨0x05, 0, 0, 0x0103, 1, 1, 64, 0, .ro, .basic, .counters, .any, 0⟩,
   ⟨0x05, 0, 0, 0x0104, 1, 1, 64, 0, .ro, .basic, .counters, .any, 0⟩,
   ⟨0x05, 0, 0, 0x0105, 1, 1, 64, 0, .ro, .basic, .counters, .any, 0⟩,
   ⟨0x05, 0, 0, 0x0106, 1, 1, 64, 0, .ro, .basic, .counters, .any, 0⟩,
   ⟨0x05, 0, 0, 0x0107, 1, 1, 64, 0, .ro, .basic, .counters, .any, 0⟩,
   ⟨0x05, 0, 0, 0x0108, 1, 1, 64, 0, .ro, .basic, .counters, .any, 0⟩]

/-- The parameters of service 0x06 (24_parameter_groups.md and the service's chapter), in table order:
DRAM.RATE, DRAM.CHANNELS, DRAM.RANKS, DRAM.DENSITY, DRAM.CAPACITY, DRAM.PEAK, DRAM.STATE, DRAM.HUSK_MODE, DRAM.SCRUB_PERIOD, DRAM.CE_POD_LIMIT, DRAM.CE_ALARM, DRAM.SCRUB_PROGRESS, DRAM[s].STATE, DRAM[s].PD_TIMER, DRAM[s].CORRECTED1, DRAM[s].CORRECTED2, DRAM[s].UNCORRECTABLE, DRAM[s].TAG_FAIL, DRAM[s].FORWARDED, DRAM[s].DRAINS, DRAM[s].LATE, DRAM[s].RETRAINS, DRAM[s].DRIFT_HIGH, DRAM[s].SCRUB_DROPPED, DRAM.SCRUB_PASSES, DRAM.ONCHIP_CORRECTED, DRAM.ONCHIP_UNCORRECTABLE. -/
def dramDescs : List Desc :=
  [⟨0x06, 0, 0, 0x0010, 1, 1, 2, 0, .ro, .basic, .oper, .any, 0⟩,
   ⟨0x06, 0, 0, 0x0011, 1, 1, 2, 0, .ro, .basic, .oper, .any, 0⟩,
   ⟨0x06, 0, 0, 0x0012, 1, 1, 2, 0, .ro, .basic, .oper, .any, 0⟩,
   ⟨0x06, 0, 0, 0x0013, 1, 1, 6, 0, .ro, .basic, .oper, .any, 0⟩,
   ⟨0x06, 0, 0, 0x0014, 1, 1, 64, 0, .ro, .basic, .oper, .any, 0⟩,
   ⟨0x06, 0, 0, 0x0015, 1, 1, 18, 0, .ro, .basic, .oper, .any, 0⟩,
   ⟨0x06, 0, 0, 0x0016, 1, 1, 2, 0, .ro, .basic, .oper, .any, 0⟩,
   ⟨0x06, 0, 0, 0x0020, 1, 1, 1, 0, .rw, .mode, .oper, .any, 0⟩,
   ⟨0x06, 0, 0, 0x0021, 1, 1, 17, 0, .rw, .basic, .oper, .range 3600 86400, 86400⟩,
   ⟨0x06, 0, 0, 0x0022, 1, 1, 8, 0, .rw, .basic, .oper, .range 1 255, 16⟩,
   ⟨0x06, 0, 0, 0x0023, 1, 1, 16, 0, .rw, .basic, .oper, .range 1 65535, 1000⟩,
   ⟨0x06, 0, 0, 0x0024, 1, 1, 10, 0, .ro, .basic, .oper, .any, 0⟩,
   ⟨0x06, 0, 3, 0x0100, 1, 1, 3, 0, .ro, .basic, .oper, .any, 0⟩,
   ⟨0x06, 0, 3, 0x0101, 1, 1, 17, 0, .rw, .basic, .oper, .rangeOr 100 100000 0, 1000⟩,
   ⟨0x06, 0, 3, 0x0200, 1, 1, 32, 0, .ro, .basic, .oper, .any, 0⟩,
   ⟨0x06, 0, 3, 0x0201, 1, 1, 32, 0, .ro, .basic, .oper, .any, 0⟩,
   ⟨0x06, 0, 3, 0x0202, 1, 1, 32, 0, .ro, .basic, .oper, .any, 0⟩,
   ⟨0x06, 0, 3, 0x0203, 1, 1, 32, 0, .ro, .basic, .oper, .any, 0⟩,
   ⟨0x06, 0, 3, 0x0204, 1, 1, 64, 0, .ro, .basic, .oper, .any, 0⟩,
   ⟨0x06, 0, 3, 0x0205, 1, 1, 32, 0, .ro, .basic, .oper, .any, 0⟩,
   ⟨0x06, 0, 3, 0x0206, 1, 1, 32, 0, .ro, .basic, .oper, .any, 0⟩,
   ⟨0x06, 0, 3, 0x0207, 1, 1, 32, 0, .ro, .basic, .oper, .any, 0⟩,
   ⟨0x06, 0, 3, 0x0208, 1, 1, 32, 0, .ro, .basic, .oper, .any, 0⟩,
   ⟨0x06, 0, 3, 0x0209, 1, 1, 32, 0, .ro, .basic, .oper, .any, 0⟩,
   ⟨0x06, 0, 0, 0x0300, 1, 1, 32, 0, .ro, .basic, .oper, .any, 0⟩,
   ⟨0x06, 0, 0, 0x0301, 1, 1, 32, 0, .ro, .basic, .oper, .any, 0⟩,
   ⟨0x06, 0, 0, 0x0302, 1, 1, 32, 0, .ro, .basic, .oper, .any, 0⟩]

/-- The parameters of service 0x07 (24_parameter_groups.md and the service's chapter), in table order:
DECODE.INFLATE_IN_SERVICE, DECODE.CHECK_IN_SERVICE, DECODE.STRIPS_CHECKED, DECODE.STRIPS_FAILED, DECODE.RAW_DECODED, DECODE.CHUNK_RESTARTS. -/
def decodeDescs : List Desc :=
  [⟨0x07, 0, 0, 0x0010, 1, 1, 6, 0, .ro, .basic, .oper, .any, 32⟩,
   ⟨0x07, 0, 0, 0x0011, 1, 1, 6, 0, .ro, .basic, .oper, .any, 32⟩,
   ⟨0x07, 0, 0, 0x0100, 1, 1, 64, 0, .ro, .basic, .counters, .any, 0⟩,
   ⟨0x07, 0, 0, 0x0101, 1, 1, 64, 0, .ro, .basic, .counters, .any, 0⟩,
   ⟨0x07, 0, 0, 0x0102, 1, 1, 64, 0, .ro, .basic, .counters, .any, 0⟩,
   ⟨0x07, 0, 0, 0x0103, 1, 1, 32, 0, .ro, .basic, .oper, .any, 0⟩]

/-- The parameters of service 0x08 (24_parameter_groups.md and the service's chapter), in table order:
COMP[p].SOLO_TABLE, COMP[p].BOOST_SHARE, COMP[p].RAMP_KIND, COMP[p].EAST_PEER, COMP[p].EAST_FIRST, COMP[p].EAST_COLS, COMP[p].WEST_PEER, COMP[p].WEST_FIRST, COMP[p].WEST_COLS, COMP.LOOP_ENABLE, COMP.OUT_RATE_HEAD, COMP.OUT_RATE_DEVICE, COMP.OUT_LIMIT_HEAD, COMP.RESTORE_DWELL, COMP.FLAP_LIMIT, COMP.FLAP_WINDOW, COMP.REMAP_DWELL, COMP.REMAP_BAND, COMP.VERNIER_BAND, COMP.VERNIER_DWELL, COMP.STITCH_LEAD, COMP.FB_TABLE_H0, COMP.TABLE0, COMP.OUT_PER_HEAD, COMP.DECLARED, COMP.RESTORED, COMP.DEFERRED, COMP.NOZZLE_PINS, COMP.STITCH_LATE, COMP.CHART_SERIAL. -/
def compDescs : List Desc :=
  [⟨0x08, 0, 3, 0x0100, 1, 1, 4, 0, .rw, .basic, .ledger, .any, 13⟩,
   ⟨0x08, 0, 3, 0x0101, 1, 1, 4, 0, .rw, .basic, .ledger, .range 0 8, 4⟩,
   ⟨0x08, 0, 3, 0x0102, 1, 1, 1, 0, .rw, .basic, .ledger, .any, 0⟩,
   ⟨0x08, 0, 3, 0x0103, 1, 1, 11, 0, .rw, .basic, .ledger, .rangeOr 0 1023 0x7FF, 2047⟩,
   ⟨0x08, 0, 3, 0x0104, 1, 1, 16, 0, .rw, .basic, .ledger, .any, 0⟩,
   ⟨0x08, 0, 3, 0x0105, 1, 1, 9, 0, .rw, .basic, .ledger, .range 0 256, 0⟩,
   ⟨0x08, 0, 3, 0x0106, 1, 1, 11, 0, .rw, .basic, .ledger, .rangeOr 0 1023 0x7FF, 2047⟩,
   ⟨0x08, 0, 3, 0x0107, 1, 1, 16, 0, .rw, .basic, .ledger, .any, 0⟩,
   ⟨0x08, 0, 3, 0x0108, 1, 1, 9, 0, .rw, .basic, .ledger, .range 0 256, 0⟩,
   ⟨0x08, 0, 0, 0x0010, 1, 1, 1, 0, .rw, .basic, .policy, .any, 1⟩,
   ⟨0x08, 0, 0, 0x0011, 1, 1, 7, 0, .rw, .basic, .policy, .range 1 64, 8⟩,
   ⟨0x08, 0, 0, 0x0012, 1, 1, 11, 0, .rw, .basic, .policy, .range 1 1024, 64⟩,
   ⟨0x08, 0, 0, 0x0013, 1, 1, 13, 0, .rw, .basic, .policy, .range 0 4096, 256⟩,
   ⟨0x08, 0, 0, 0x0014, 1, 1, 12, 0, .rw, .basic, .policy, .range 10 3600, 60⟩,
   ⟨0x08, 0, 0, 0x0015, 1, 1, 4, 0, .rw, .basic, .policy, .range 1 15, 3⟩,
   ⟨0x08, 0, 0, 0x0016, 1, 1, 17, 0, .rw, .basic, .policy, .range 600 86400, 3600⟩,
   ⟨0x08, 0, 0, 0x0017, 1, 1, 12, 0, .rw, .basic, .policy, .range 1 3600, 10⟩,
   ⟨0x08, 0, 0, 0x0018, 1, 1, 3, 0, .rw, .basic, .policy, .range 0 6, 2⟩,
   ⟨0x08, 0, 0, 0x0019, 1, 1, 6, 0, .rw, .basic, .policy, .range 0 32, 8⟩,
   ⟨0x08, 0, 0, 0x001A, 1, 1, 12, 0, .rw, .basic, .policy, .range 1 3600, 10⟩,
   ⟨0x08, 0, 0, 0x001B, 1, 1, 11, 0, .rw, .basic, .policy, .range 16 1024, 64⟩,
   ⟨0x08, 0, 0, 0x0030, 16, 1, 4, 0, .rw, .basic, .ledger, .any, 15⟩,
   ⟨0x08, 0, 0, 0x0040, 16, 1, 0, 8, .rw, .basic, .ledger, .levels 8, 0⟩,
   ⟨0x08, 0, 0, 0x0080, 1, 1, 0, 32, .ro, .basic, .ledger, .any, 0⟩,
   ⟨0x08, 0, 0, 0x0081, 1, 1, 32, 0, .ro, .basic, .ledger, .any, 0⟩,
   ⟨0x08, 0, 0, 0x0082, 1, 1, 32, 0, .ro, .basic, .ledger, .any, 0⟩,
   ⟨0x08, 0, 0, 0x0083, 1, 1, 32, 0, .ro, .basic, .ledger, .any, 0⟩,
   ⟨0x08, 0, 0, 0x0084, 1, 1, 18, 0, .ro, .basic, .ledger, .any, 0⟩,
   ⟨0x08, 0, 0, 0x0085, 1, 1, 32, 0, .ro, .basic, .ledger, .any, 0⟩,
   ⟨0x08, 0, 0, 0x0086, 1, 1, 32, 0, .ro, .basic, .ledger, .any, 0⟩]

/-- The parameters of service 0x09 (24_parameter_groups.md and the service's chapter), in table order:
POS.HIGH_WATER, POS.POSITION, POS.CHANNELS, POS.ACTIVE, POS.LINE_PITCH, POS.REV_TOL, POS.SPEED_WINDOW, POS.LINE_RATE, POS.XCHECK_LINES, POS.XCHECK_TOL, POS.XCHECK_STRIKES, POS.RECOVER_TIME, POS.REJ_UNSERVED, POS.REJ_FLAGGED, POS.REJ_ABS_OUT, POS.REJ0_DISTANCE, POS.REJ0_WIDTH, POS.REJ0_POLARITY, POS.PGO0_EDGE, POS.PGO0_DEBOUNCE, POS.PGO0_LOCKOUT, POS.PGO0_REJ_OUT, POS[c].MODE, POS[c].COUNTS_PER_LINE, POS[c].DIR_INVERT, POS[c].FILTER, POS[c].AMP_NOMINAL, POS[c].AMP_LOW, POS[c].AMP_HIGH, POS[c].INDEX_PERIOD, POS[c].INDEX_TOL, POS[c].INDEX_RESNAP, POS[c].STATE, POS[c].FAULT, POS[c].COUNT, POS[c].SPEED, POS[c].INDEX_DEV, POS[c].INDEX_SMALL, POS[c].AMPLITUDE, POS.REV_SMALL, POS.REV_LARGE, POS.SWITCHOVERS, POS.XCHECK_FAILS, POS.RESNAPS, POS.PGO_EDGES, POS.PGO_FILTERED, POS.REJ_PULSES, POS.REJ_LATE, POS.GATE0_ROLE, POS.GATE0_POLARITY, POS.GATE0_HEADS, POS.GATE0_FILTER. -/
def posDescs : List Desc :=
  [⟨0x09, 0, 0, 0x0010, 1, 1, 64, 0, .ro, .basic, .oper, .any, 0⟩,
   ⟨0x09, 0, 0, 0x0011, 1, 1, 64, 0, .ro, .basic, .oper, .any, 0⟩,
   ⟨0x09, 0, 0, 0x0012, 1, 1, 2, 0, .rw, .basic, .oper, .any, 0⟩,
   ⟨0x09, 0, 0, 0x0013, 1, 1, 1, 0, .ro, .basic, .oper, .any, 0⟩,
   ⟨0x09, 0, 0, 0x0014, 1, 1, 32, 0, .rw, .basic, .oper, .range 5000000 100000000, 21166667⟩,
   ⟨0x09, 0, 0, 0x0015, 1, 1, 8, 0, .rw, .basic, .oper, .any, 4⟩,
   ⟨0x09, 0, 0, 0x0016, 1, 1, 14, 0, .rw, .basic, .oper, .range 10 10000, 250⟩,
   ⟨0x09, 0, 0, 0x0017, 1, 1, 32, 0, .ro, .basic, .oper, .any, 0⟩,
   ⟨0x09, 0, 0, 0x0018, 1, 1, 16, 0, .rw, .basic, .oper, .range 64 65535, 1024⟩,
   ⟨0x09, 0, 0, 0x0019, 1, 1, 8, 0, .rw, .basic, .oper, .range 1 200, 20⟩,
   ⟨0x09, 0, 0, 0x001A, 1, 1, 4, 0, .rw, .basic, .oper, .range 1 15, 3⟩,
   ⟨0x09, 0, 0, 0x001B, 1, 1, 16, 0, .rw, .basic, .oper, .range 10 10000, 100⟩,
   ⟨0x09, 0, 0, 0x001C, 1, 1, 1, 0, .rw, .basic, .oper, .any, 1⟩,
   ⟨0x09, 0, 0, 0x001D, 1, 1, 1, 0, .rw, .basic, .oper, .any, 1⟩,
   ⟨0x09, 0, 0, 0x001E, 1, 1, 1, 0, .rw, .basic, .oper, .any, 0⟩,
   ⟨0x09, 0, 0, 0x0030, 2, 4, 32, 0, .rw, .basic, .oper, .any, 0⟩,
   ⟨0x09, 0, 0, 0x0031, 2, 4, 20, 0, .rw, .basic, .oper, .range 10 1000000, 20000⟩,
   ⟨0x09, 0, 0, 0x0032, 2, 4, 1, 0, .rw, .basic, .oper, .any, 0⟩,
   ⟨0x09, 0, 0, 0x0040, 4, 4, 1, 0, .rw, .basic, .oper, .any, 0⟩,
   ⟨0x09, 0, 0, 0x0041, 4, 4, 10, 0, .rw, .basic, .oper, .range 0 1000, 20⟩,
   ⟨0x09, 0, 0, 0x0042, 4, 4, 32, 0, .rw, .basic, .oper, .any, 0⟩,
   ⟨0x09, 0, 0, 0x0043, 4, 4, 1, 0, .rw, .basic, .oper, .any, 0⟩,
   ⟨0x09, 0, 1, 0x0100, 1, 1, 2, 0, .rw, .basic, .oper, .enum 3, 0⟩,
   ⟨0x09, 0, 1, 0x0101, 1, 1, 32, 0, .rw, .basic, .oper, .range 0x00010000 0xFFFF0000, 262144⟩,
   ⟨0x09, 0, 1, 0x0102, 1, 1, 1, 0, .rw, .basic, .oper, .any, 0⟩,
   ⟨0x09, 0, 1, 0x0103, 1, 1, 4, 0, .rw, .basic, .oper, .any, 4⟩,
   ⟨0x09, 0, 1, 0x0104, 1, 1, 12, 0, .rw, .basic, .oper, .range 200 2000, 1000⟩,
   ⟨0x09, 0, 1, 0x0105, 1, 1, 11, 0, .rw, .basic, .oper, .range 250 1000, 640⟩,
   ⟨0x09, 0, 1, 0x0106, 1, 1, 11, 0, .rw, .basic, .oper, .range 1000 2000, 1440⟩,
   ⟨0x09, 0, 1, 0x0107, 1, 1, 32, 0, .rw, .basic, .oper, .any, 0⟩,
   ⟨0x09, 0, 1, 0x0108, 1, 1, 16, 0, .rw, .basic, .oper, .any, 2⟩,
   ⟨0x09, 0, 1, 0x0109, 1, 1, 1, 0, .rw, .mode, .oper, .any, 0⟩,
   ⟨0x09, 0, 1, 0x0110, 1, 1, 2, 0, .ro, .basic, .oper, .any, 0⟩,
   ⟨0x09, 0, 1, 0x0111, 1, 1, 8, 0, .ro, .basic, .oper, .any, 0⟩,
   ⟨0x09, 0, 1, 0x0112, 1, 1, 64, 0, .ro, .basic, .oper, .any, 0⟩,
   ⟨0x09, 0, 1, 0x0113, 1, 1, 32, 0, .ro, .basic, .oper, .any, 0⟩,
   ⟨0x09, 0, 1, 0x0114, 1, 1, 32, 0, .ro, .basic, .oper, .any, 0⟩,
   ⟨0x09, 0, 1, 0x0115, 1, 1, 32, 0, .ro, .basic, .oper, .any, 0⟩,
   ⟨0x09, 0, 1, 0x0116, 1, 1, 11, 0, .ro, .basic, .oper, .any, 0⟩,
   ⟨0x09, 0, 0, 0x0200, 1, 1, 32, 0, .ro, .basic, .oper, .any, 0⟩,
   ⟨0x09, 0, 0, 0x0201, 1, 1, 32, 0, .ro, .basic, .oper, .any, 0⟩,
   ⟨0x09, 0, 0, 0x0202, 1, 1, 32, 0, .ro, .basic, .oper, .any, 0⟩,
   ⟨0x09, 0, 0, 0x0203, 1, 1, 32, 0, .ro, .basic, .oper, .any, 0⟩,
   ⟨0x09, 0, 0, 0x0204, 1, 1, 32, 0, .ro, .basic, .oper, .any, 0⟩,
   ⟨0x09, 0, 0, 0x0205, 1, 1, 64, 0, .ro, .basic, .counters, .any, 0⟩,
   ⟨0x09, 0, 0, 0x0206, 1, 1, 32, 0, .ro, .basic, .oper, .any, 0⟩,
   ⟨0x09, 0, 0, 0x0207, 1, 1, 64, 0, .ro, .basic, .counters, .any, 0⟩,
   ⟨0x09, 0, 0, 0x0208, 1, 1, 32, 0, .ro, .basic, .oper, .any, 0⟩,
   ⟨0x09, 0, 0, 0x0060, 6, 4, 3, 0, .rw, .basic, .policy, .enum 6, 0⟩,
   ⟨0x09, 0, 0, 0x0061, 6, 4, 1, 0, .rw, .basic, .oper, .any, 0⟩,
   ⟨0x09, 0, 0, 0x0062, 6, 4, 16, 0, .rw, .basic, .oper, .any, 65535⟩,
   ⟨0x09, 0, 0, 0x0063, 6, 4, 8, 0, .rw, .basic, .oper, .range 0 200, 100⟩]

/-- The parameters of service 0x0A (24_parameter_groups.md and the service's chapter), in table order:
FIRE.FIRE_DELAY, FIRE[h].LINE_OFFSET, FIRE[h].LINES_FIRED, FIRE[h].LINES_DEFERRED, FIRE[h].LINES_SKIPPED, FIRE[h].PHASES_MISSING, FIRE[h].GATE_BREAKS, FIRE[h].LINES_FLAGGED, FIRE[h].LINES_BROKEN. -/
def fireDescs : List Desc :=
  [⟨0x0A, 0, 0, 0x0010, 1, 1, 16, 0, .ro, .basic, .oper, .any, 1600⟩,
   ⟨0x0A, 0, 15, 0x0020, 1, 1, 20, 0, .rw, .basic, .oper, .any, 0⟩,
   ⟨0x0A, 0, 15, 0x0100, 1, 1, 64, 0, .ro, .basic, .counters, .any, 0⟩,
   ⟨0x0A, 0, 15, 0x0101, 1, 1, 32, 0, .ro, .basic, .oper, .any, 0⟩,
   ⟨0x0A, 0, 15, 0x0102, 1, 1, 32, 0, .ro, .basic, .oper, .any, 0⟩,
   ⟨0x0A, 0, 15, 0x0103, 1, 1, 32, 0, .ro, .basic, .oper, .any, 0⟩,
   ⟨0x0A, 0, 15, 0x0104, 1, 1, 32, 0, .ro, .basic, .oper, .any, 0⟩,
   ⟨0x0A, 0, 15, 0x0105, 1, 1, 32, 0, .ro, .basic, .counters, .any, 0⟩,
   ⟨0x0A, 0, 15, 0x0106, 1, 1, 32, 0, .ro, .basic, .counters, .any, 0⟩]

/-- The parameters of service 0x0B (24_parameter_groups.md and the service's chapter), in table order:
HEAD[h].PLANE, HEAD[h].COL_FIRST, HEAD[h].COL_COUNT, HEAD[h].NOZ_PER_COL, HEAD[h].PAIR_MODE, HEAD[h].COL_REVERSE, HEAD[h].STATE, HEAD[h].IDENTITY, HEAD[h].MAX_LINE_RATE, HEAD[h].SLOTS, HEAD[h].RANK, HEAD[h].AUTO_POWER, HEAD[h].POWER, HEAD[h].DEPTH, HEAD[h].LANE_MODE, HEAD[h].TEMP, HEAD[h].TEMP_SET, HEAD[h].TEMP_WARN, HEAD[h].TEMP_LIMIT, HEAD[h].PREHEAT, HEAD[h].WARN_CAP, HEAD[h].TEMP_STAGE, HEAD[h].RECIPE, HEAD[h].MSG_ERRORS, HEAD[h].TEMP_MAX, HEAD[h].ATTACHES, HEAD[h].STATUS_GAPS, HEAD[h].TABLE_RESENDS, HEAD[h].WARN_LINES, HEAD[h].LIMIT_LINES. -/
def headDescs : List Desc :=
  [⟨0x0B, 0, 15, 0x0020, 1, 1, 2, 0, .rw, .basic, .oper, .any, 0⟩,
   ⟨0x0B, 0, 15, 0x0021, 1, 1, 16, 0, .rw, .basic, .oper, .any, 0⟩,
   ⟨0x0B, 0, 15, 0x0022, 1, 1, 14, 0, .rw, .basic, .oper, .range 1 8192, 4096⟩,
   ⟨0x0B, 0, 15, 0x0023, 1, 1, 2, 0, .rw, .basic, .oper, .enumFrom 1 2, 2⟩,
   ⟨0x0B, 0, 15, 0x0024, 1, 1, 1, 0, .rw, .basic, .oper, .any, 0⟩,
   ⟨0x0B, 0, 15, 0x0025, 1, 1, 1, 0, .rw, .basic, .oper, .any, 0⟩,
   ⟨0x0B, 0, 15, 0x0010, 1, 1, 3, 0, .ro, .basic, .oper, .any, 0⟩,
   ⟨0x0B, 0, 15, 0x0011, 1, 1, 0, 16, .ro, .basic, .headCal, .any, 0⟩,
   ⟨0x0B, 0, 15, 0x0012, 1, 1, 18, 0, .ro, .basic, .oper, .any, 0⟩,
   ⟨0x0B, 0, 15, 0x0013, 1, 1, 14, 0, .ro, .basic, .oper, .any, 0⟩,
   ⟨0x0B, 0, 15, 0x0014, 1, 1, 4, 0, .ro, .basic, .headCal, .any, 0⟩,
   ⟨0x0B, 0, 15, 0x0016, 1, 1, 1, 0, .rw, .basic, .oper, .any, 1⟩,
   ⟨0x0B, 0, 15, 0x0017, 1, 1, 2, 0, .ro, .basic, .oper, .any, 0⟩,
   ⟨0x0B, 0, 15, 0x0040, 1, 1, 2, 0, .ro, .basic, .oper, .any, 0⟩,
   ⟨0x0B, 0, 15, 0x0041, 1, 1, 2, 0, .ro, .basic, .oper, .any, 0⟩,
   ⟨0x0B, 0, 15, 0x0050, 1, 1, 16, 0, .ro, .basic, .oper, .any, 0⟩,
   ⟨0x0B, 0, 15, 0x0051, 1, 1, 16, 0, .rw, .basic, .oper, .range 320 1120, 720⟩,
   ⟨0x0B, 0, 15, 0x0052, 1, 1, 16, 0, .rw, .basic, .policy, .any, 960⟩,
   ⟨0x0B, 0, 15, 0x0053, 1, 1, 16, 0, .rw, .basic, .policy, .any, 1040⟩,
   ⟨0x0B, 0, 15, 0x0054, 1, 1, 5, 0, .rw, .loop, .oper, .range 0 16, 8⟩,
   ⟨0x0B, 0, 15, 0x0055, 1, 1, 3, 0, .rw, .basic, .policy, .range 1 6, 6⟩,
   ⟨0x0B, 0, 15, 0x0056, 1, 1, 2, 0, .ro, .basic, .oper, .any, 0⟩,
   ⟨0x0B, 0, 15, 0x0060, 1, 1, 0, 140, .rw, .basic, .oper, .recipe, 0⟩,
   ⟨0x0B, 0, 15, 0x0100, 1, 1, 32, 0, .ro, .basic, .oper, .any, 0⟩,
   ⟨0x0B, 0, 15, 0x0101, 1, 1, 16, 0, .ro, .basic, .oper, .any, 32768⟩,
   ⟨0x0B, 0, 15, 0x0102, 1, 1, 16, 0, .ro, .basic, .oper, .any, 0⟩,
   ⟨0x0B, 0, 15, 0x0103, 1, 1, 32, 0, .ro, .basic, .oper, .any, 0⟩,
   ⟨0x0B, 0, 15, 0x0104, 1, 1, 32, 0, .ro, .basic, .oper, .any, 0⟩,
   ⟨0x0B, 0, 15, 0x0105, 1, 1, 32, 0, .ro, .basic, .oper, .any, 0⟩,
   ⟨0x0B, 0, 15, 0x0106, 1, 1, 32, 0, .ro, .basic, .oper, .any, 0⟩]

/-- The parameters of service 0x0C (24_parameter_groups.md and the service's chapter), in table order:
LANE.RESTORE_HOLD, LANE.FLAP_LIMIT, LANE.FLAP_WINDOW, LANE.ERR_LIMIT, LANE[u].STATE, LANE[u].REASON, LANE[u].RATE, LANE[u].PAYLOAD_RATE, LANE[u].LATENCY, LANE[u].PN_INVERTED, LANE[u].SWAPPED, LANE[u].CTLE, LANE[u].CTLE_FORCE, LANE[u].TX_SWING, LANE[u].TX_DEEMPH, LANE[u].EBUF_FILL, LANE[u].HEADER_ERR, LANE[u].MARKER_ERR, LANE[u].CRC_FAIL, LANE[u].FRAME_GAP, LANE[u].SEED_RESYNC, LANE[u].FILL_DELETED, LANE[u].FILL_ADDED, LANE[u].DOWNS, LANE[u].EYE_HEIGHT, LANE[u].EYE_WIDTH, LANE[u].FREQ_OFFSET, LANE[u].UP_SINCE, LANE[u].DOWN_AT, LANE[u].FLAPS, LANE[u].FRAMES_TX, LANE[u].FRAMES_RX, LANE[u].GO_TX, LANE[u].GATE_TX, LANE[u].TRAININGS, LANE[u].LOOP_RUNS. -/
def laneDescs : List Desc :=
  [⟨0x0C, 0, 0, 0x0010, 1, 1, 16, 0, .rw, .basic, .oper, .range 1 1000, 10⟩,
   ⟨0x0C, 0, 0, 0x0011, 1, 1, 4, 0, .rw, .basic, .oper, .range 1 15, 3⟩,
   ⟨0x0C, 0, 0, 0x0012, 1, 1, 16, 0, .rw, .basic, .oper, .range 10 3600, 60⟩,
   ⟨0x0C, 0, 0, 0x0013, 1, 1, 8, 0, .rw, .basic, .oper, .range 1 255, 16⟩,
   ⟨0x0C, 0, 35, 0x0020, 1, 1, 3, 0, .ro, .basic, .oper, .any, 0⟩,
   ⟨0x0C, 0, 35, 0x0021, 1, 1, 8, 0, .ro, .basic, .oper, .any, 0⟩,
   ⟨0x0C, 0, 35, 0x0022, 1, 1, 2, 0, .rw, .basic, .oper, .enum 3, 2⟩,
   ⟨0x0C, 0, 35, 0x0023, 1, 1, 13, 0, .ro, .basic, .oper, .any, 5506⟩,
   ⟨0x0C, 0, 35, 0x0024, 1, 1, 10, 0, .ro, .basic, .oper, .any, 0⟩,
   ⟨0x0C, 0, 35, 0x0025, 1, 1, 1, 0, .ro, .basic, .oper, .any, 0⟩,
   ⟨0x0C, 0, 35, 0x0026, 1, 1, 1, 0, .ro, .basic, .oper, .any, 0⟩,
   ⟨0x0C, 0, 35, 0x0027, 1, 1, 4, 0, .ro, .basic, .oper, .any, 0⟩,
   ⟨0x0C, 0, 35, 0x0028, 1, 1, 5, 0, .rw, .mode, .oper, .range 0 16, 0⟩,
   ⟨0x0C, 0, 35, 0x0029, 1, 1, 2, 0, .rw, .basic, .oper, .any, 2⟩,
   ⟨0x0C, 0, 35, 0x002A, 1, 1, 3, 0, .rw, .basic, .oper, .enum 7, 2⟩,
   ⟨0x0C, 0, 35, 0x002B, 1, 1, 5, 0, .ro, .basic, .oper, .any, 0⟩,
   ⟨0x0C, 0, 35, 0x0100, 1, 1, 32, 0, .ro, .basic, .oper, .any, 0⟩,
   ⟨0x0C, 0, 35, 0x0101, 1, 1, 32, 0, .ro, .basic, .oper, .any, 0⟩,
   ⟨0x0C, 0, 35, 0x0102, 1, 1, 32, 0, .ro, .basic, .oper, .any, 0⟩,
   ⟨0x0C, 0, 35, 0x0103, 1, 1, 32, 0, .ro, .basic, .oper, .any, 0⟩,
   ⟨0x0C, 0, 35, 0x0104, 1, 1, 32, 0, .ro, .basic, .oper, .any, 0⟩,
   ⟨0x0C, 0, 35, 0x0105, 1, 1, 32, 0, .ro, .basic, .oper, .any, 0⟩,
   ⟨0x0C, 0, 35, 0x0106, 1, 1, 32, 0, .ro, .basic, .oper, .any, 0⟩,
   ⟨0x0C, 0, 35, 0x0107, 1, 1, 32, 0, .ro, .basic, .oper, .any, 0⟩,
   ⟨0x0C, 0, 35, 0x0030, 1, 1, 10, 0, .ro, .basic, .oper, .any, 0⟩,
   ⟨0x0C, 0, 35, 0x0031, 1, 1, 7, 0, .ro, .basic, .oper, .any, 0⟩,
   ⟨0x0C, 0, 35, 0x0032, 1, 1, 16, 0, .ro, .basic, .oper, .any, 0⟩,
   ⟨0x0C, 0, 35, 0x0033, 1, 1, 64, 0, .ro, .basic, .oper, .any, 0⟩,
   ⟨0x0C, 0, 35, 0x0034, 1, 1, 64, 0, .ro, .basic, .oper, .any, 0⟩,
   ⟨0x0C, 0, 35, 0x0035, 1, 1, 4, 0, .ro, .basic, .oper, .any, 0⟩,
   ⟨0x0C, 0, 35, 0x0108, 1, 1, 64, 0, .ro, .basic, .counters, .any, 0⟩,
   ⟨0x0C, 0, 35, 0x0109, 1, 1, 64, 0, .ro, .basic, .counters, .any, 0⟩,
   ⟨0x0C, 0, 35, 0x010A, 1, 1, 64, 0, .ro, .basic, .counters, .any, 0⟩,
   ⟨0x0C, 0, 35, 0x010B, 1, 1, 32, 0, .ro, .basic, .oper, .any, 0⟩,
   ⟨0x0C, 0, 35, 0x010C, 1, 1, 32, 0, .ro, .basic, .oper, .any, 0⟩,
   ⟨0x0C, 0, 35, 0x010D, 1, 1, 16, 0, .ro, .basic, .oper, .any, 0⟩]

/-- The parameters of service 0x0D (24_parameter_groups.md and the service's chapter), in table order:
CAM.BUFFER_PODS, CAM[c].ENABLE, CAM[c].AGGREGATE, CAM[c].CXP_SPEED, CAM[c].TRIG_OUT, CAM[c].TRIG_POLARITY, CAM[c].TRIG_MAX_RATE, CAM[c].LINE_WINDOW, CAM[c].WIDTH, CAM[c].PIXEL_BITS, CAM[c].FRAME_LINES, CAM[c].TRIG_PITCH, CAM[c].EXPOSURE_A, CAM[c].EXPOSURE_B, CAM[c].MERGE_KNEE, CAM[c].MERGE_SHIFT, CAM[c].LIN_KNOTS, CAM[c].BLACK, CAM[c].DEFECT_COUNT, CAM[c].DEFECTS, CAM[c].SHADE0, CAM[c].MOSAIC_SIZE, CAM[c].MOSAIC, CAM[c].SEP_ENABLE, CAM[c].SEP_MATRIX, CAM[c].FRAMES, CAM[c].FRAMES_UNBUFFERED, CAM[c].LINES_LOST, CAM[c].LINES_EXTRA, CAM[c].LINES_DISCARDED, CAM[c].TRIG_SKIPPED, CAM[c].REALIGNS, CAM[c].PACKET_ERR, CAM[c].LINK_DOWNS. -/
def camDescs : List Desc :=
  [⟨0x0D, 0, 0, 0x0010, 1, 1, 11, 0, .ro, .basic, .oper, .any, 1024⟩,
   ⟨0x0D, 0, 3, 0x0020, 1, 1, 1, 0, .rw, .basic, .oper, .any, 0⟩,
   ⟨0x0D, 0, 3, 0x0021, 1, 1, 3, 0, .rw, .basic, .oper, .enumList [1, 2, 4], 1⟩,
   ⟨0x0D, 0, 3, 0x0022, 1, 1, 3, 0, .rw, .basic, .oper, .enum 7, 6⟩,
   ⟨0x0D, 0, 3, 0x0023, 1, 1, 2, 0, .rw, .basic, .oper, .any, 0⟩,
   ⟨0x0D, 0, 3, 0x0024, 1, 1, 1, 0, .rw, .basic, .oper, .any, 0⟩,
   ⟨0x0D, 0, 3, 0x0025, 1, 1, 20, 0, .rw, .basic, .oper, .range 1000 1000000, 250000⟩,
   ⟨0x0D, 0, 3, 0x0026, 1, 1, 20, 0, .rw, .basic, .oper, .range 1000 1000000, 20000⟩,
   ⟨0x0D, 0, 3, 0x0030, 1, 1, 15, 0, .rw, .basic, .oper, .range 4 16384, 4096⟩,
   ⟨0x0D, 0, 3, 0x0031, 1, 1, 2, 0, .rw, .basic, .oper, .any, 0⟩,
   ⟨0x0D, 0, 3, 0x0032, 1, 1, 15, 0, .rw, .basic, .oper, .range 16 16384, 1024⟩,
   ⟨0x0D, 0, 3, 0x0033, 1, 1, 16, 0, .rw, .basic, .oper, .range 16 65535, 64⟩,
   ⟨0x0D, 0, 3, 0x0034, 1, 1, 20, 0, .rw, .basic, .oper, .range 100 1000000, 2000⟩,
   ⟨0x0D, 0, 3, 0x0035, 1, 1, 20, 0, .rw, .basic, .oper, .rangeOr 100 1000000 0, 0⟩,
   ⟨0x0D, 0, 3, 0x0036, 1, 1, 16, 0, .rw, .basic, .oper, .any, 60000⟩,
   ⟨0x0D, 0, 3, 0x0037, 1, 1, 3, 0, .rw, .basic, .oper, .range 0 4, 0⟩,
   ⟨0x0D, 0, 3, 0x0040, 1, 1, 0, 68, .rw, .basic, .oper, .reserved [66, 67], linKnotsReset⟩,
   ⟨0x0D, 0, 3, 0x0041, 1, 1, 0, 12, .rw, .basic, .oper, .reserved [10, 11], 0⟩,
   ⟨0x0D, 0, 3, 0x0042, 1, 1, 9, 0, .rw, .basic, .oper, .range 0 256, 0⟩,
   ⟨0x0D, 0, 3, 0x0043, 1, 1, 0, 512, .rw, .basic, .oper, .topBits, 0⟩,
   ⟨0x0D, 0, 3, 0x0050, 8, 1, 0, 4096, .rw, .basic, .oper, .any, (leNat (List.flatten (List.replicate 2048 (leBytes 2 0x4000))))⟩,
   ⟨0x0D, 0, 3, 0x0060, 1, 1, 2, 0, .rw, .basic, .oper, .enum 3, 0⟩,
   ⟨0x0D, 0, 3, 0x0061, 1, 1, 0, 8, .rw, .basic, .oper, .nibbles 9, 0⟩,
   ⟨0x0D, 0, 3, 0x0062, 1, 1, 1, 0, .rw, .basic, .oper, .any, 0⟩,
   ⟨0x0D, 0, 3, 0x0063, 1, 1, 0, 40, .rw, .basic, .oper, .any, sepMatrixReset⟩,
   ⟨0x0D, 0, 3, 0x0100, 1, 1, 32, 0, .ro, .basic, .oper, .any, 0⟩,
   ⟨0x0D, 0, 3, 0x0101, 1, 1, 32, 0, .ro, .basic, .oper, .any, 0⟩,
   ⟨0x0D, 0, 3, 0x0102, 1, 1, 32, 0, .ro, .basic, .oper, .any, 0⟩,
   ⟨0x0D, 0, 3, 0x0103, 1, 1, 32, 0, .ro, .basic, .oper, .any, 0⟩,
   ⟨0x0D, 0, 3, 0x0104, 1, 1, 32, 0, .ro, .basic, .oper, .any, 0⟩,
   ⟨0x0D, 0, 3, 0x0105, 1, 1, 32, 0, .ro, .basic, .oper, .any, 0⟩,
   ⟨0x0D, 0, 3, 0x0106, 1, 1, 32, 0, .ro, .basic, .oper, .any, 0⟩,
   ⟨0x0D, 0, 3, 0x0107, 1, 1, 32, 0, .ro, .basic, .oper, .any, 0⟩,
   ⟨0x0D, 0, 3, 0x0108, 1, 1, 32, 0, .ro, .basic, .oper, .any, 0⟩]

/-- The parameters of service 0x0E (24_parameter_groups.md and the service's chapter), in table order:
INSP.DROP_MASS, INSP.SPREAD, INSP.REG_TILES, INSP.REG_CONTRAST, INSP.REG_LOSS_FRAMES, INSP.QUEUE_FRAMES, INSP.HOLD_FRAMES, INSP.COVER_ALARM, INSP.REJ_UNINSPECTED, INSP.VIEW0_PLANES, INSP.VIEW0_COL0, INSP.VIEW0_SCALE, INSP.VIEW0_DISTANCE, INSP.VIEW0_WHITE, INSP.VIEW0_INK, INSP.VIEW0_PRIMARY, INSP.NOZ_MIN_COVER, INSP.NOZ_MIN_LINES, INSP.NOZ_THRESH, INSP.NOZ_CLEAR, INSP.WATCH_AT, INSP.OUT_AT, INSP.PROBE_LINES, INSP.DENS_TOL, INSP.DENS_LINES, INSP.ALIGN_TOL, INSP.ALIGN_EDGES, INSP.CHART_PRINT, INSP.DENS_TARGET_P0, INSP.CLASS1, INSP.FRAMES_ANALYSED, INSP.FRAMES_SKIPPED, INSP.FRAMES_UNREGISTERED, INSP.DEFECTS, INSP.REJECTS, INSP.PROBES, INSP.MEASUREMENTS. -/
def inspDescs : List Desc :=
  [⟨0x0E, 0, 0, 0x0010, 1, 1, 0, 16, .rw, .basic, .oper, .dropMass, dropMassReset⟩,
   ⟨0x0E, 0, 0, 0x0011, 1, 1, 0, 16, .rw, .basic, .oper, .spread, spreadReset⟩,
   ⟨0x0E, 0, 0, 0x0012, 1, 1, 7, 0, .rw, .basic, .oper, .range 4 64, 16⟩,
   ⟨0x0E, 0, 0, 0x0013, 1, 1, 10, 0, .rw, .basic, .oper, .range 50 1000, 200⟩,
   ⟨0x0E, 0, 0, 0x0014, 1, 1, 8, 0, .rw, .basic, .oper, .range 1 255, 8⟩,
   ⟨0x0E, 0, 0, 0x0015, 1, 1, 4, 0, .rw, .basic, .oper, .range 2 8, 4⟩,
   ⟨0x0E, 0, 0, 0x0016, 1, 1, 4, 0, .rw, .basic, .oper, .range 0 8, 2⟩,
   ⟨0x0E, 0, 0, 0x0017, 1, 1, 10, 0, .rw, .basic, .oper, .range 0 1000, 900⟩,
   ⟨0x0E, 0, 0, 0x0018, 1, 1, 1, 0, .rw, .basic, .policy, .any, 0⟩,
   ⟨0x0E, 0, 0, 0x0020, 4, 16, 4, 0, .rw, .basic, .oper, .any, 0⟩,
   ⟨0x0E, 0, 0, 0x0021, 4, 16, 32, 0, .rw, .basic, .oper, .any, 0⟩,
   ⟨0x0E, 0, 0, 0x0022, 4, 16, 32, 0, .rw, .basic, .oper, .range 0x4000 0x100000, 65536⟩,
   ⟨0x0E, 0, 0, 0x0023, 4, 16, 13, 0, .rw, .basic, .oper, .range 0 4096, 0⟩,
   ⟨0x0E, 0, 0, 0x0024, 4, 16, 0, 12, .rw, .basic, .oper, .reserved [10, 11], (leNat (List.flatten (List.replicate 5 (leBytes 2 60000))))⟩,
   ⟨0x0E, 0, 0, 0x0025, 4, 16, 0, 40, .rw, .basic, .oper, .any, 0⟩,
   ⟨0x0E, 0, 0, 0x0026, 4, 16, 16, 0, .rw, .basic, .oper, .channels, 0⟩,
   ⟨0x0E, 0, 0, 0x0060, 1, 1, 10, 0, .rw, .basic, .policy, .range 0 1000, 600⟩,
   ⟨0x0E, 0, 0, 0x0061, 1, 1, 13, 0, .rw, .basic, .policy, .range 16 4096, 64⟩,
   ⟨0x0E, 0, 0, 0x0062, 1, 1, 10, 0, .rw, .basic, .policy, .range 0 1000, 350⟩,
   ⟨0x0E, 0, 0, 0x0063, 1, 1, 10, 0, .rw, .basic, .policy, .range 0 1000, 150⟩,
   ⟨0x0E, 0, 0, 0x0064, 1, 1, 4, 0, .rw, .basic, .policy, .range 1 14, 4⟩,
   ⟨0x0E, 0, 0, 0x0065, 1, 1, 4, 0, .rw, .basic, .policy, .range 2 15, 10⟩,
   ⟨0x0E, 0, 0, 0x0066, 1, 1, 13, 0, .rw, .basic, .policy, .range 128 4096, 512⟩,
   ⟨0x0E, 0, 0, 0x0067, 1, 1, 10, 0, .rw, .basic, .policy, .range 10 500, 60⟩,
   ⟨0x0E, 0, 0, 0x0068, 1, 1, 18, 0, .rw, .basic, .policy, .range 1024 262143, 16384⟩,
   ⟨0x0E, 0, 0, 0x0069, 1, 1, 6, 0, .rw, .basic, .policy, .range 1 32, 2⟩,
   ⟨0x0E, 0, 0, 0x006A, 1, 1, 12, 0, .rw, .basic, .policy, .range 16 4095, 256⟩,
   ⟨0x0E, 0, 0, 0x006B, 1, 1, 10, 0, .rw, .basic, .policy, .range 0 1000, 500⟩,
   ⟨0x0E, 0, 0, 0x006C, 4, 1, 0, 16, .rw, .basic, .policy, .any, dropMassReset⟩,
   ⟨0x0E, 0, 0, 0x0070, 6, 1, 0, 8, .rw, .basic, .policy, .classRec, 0⟩,
   ⟨0x0E, 0, 0, 0x0100, 1, 1, 32, 0, .ro, .basic, .inspStats, .any, 0⟩,
   ⟨0x0E, 0, 0, 0x0101, 1, 1, 32, 0, .ro, .basic, .inspStats, .any, 0⟩,
   ⟨0x0E, 0, 0, 0x0102, 1, 1, 32, 0, .ro, .basic, .inspStats, .any, 0⟩,
   ⟨0x0E, 0, 0, 0x0103, 1, 1, 32, 0, .ro, .basic, .inspStats, .any, 0⟩,
   ⟨0x0E, 0, 0, 0x0104, 1, 1, 64, 0, .ro, .basic, .counters, .any, 0⟩,
   ⟨0x0E, 0, 0, 0x0105, 1, 1, 32, 0, .ro, .basic, .inspStats, .any, 0⟩,
   ⟨0x0E, 0, 0, 0x0106, 1, 1, 32, 0, .ro, .basic, .inspStats, .any, 0⟩]

/-- The parameters of service 0x0F (24_parameter_groups.md and the service's chapter), in table order:
CAUSE.ENUMERATOR, CAUSE.ENUM_WAIT, CAUSE.POS_SOURCE, CAUSE.POS_PERIOD, CAUSE.POS_TIMEOUT, CAUSE.EXTRAP_MAX, CAUSE.TIME_HOLDOVER, CAUSE.PATH_TIMEOUT, CAUSE.ADDRESS, CAUSE.MEMBERS, CAUSE.GENERATION, CAUSE.RING_TIME, CAUSE.TIME_SOURCE, CAUSE.TIME_DIST, CAUSE.AUTH_FAIL, CAUSE.DUPLICATES, CAUSE.TIME_SWITCHES, CAUSE.POS_TIMEOUTS, CAUSE.LATE_LINES, CAUSE.PREPARE_IGNORED, CAUSE.ENUMERATIONS. -/
def causeDescs : List Desc :=
  [⟨0x0F, 0, 0, 0x0010, 1, 1, 1, 0, .rw, .basic, .causeway, .any, 0⟩,
   ⟨0x0F, 0, 0, 0x0011, 1, 1, 16, 0, .rw, .basic, .causeway, .range 100 60000, 1000⟩,
   ⟨0x0F, 0, 0, 0x0012, 1, 1, 11, 0, .rw, .basic, .causeway, .rangeOr 0 1023 0x7FF, 2047⟩,
   ⟨0x0F, 0, 0, 0x0013, 1, 1, 7, 0, .rw, .basic, .causeway, .range 1 100, 1⟩,
   ⟨0x0F, 0, 0, 0x0014, 1, 1, 10, 0, .rw, .basic, .causeway, .range 10 1000, 50⟩,
   ⟨0x0F, 0, 0, 0x0015, 1, 1, 10, 0, .rw, .basic, .causeway, .range 10 1000, 200⟩,
   ⟨0x0F, 0, 0, 0x0016, 1, 1, 14, 0, .rw, .basic, .causeway, .range 100 10000, 1000⟩,
   ⟨0x0F, 0, 0, 0x0017, 1, 1, 7, 0, .rw, .basic, .causeway, .range 1 100, 1⟩,
   ⟨0x0F, 0, 0, 0x0020, 1, 1, 11, 0, .ro, .basic, .oper, .any, 2047⟩,
   ⟨0x0F, 0, 0, 0x0021, 1, 1, 11, 0, .ro, .basic, .oper, .any, 0⟩,
   ⟨0x0F, 0, 0, 0x0022, 1, 1, 8, 0, .ro, .basic, .oper, .any, 0⟩,
   ⟨0x0F, 0, 0, 0x0023, 1, 1, 64, 0, .ro, .basic, .oper, .any, 0⟩,
   ⟨0x0F, 0, 0, 0x0024, 1, 1, 3, 0, .ro, .basic, .oper, .any, 4⟩,
   ⟨0x0F, 0, 0, 0x0025, 1, 1, 11, 0, .ro, .basic, .oper, .any, 2047⟩,
   ⟨0x0F, 0, 0, 0x0100, 1, 1, 32, 0, .ro, .basic, .oper, .any, 0⟩,
   ⟨0x0F, 0, 0, 0x0101, 1, 1, 64, 0, .ro, .basic, .oper, .any, 0⟩,
   ⟨0x0F, 0, 0, 0x0102, 1, 1, 32, 0, .ro, .basic, .oper, .any, 0⟩,
   ⟨0x0F, 0, 0, 0x0103, 1, 1, 32, 0, .ro, .basic, .oper, .any, 0⟩,
   ⟨0x0F, 0, 0, 0x0104, 1, 1, 32, 0, .ro, .basic, .oper, .any, 0⟩,
   ⟨0x0F, 0, 0, 0x0105, 1, 1, 32, 0, .ro, .basic, .oper, .any, 0⟩,
   ⟨0x0F, 0, 0, 0x0106, 1, 1, 32, 0, .ro, .basic, .oper, .any, 0⟩]

/-- The parameters of service 0x10 (24_parameter_groups.md and the service's chapter), in table order:
PACK.JOBS, PACK.BYTES_IN, PACK.BYTES_OUT, PACK.FAIL_FULL, PACK.FAIL_GAIN, PACK.FAIL_DATA, PACK.QUEUED. -/
def packDescs : List Desc :=
  [⟨0x10, 0, 0, 0x0100, 1, 1, 32, 0, .ro, .basic, .oper, .any, 0⟩,
   ⟨0x10, 0, 0, 0x0101, 1, 1, 64, 0, .ro, .basic, .oper, .any, 0⟩,
   ⟨0x10, 0, 0, 0x0102, 1, 1, 64, 0, .ro, .basic, .oper, .any, 0⟩,
   ⟨0x10, 0, 0, 0x0103, 1, 1, 32, 0, .ro, .basic, .oper, .any, 0⟩,
   ⟨0x10, 0, 0, 0x0104, 1, 1, 32, 0, .ro, .basic, .oper, .any, 0⟩,
   ⟨0x10, 0, 0, 0x0105, 1, 1, 32, 0, .ro, .basic, .oper, .any, 0⟩,
   ⟨0x10, 0, 0, 0x0106, 1, 1, 11, 0, .ro, .basic, .oper, .any, 0⟩]

/-- The parameters of service 0x11 (24_parameter_groups.md and the service's chapter), in table order:
EVT.LATCHED, EVT.NEXT_SEQ, EVT.PIN0_MASK, EVT.RING_MASK, EVT.PULSE_WIDTH, EVT.RAISED, EVT.SUPPRESSED, EVT.QUEUE_DROPPED, EVT.COUNT000. -/
def evtDescs : List Desc :=
  [⟨0x11, 0, 0, 0x0010, 1, 1, 0, 16, .ro, .basic, .log, .any, 0⟩,
   ⟨0x11, 0, 0, 0x0011, 1, 1, 32, 0, .ro, .basic, .log, .any, 0⟩,
   ⟨0x11, 0, 0, 0x0020, 4, 1, 0, 16, .rw, .basic, .oper, .any, 0⟩,
   ⟨0x11, 0, 0, 0x0024, 1, 1, 0, 16, .rw, .basic, .causeway, .any, 0⟩,
   ⟨0x11, 0, 0, 0x0025, 1, 1, 16, 0, .rw, .basic, .oper, .range 1 10000, 10⟩,
   ⟨0x11, 0, 0, 0x0100, 1, 1, 64, 0, .ro, .basic, .log, .any, 0⟩,
   ⟨0x11, 0, 0, 0x0101, 1, 1, 32, 0, .ro, .basic, .log, .any, 0⟩,
   ⟨0x11, 0, 0, 0x0102, 1, 1, 32, 0, .ro, .basic, .log, .any, 0⟩,
   ⟨0x11, 0, 0, 0x0200, 128, 1, 32, 0, .ro, .basic, .log, .any, 0⟩]

/-- The parameters of service 0x12 (24_parameter_groups.md and the service's chapter), in table order:
MGMT.CLASS_TH, MGMT.CLASS_TM, MGMT.ATTN_MASK, MGMT.PROTOCOL_ERRORS, MGMT.SIDE_RESETS, MGMT.HOST_RESETS. -/
def mgmtDescs : List Desc :=
  [⟨0x12, 0, 0, 0x0010, 1, 1, 16, 0, .rw, .basic, .oper, .any, 0⟩,
   ⟨0x12, 0, 0, 0x0011, 1, 1, 16, 0, .rw, .basic, .oper, .any, 0⟩,
   ⟨0x12, 0, 0, 0x0012, 1, 1, 3, 0, .rw, .basic, .oper, .any, 7⟩,
   ⟨0x12, 0, 0, 0x0100, 1, 1, 32, 0, .ro, .basic, .oper, .any, 0⟩,
   ⟨0x12, 0, 0, 0x0101, 1, 1, 32, 0, .ro, .basic, .oper, .any, 0⟩,
   ⟨0x12, 0, 0, 0x0102, 1, 1, 32, 0, .ro, .basic, .oper, .any, 0⟩]

/-- The parameters of service 0x13 (24_parameter_groups.md and the service's chapter), in table order:
POWER.PHASE, POWER.RESET_KIND, POWER.VDD_CORE_SET, POWER.VDD_CORE, POWER.HOLD_MV, POWER.SAG_REJECT, POWER.SAVE_SEQ, POWER.JOURNAL_FILL, POWER.RUNNING_BANK, POWER.RUNNING_SVN, POWER.STAGED, POWER.FW_GAP_WAIT, POWER.SAG_GLITCHES, POWER.CHECKPOINTS. -/
def powerDescs : List Desc :=
  [⟨0x13, 0, 0, 0x0010, 1, 1, 3, 0, .ro, .basic, .oper, .any, 0⟩,
   ⟨0x13, 0, 0, 0x0011, 1, 1, 3, 0, .ro, .basic, .oper, .any, 1⟩,
   ⟨0x13, 0, 0, 0x0020, 1, 1, 10, 0, .rw, .loop, .oper, .step 700 850 5, 750⟩,
   ⟨0x13, 0, 0, 0x0021, 1, 1, 10, 0, .ro, .basic, .oper, .any, 0⟩,
   ⟨0x13, 0, 0, 0x0030, 1, 1, 16, 0, .ro, .basic, .oper, .any, 0⟩,
   ⟨0x13, 0, 0, 0x0031, 1, 1, 1, 0, .rw, .basic, .policy, .any, 1⟩,
   ⟨0x13, 0, 0, 0x0032, 1, 1, 64, 0, .ro, .basic, .oper, .any, 0⟩,
   ⟨0x13, 0, 0, 0x0033, 1, 1, 14, 0, .ro, .basic, .oper, .any, 0⟩,
   ⟨0x13, 0, 0, 0x0040, 1, 1, 1, 0, .ro, .basic, .firmware, .any, 0⟩,
   ⟨0x13, 0, 0, 0x0041, 1, 1, 7, 0, .ro, .basic, .firmware, .any, 0⟩,
   ⟨0x13, 0, 0, 0x0042, 1, 1, 2, 0, .ro, .basic, .firmware, .any, 0⟩,
   ⟨0x13, 0, 0, 0x0043, 1, 1, 16, 0, .rw, .basic, .firmware, .range 100 60000, 10000⟩,
   ⟨0x13, 0, 0, 0x0100, 1, 1, 32, 0, .ro, .basic, .oper, .any, 0⟩,
   ⟨0x13, 0, 0, 0x0101, 1, 1, 32, 0, .ro, .basic, .oper, .any, 0⟩]

/-- The parameters of service 0x14 (24_parameter_groups.md and the service's chapter), in table order:
CAL.ELEMENT_STATE, CAL.TJ, CAL.TJ_VALID, CAL.PACE_RINGS, CAL.HOLDUP_LOAD, CAL.HOLDUP_UF, CAL.HOLDUP_MOHM, CAL.PACE01, CAL.PACE_MIN01, CAL.STALE_EVENTS. -/
def calDescs : List Desc :=
  [⟨0x14, 0, 0, 0x0010, 1, 1, 32, 0, .ro, .basic, .oper, .any, 0⟩,
   ⟨0x14, 0, 0, 0x0011, 1, 1, 16, 0, .ro, .basic, .oper, .any, 0⟩,
   ⟨0x14, 0, 0, 0x0012, 1, 1, 3, 0, .ro, .basic, .oper, .any, 0⟩,
   ⟨0x14, 0, 0, 0x0013, 1, 1, 42, 0, .ro, .basic, .oper, .any, 4398046511103⟩,
   ⟨0x14, 0, 0, 0x0020, 1, 1, 13, 0, .rw, .basic, .oper, .range 500 5000, 2000⟩,
   ⟨0x14, 0, 0, 0x0021, 1, 1, 16, 0, .ro, .basic, .oper, .any, 0⟩,
   ⟨0x14, 0, 0, 0x0022, 1, 1, 16, 0, .ro, .basic, .oper, .any, 0⟩,
   ⟨0x14, 0, 0, 0x0041, 21, 1, 16, 0, .ro, .basic, .oper, .any, 0⟩,
   ⟨0x14, 0, 0, 0x0061, 21, 1, 16, 0, .ro, .basic, .oper, .any, 65535⟩,
   ⟨0x14, 0, 0, 0x0100, 1, 1, 32, 0, .ro, .basic, .oper, .any, 0⟩]

/-- The parameters of service 0x15 (24_parameter_groups.md and the service's chapter), in table order:
TEST.TEST_EN, TEST.INSTRUCTION, TEST.PIN_DRIVEN, TEST.BIST_RUNS, TEST.BIST_FAILS, TEST.CAPTURE_BYTES. -/
def testDescs : List Desc :=
  [⟨0x15, 0, 0, 0x0010, 1, 1, 1, 0, .ro, .basic, .oper, .any, 0⟩,
   ⟨0x15, 0, 0, 0x0011, 1, 1, 8, 0, .ro, .basic, .oper, .any, 3⟩,
   ⟨0x15, 0, 0, 0x0012, 1, 1, 1, 0, .ro, .basic, .oper, .any, 0⟩,
   ⟨0x15, 0, 0, 0x0100, 1, 1, 32, 0, .ro, .basic, .oper, .any, 0⟩,
   ⟨0x15, 0, 0, 0x0101, 1, 1, 32, 0, .ro, .basic, .oper, .any, 0⟩,
   ⟨0x15, 0, 0, 0x0102, 1, 1, 21, 0, .ro, .basic, .oper, .any, 0⟩]

/-- The descriptors of one service (R495). -/
def descsOf : Nat → List Desc
  | 1 => devDescs
  | 2 => shellDescs
  | 3 => fresyDescs
  | 4 => ownDescs
  | 5 => spoolDescs
  | 6 => dramDescs
  | 7 => decodeDescs
  | 8 => compDescs
  | 9 => posDescs
  | 10 => fireDescs
  | 11 => headDescs
  | 12 => laneDescs
  | 13 => camDescs
  | 14 => inspDescs
  | 15 => causeDescs
  | 16 => packDescs
  | 17 => evtDescs
  | 18 => mgmtDescs
  | 19 => powerDescs
  | 20 => calDescs
  | 21 => testDescs
  | _ => []

namespace Par
/-! The ID of each parameter at its first unit and first index; `Par.at_` gives the ID of another unit. -/
/-- DEV.STRAIT_RESYNCS. -/
abbrev devStraitResyncs : Nat := 0x01000040
/-- DEV.STRAIT_DISCARDS. -/
abbrev devStraitDiscards : Nat := 0x01000041
/-- SPOOL.LEAD_TIME. -/
abbrev spoolLeadTime : Nat := 0x05000010
/-- SPOOL.DECODE_BUDGET. -/
abbrev spoolDecodeBudget : Nat := 0x05000011
/-- SPOOL.DRAM_RESERVABLE. -/
abbrev spoolDramReservable : Nat := 0x05000012
/-- SPOOL.DECODE_RESERVED. -/
abbrev spoolDecodeReserved : Nat := 0x05000013
/-- SPOOL.DRAM_RESERVED. -/
abbrev spoolDramReserved : Nat := 0x05000014
/-- FRESY.ETHERTYPE. -/
abbrev fresyEthertype : Nat := 0x03000010
/-- FRESY.RX_CREDIT. -/
abbrev fresyRxCredit : Nat := 0x03000011
/-- FRESY.PORT_SILENCE. -/
abbrev fresyPortSilence : Nat := 0x03000012
/-- FRESY.RIDE_THROUGH. -/
abbrev fresyRideThrough : Nat := 0x03000013
/-- FRESY.KEEPALIVE. -/
abbrev fresyKeepalive : Nat := 0x03000014
/-- FRESY[p].MAC. -/
abbrev fresyUMac : Nat := 0x03000020
/-- FRESY[p].MEDIUM. -/
abbrev fresyUMedium : Nat := 0x03000021
/-- FRESY[p].FEC. -/
abbrev fresyUFec : Nat := 0x03000022
/-- FRESY[p].VLAN_MODE. -/
abbrev fresyUVlanMode : Nat := 0x03000023
/-- FRESY[p].VID. -/
abbrev fresyUVid : Nat := 0x03000024
/-- FRESY[p].PCP. -/
abbrev fresyUPcp : Nat := 0x03000025
/-- FRESY[p].ENABLE. -/
abbrev fresyUEnable : Nat := 0x03000026
/-- FRESY[p].RX_FRAMES. -/
abbrev fresyURxFrames : Nat := 0x03000100
/-- FRESY[p].RX_BYTES. -/
abbrev fresyURxBytes : Nat := 0x03000101
/-- FRESY[p].TX_FRAMES. -/
abbrev fresyUTxFrames : Nat := 0x03000102
/-- FRESY[p].TX_BYTES. -/
abbrev fresyUTxBytes : Nat := 0x03000103
/-- FRESY[p].RX_FCS_ERR. -/
abbrev fresyURxFcsErr : Nat := 0x03000110
/-- FRESY[p].RX_SIZE_ERR. -/
abbrev fresyURxSizeErr : Nat := 0x03000111
/-- FRESY[p].RX_OTHER. -/
abbrev fresyURxOther : Nat := 0x03000112
/-- FRESY[p].RX_PAUSE. -/
abbrev fresyURxPause : Nat := 0x03000113
/-- FRESY[p].RX_FEC_CORR. -/
abbrev fresyURxFecCorr : Nat := 0x03000114
/-- FRESY[p].RX_FEC_UNCORR. -/
abbrev fresyURxFecUncorr : Nat := 0x03000115
/-- FRESY[p].RX_AUTH_FAIL. -/
abbrev fresyURxAuthFail : Nat := 0x03000116
/-- FRESY[p].RX_DUP. -/
abbrev fresyURxDup : Nat := 0x03000117
/-- FRESY[p].RX_WINDOW. -/
abbrev fresyURxWindow : Nat := 0x03000118
/-- FRESY[p].RX_CREDIT_VIOL. -/
abbrev fresyURxCreditViol : Nat := 0x03000119
/-- FRESY[p].TX_RETRANSMIT. -/
abbrev fresyUTxRetransmit : Nat := 0x0300011A
/-- FRESY[p].TX_GAVE_UP. -/
abbrev fresyUTxGaveUp : Nat := 0x0300011B
/-- FRESY[p].LINK_DOWNS. -/
abbrev fresyULinkDowns : Nat := 0x0300011C
/-- DEV.COMMIT_SEQ. -/
abbrev devCommitSeq : Nat := 0x01000042
/-- DEV.PIN_COUNT. -/
abbrev devPinCount : Nat := 0x01000043
/-- DEV.RESULTS_HELD. -/
abbrev devResultsHeld : Nat := 0x01000044
/-- OWN.HOLDER. -/
abbrev ownHolder : Nat := 0x04000010
/-- OWN.STATE. -/
abbrev ownState : Nat := 0x04000011
/-- OWN.LEASE_END. -/
abbrev ownLeaseEnd : Nat := 0x04000012
/-- OWN.LEASE_DEFAULT. -/
abbrev ownLeaseDefault : Nat := 0x04000013
/-- OWN.HANDOVER_WINDOW. -/
abbrev ownHandoverWindow : Nat := 0x04000014
/-- OWN.IDLE_LIMIT. -/
abbrev ownIdleLimit : Nat := 0x04000015
/-- OWN.MGMT_CLAIM. -/
abbrev ownMgmtClaim : Nat := 0x04000016
/-- OWN.OFFER_TARGET. -/
abbrev ownOfferTarget : Nat := 0x04000017
/-- OWN.CHANGES. -/
abbrev ownChanges : Nat := 0x04000018
/-- OWN[s].ROLE. -/
abbrev ownURole : Nat := 0x04000010
/-- SHELL.COMMISSION_STATE. -/
abbrev shellCommissionState : Nat := 0x02000010
/-- SHELL.SLOT_STATE. -/
abbrev shellSlotState : Nat := 0x02000011
/-- SHELL.SVN_FUSE. -/
abbrev shellSvnFuse : Nat := 0x02000012
/-- SHELL.SVN_COMMIT. -/
abbrev shellSvnCommit : Nat := 0x02000013
/-- SHELL.UTC_FLOOR. -/
abbrev shellUtcFloor : Nat := 0x02000014
/-- SHELL.JOB_KEYS. -/
abbrev shellJobKeys : Nat := 0x02000015
/-- SHELL.ENTROPY_STATE. -/
abbrev shellEntropyState : Nat := 0x02000016
/-- SHELL.TAMPER_COUNT. -/
abbrev shellTamperCount : Nat := 0x02000017
/-- SHELL.SLOT_DIGEST0. -/
abbrev shellSlotDigest0 : Nat := 0x02000020
/-- SHELL[s].JOBS_HELD. -/
abbrev shellUJobsHeld : Nat := 0x02000010
/-- SPOOL.MAX_SEGMENT_BYTES. -/
abbrev spoolMaxSegmentBytes : Nat := 0x05000015
/-- SPOOL.MAX_SEGMENT_LINES. -/
abbrev spoolMaxSegmentLines : Nat := 0x05000016
/-- SPOOL.PODS_TOTAL. -/
abbrev spoolPodsTotal : Nat := 0x05000017
/-- SPOOL.PODS_RESERVED. -/
abbrev spoolPodsReserved : Nat := 0x05000018
/-- SPOOL.PODS_FREE. -/
abbrev spoolPodsFree : Nat := 0x05000019
/-- SPOOL.KEEP_ENABLE. -/
abbrev spoolKeepEnable : Nat := 0x0500001A
/-- SPOOL.GROUP_WAIT. -/
abbrev spoolGroupWait : Nat := 0x0500001B
/-- SPOOL.SEG_ACCEPTED. -/
abbrev spoolSegAccepted : Nat := 0x05000100
/-- SPOOL.SEG_COMPLETE. -/
abbrev spoolSegComplete : Nat := 0x05000101
/-- SPOOL.SEG_BROKEN. -/
abbrev spoolSegBroken : Nat := 0x05000102
/-- SPOOL.SEG_CANCELLED. -/
abbrev spoolSegCancelled : Nat := 0x05000103
/-- SPOOL.SEG_REFUSED. -/
abbrev spoolSegRefused : Nat := 0x05000104
/-- SPOOL.LINES_PRINTED. -/
abbrev spoolLinesPrinted : Nat := 0x05000105
/-- SPOOL.LINES_NOT_PRINTED. -/
abbrev spoolLinesNotPrinted : Nat := 0x05000106
/-- SPOOL.PGO_UNSERVED. -/
abbrev spoolPgoUnserved : Nat := 0x05000107
/-- SPOOL.REPEATS. -/
abbrev spoolRepeats : Nat := 0x05000108
/-- HEAD[h].PLANE. -/
abbrev headUPlane : Nat := 0x0B000020
/-- HEAD[h].COL_FIRST. -/
abbrev headUColFirst : Nat := 0x0B000021
/-- HEAD[h].COL_COUNT. -/
abbrev headUColCount : Nat := 0x0B000022
/-- DECODE.INFLATE_IN_SERVICE. -/
abbrev decodeInflateInService : Nat := 0x07000010
/-- DECODE.CHECK_IN_SERVICE. -/
abbrev decodeCheckInService : Nat := 0x07000011
/-- DECODE.STRIPS_CHECKED. -/
abbrev decodeStripsChecked : Nat := 0x07000100
/-- DECODE.STRIPS_FAILED. -/
abbrev decodeStripsFailed : Nat := 0x07000101
/-- DECODE.RAW_DECODED. -/
abbrev decodeRawDecoded : Nat := 0x07000102
/-- DECODE.CHUNK_RESTARTS. -/
abbrev decodeChunkRestarts : Nat := 0x07000103
/-- HEAD[h].NOZ_PER_COL. -/
abbrev headUNozPerCol : Nat := 0x0B000023
/-- HEAD[h].PAIR_MODE. -/
abbrev headUPairMode : Nat := 0x0B000024
/-- HEAD[h].COL_REVERSE. -/
abbrev headUColReverse : Nat := 0x0B000025
/-- COMP[p].SOLO_TABLE. -/
abbrev compUSoloTable : Nat := 0x08000100
/-- COMP[p].BOOST_SHARE. -/
abbrev compUBoostShare : Nat := 0x08000101
/-- COMP[p].RAMP_KIND. -/
abbrev compURampKind : Nat := 0x08000102
/-- COMP[p].EAST_PEER. -/
abbrev compUEastPeer : Nat := 0x08000103
/-- COMP[p].EAST_FIRST. -/
abbrev compUEastFirst : Nat := 0x08000104
/-- COMP[p].EAST_COLS. -/
abbrev compUEastCols : Nat := 0x08000105
/-- COMP[p].WEST_PEER. -/
abbrev compUWestPeer : Nat := 0x08000106
/-- COMP[p].WEST_FIRST. -/
abbrev compUWestFirst : Nat := 0x08000107
/-- COMP[p].WEST_COLS. -/
abbrev compUWestCols : Nat := 0x08000108
/-- COMP.LOOP_ENABLE. -/
abbrev compLoopEnable : Nat := 0x08000010
/-- COMP.OUT_RATE_HEAD. -/
abbrev compOutRateHead : Nat := 0x08000011
/-- COMP.OUT_RATE_DEVICE. -/
abbrev compOutRateDevice : Nat := 0x08000012
/-- COMP.OUT_LIMIT_HEAD. -/
abbrev compOutLimitHead : Nat := 0x08000013
/-- COMP.RESTORE_DWELL. -/
abbrev compRestoreDwell : Nat := 0x08000014
/-- COMP.FLAP_LIMIT. -/
abbrev compFlapLimit : Nat := 0x08000015
/-- COMP.FLAP_WINDOW. -/
abbrev compFlapWindow : Nat := 0x08000016
/-- COMP.REMAP_DWELL. -/
abbrev compRemapDwell : Nat := 0x08000017
/-- COMP.REMAP_BAND. -/
abbrev compRemapBand : Nat := 0x08000018
/-- COMP.VERNIER_BAND. -/
abbrev compVernierBand : Nat := 0x08000019
/-- COMP.VERNIER_DWELL. -/
abbrev compVernierDwell : Nat := 0x0800001A
/-- COMP.STITCH_LEAD. -/
abbrev compStitchLead : Nat := 0x0800001B
/-- COMP.FB_TABLE_H0. -/
abbrev compFbTableH0 : Nat := 0x08000030
/-- COMP.TABLE0. -/
abbrev compTable0 : Nat := 0x08000040
/-- COMP.OUT_PER_HEAD. -/
abbrev compOutPerHead : Nat := 0x08000080
/-- COMP.DECLARED. -/
abbrev compDeclared : Nat := 0x08000081
/-- COMP.RESTORED. -/
abbrev compRestored : Nat := 0x08000082
/-- COMP.DEFERRED. -/
abbrev compDeferred : Nat := 0x08000083
/-- COMP.NOZZLE_PINS. -/
abbrev compNozzlePins : Nat := 0x08000084
/-- COMP.STITCH_LATE. -/
abbrev compStitchLate : Nat := 0x08000085
/-- COMP.CHART_SERIAL. -/
abbrev compChartSerial : Nat := 0x08000086
/-- POS.HIGH_WATER. -/
abbrev posHighWater : Nat := 0x09000010
/-- POS.POSITION. -/
abbrev posPosition : Nat := 0x09000011
/-- POS.CHANNELS. -/
abbrev posChannels : Nat := 0x09000012
/-- POS.ACTIVE. -/
abbrev posActive : Nat := 0x09000013
/-- POS.LINE_PITCH. -/
abbrev posLinePitch : Nat := 0x09000014
/-- POS.REV_TOL. -/
abbrev posRevTol : Nat := 0x09000015
/-- POS.SPEED_WINDOW. -/
abbrev posSpeedWindow : Nat := 0x09000016
/-- POS.LINE_RATE. -/
abbrev posLineRate : Nat := 0x09000017
/-- POS.XCHECK_LINES. -/
abbrev posXcheckLines : Nat := 0x09000018
/-- POS.XCHECK_TOL. -/
abbrev posXcheckTol : Nat := 0x09000019
/-- POS.XCHECK_STRIKES. -/
abbrev posXcheckStrikes : Nat := 0x0900001A
/-- POS.RECOVER_TIME. -/
abbrev posRecoverTime : Nat := 0x0900001B
/-- POS.REJ_UNSERVED. -/
abbrev posRejUnserved : Nat := 0x0900001C
/-- POS.REJ_FLAGGED. -/
abbrev posRejFlagged : Nat := 0x0900001D
/-- POS.REJ_ABS_OUT. -/
abbrev posRejAbsOut : Nat := 0x0900001E
/-- POS.REJ0_DISTANCE. -/
abbrev posRej0Distance : Nat := 0x09000030
/-- POS.REJ0_WIDTH. -/
abbrev posRej0Width : Nat := 0x09000031
/-- POS.REJ0_POLARITY. -/
abbrev posRej0Polarity : Nat := 0x09000032
/-- POS.PGO0_EDGE. -/
abbrev posPgo0Edge : Nat := 0x09000040
/-- POS.PGO0_DEBOUNCE. -/
abbrev posPgo0Debounce : Nat := 0x09000041
/-- POS.PGO0_LOCKOUT. -/
abbrev posPgo0Lockout : Nat := 0x09000042
/-- POS.PGO0_REJ_OUT. -/
abbrev posPgo0RejOut : Nat := 0x09000043
/-- POS[c].MODE. -/
abbrev posUMode : Nat := 0x09000100
/-- POS[c].COUNTS_PER_LINE. -/
abbrev posUCountsPerLine : Nat := 0x09000101
/-- POS[c].DIR_INVERT. -/
abbrev posUDirInvert : Nat := 0x09000102
/-- POS[c].FILTER. -/
abbrev posUFilter : Nat := 0x09000103
/-- POS[c].AMP_NOMINAL. -/
abbrev posUAmpNominal : Nat := 0x09000104
/-- POS[c].AMP_LOW. -/
abbrev posUAmpLow : Nat := 0x09000105
/-- POS[c].AMP_HIGH. -/
abbrev posUAmpHigh : Nat := 0x09000106
/-- POS[c].INDEX_PERIOD. -/
abbrev posUIndexPeriod : Nat := 0x09000107
/-- POS[c].INDEX_TOL. -/
abbrev posUIndexTol : Nat := 0x09000108
/-- POS[c].INDEX_RESNAP. -/
abbrev posUIndexResnap : Nat := 0x09000109
/-- POS[c].STATE. -/
abbrev posUState : Nat := 0x09000110
/-- POS[c].FAULT. -/
abbrev posUFault : Nat := 0x09000111
/-- POS[c].COUNT. -/
abbrev posUCount : Nat := 0x09000112
/-- POS[c].SPEED. -/
abbrev posUSpeed : Nat := 0x09000113
/-- POS[c].INDEX_DEV. -/
abbrev posUIndexDev : Nat := 0x09000114
/-- POS[c].INDEX_SMALL. -/
abbrev posUIndexSmall : Nat := 0x09000115
/-- POS[c].AMPLITUDE. -/
abbrev posUAmplitude : Nat := 0x09000116
/-- POS.REV_SMALL. -/
abbrev posRevSmall : Nat := 0x09000200
/-- POS.REV_LARGE. -/
abbrev posRevLarge : Nat := 0x09000201
/-- POS.SWITCHOVERS. -/
abbrev posSwitchovers : Nat := 0x09000202
/-- POS.XCHECK_FAILS. -/
abbrev posXcheckFails : Nat := 0x09000203
/-- POS.RESNAPS. -/
abbrev posResnaps : Nat := 0x09000204
/-- POS.PGO_EDGES. -/
abbrev posPgoEdges : Nat := 0x09000205
/-- POS.PGO_FILTERED. -/
abbrev posPgoFiltered : Nat := 0x09000206
/-- POS.REJ_PULSES. -/
abbrev posRejPulses : Nat := 0x09000207
/-- POS.REJ_LATE. -/
abbrev posRejLate : Nat := 0x09000208
/-- FIRE.FIRE_DELAY. -/
abbrev fireFireDelay : Nat := 0x0A000010
/-- FIRE[h].LINE_OFFSET. -/
abbrev fireULineOffset : Nat := 0x0A000020
/-- FIRE[h].LINES_FIRED. -/
abbrev fireULinesFired : Nat := 0x0A000100
/-- FIRE[h].LINES_DEFERRED. -/
abbrev fireULinesDeferred : Nat := 0x0A000101
/-- FIRE[h].LINES_SKIPPED. -/
abbrev fireULinesSkipped : Nat := 0x0A000102
/-- FIRE[h].PHASES_MISSING. -/
abbrev fireUPhasesMissing : Nat := 0x0A000103
/-- FIRE[h].GATE_BREAKS. -/
abbrev fireUGateBreaks : Nat := 0x0A000104
/-- HEAD[h].STATE. -/
abbrev headUState : Nat := 0x0B000010
/-- HEAD[h].IDENTITY. -/
abbrev headUIdentity : Nat := 0x0B000011
/-- HEAD[h].MAX_LINE_RATE. -/
abbrev headUMaxLineRate : Nat := 0x0B000012
/-- HEAD[h].SLOTS. -/
abbrev headUSlots : Nat := 0x0B000013
/-- HEAD[h].RANK. -/
abbrev headURank : Nat := 0x0B000014
/-- HEAD[h].AUTO_POWER. -/
abbrev headUAutoPower : Nat := 0x0B000016
/-- HEAD[h].POWER. -/
abbrev headUPower : Nat := 0x0B000017
/-- HEAD[h].DEPTH. -/
abbrev headUDepth : Nat := 0x0B000040
/-- HEAD[h].LANE_MODE. -/
abbrev headULaneMode : Nat := 0x0B000041
/-- HEAD[h].TEMP. -/
abbrev headUTemp : Nat := 0x0B000050
/-- HEAD[h].TEMP_SET. -/
abbrev headUTempSet : Nat := 0x0B000051
/-- HEAD[h].TEMP_WARN. -/
abbrev headUTempWarn : Nat := 0x0B000052
/-- HEAD[h].TEMP_LIMIT. -/
abbrev headUTempLimit : Nat := 0x0B000053
/-- HEAD[h].PREHEAT. -/
abbrev headUPreheat : Nat := 0x0B000054
/-- HEAD[h].WARN_CAP. -/
abbrev headUWarnCap : Nat := 0x0B000055
/-- HEAD[h].TEMP_STAGE. -/
abbrev headUTempStage : Nat := 0x0B000056
/-- HEAD[h].RECIPE. -/
abbrev headURecipe : Nat := 0x0B000060
/-- HEAD[h].MSG_ERRORS. -/
abbrev headUMsgErrors : Nat := 0x0B000100
/-- POS.GATE0_ROLE. -/
abbrev posGate0Role : Nat := 0x09000060
/-- POS.GATE0_POLARITY. -/
abbrev posGate0Polarity : Nat := 0x09000061
/-- POS.GATE0_HEADS. -/
abbrev posGate0Heads : Nat := 0x09000062
/-- POS.GATE0_FILTER. -/
abbrev posGate0Filter : Nat := 0x09000063
/-- LANE.RESTORE_HOLD. -/
abbrev laneRestoreHold : Nat := 0x0C000010
/-- LANE.FLAP_LIMIT. -/
abbrev laneFlapLimit : Nat := 0x0C000011
/-- LANE.FLAP_WINDOW. -/
abbrev laneFlapWindow : Nat := 0x0C000012
/-- LANE.ERR_LIMIT. -/
abbrev laneErrLimit : Nat := 0x0C000013
/-- LANE[u].STATE. -/
abbrev laneUState : Nat := 0x0C000020
/-- LANE[u].REASON. -/
abbrev laneUReason : Nat := 0x0C000021
/-- LANE[u].RATE. -/
abbrev laneURate : Nat := 0x0C000022
/-- LANE[u].PAYLOAD_RATE. -/
abbrev laneUPayloadRate : Nat := 0x0C000023
/-- LANE[u].LATENCY. -/
abbrev laneULatency : Nat := 0x0C000024
/-- LANE[u].PN_INVERTED. -/
abbrev laneUPnInverted : Nat := 0x0C000025
/-- LANE[u].SWAPPED. -/
abbrev laneUSwapped : Nat := 0x0C000026
/-- LANE[u].CTLE. -/
abbrev laneUCtle : Nat := 0x0C000027
/-- LANE[u].CTLE_FORCE. -/
abbrev laneUCtleForce : Nat := 0x0C000028
/-- LANE[u].TX_SWING. -/
abbrev laneUTxSwing : Nat := 0x0C000029
/-- LANE[u].TX_DEEMPH. -/
abbrev laneUTxDeemph : Nat := 0x0C00002A
/-- LANE[u].EBUF_FILL. -/
abbrev laneUEbufFill : Nat := 0x0C00002B
/-- LANE[u].HEADER_ERR. -/
abbrev laneUHeaderErr : Nat := 0x0C000100
/-- LANE[u].MARKER_ERR. -/
abbrev laneUMarkerErr : Nat := 0x0C000101
/-- LANE[u].CRC_FAIL. -/
abbrev laneUCrcFail : Nat := 0x0C000102
/-- LANE[u].FRAME_GAP. -/
abbrev laneUFrameGap : Nat := 0x0C000103
/-- LANE[u].SEED_RESYNC. -/
abbrev laneUSeedResync : Nat := 0x0C000104
/-- LANE[u].FILL_DELETED. -/
abbrev laneUFillDeleted : Nat := 0x0C000105
/-- LANE[u].FILL_ADDED. -/
abbrev laneUFillAdded : Nat := 0x0C000106
/-- LANE[u].DOWNS. -/
abbrev laneUDowns : Nat := 0x0C000107
/-- CAM.BUFFER_PODS. -/
abbrev camBufferPods : Nat := 0x0D000010
/-- CAM[c].ENABLE. -/
abbrev camUEnable : Nat := 0x0D000020
/-- CAM[c].AGGREGATE. -/
abbrev camUAggregate : Nat := 0x0D000021
/-- CAM[c].CXP_SPEED. -/
abbrev camUCxpSpeed : Nat := 0x0D000022
/-- CAM[c].TRIG_OUT. -/
abbrev camUTrigOut : Nat := 0x0D000023
/-- CAM[c].TRIG_POLARITY. -/
abbrev camUTrigPolarity : Nat := 0x0D000024
/-- CAM[c].TRIG_MAX_RATE. -/
abbrev camUTrigMaxRate : Nat := 0x0D000025
/-- CAM[c].LINE_WINDOW. -/
abbrev camULineWindow : Nat := 0x0D000026
/-- CAM[c].WIDTH. -/
abbrev camUWidth : Nat := 0x0D000030
/-- CAM[c].PIXEL_BITS. -/
abbrev camUPixelBits : Nat := 0x0D000031
/-- CAM[c].FRAME_LINES. -/
abbrev camUFrameLines : Nat := 0x0D000032
/-- CAM[c].TRIG_PITCH. -/
abbrev camUTrigPitch : Nat := 0x0D000033
/-- CAM[c].EXPOSURE_A. -/
abbrev camUExposureA : Nat := 0x0D000034
/-- CAM[c].EXPOSURE_B. -/
abbrev camUExposureB : Nat := 0x0D000035
/-- CAM[c].MERGE_KNEE. -/
abbrev camUMergeKnee : Nat := 0x0D000036
/-- CAM[c].MERGE_SHIFT. -/
abbrev camUMergeShift : Nat := 0x0D000037
/-- CAM[c].LIN_KNOTS. -/
abbrev camULinKnots : Nat := 0x0D000040
/-- CAM[c].BLACK. -/
abbrev camUBlack : Nat := 0x0D000041
/-- CAM[c].DEFECT_COUNT. -/
abbrev camUDefectCount : Nat := 0x0D000042
/-- CAM[c].DEFECTS. -/
abbrev camUDefects : Nat := 0x0D000043
/-- CAM[c].SHADE0. -/
abbrev camUShade0 : Nat := 0x0D000050
/-- CAM[c].MOSAIC_SIZE. -/
abbrev camUMosaicSize : Nat := 0x0D000060
/-- CAM[c].MOSAIC. -/
abbrev camUMosaic : Nat := 0x0D000061
/-- CAM[c].SEP_ENABLE. -/
abbrev camUSepEnable : Nat := 0x0D000062
/-- CAM[c].SEP_MATRIX. -/
abbrev camUSepMatrix : Nat := 0x0D000063
/-- CAM[c].FRAMES. -/
abbrev camUFrames : Nat := 0x0D000100
/-- CAM[c].FRAMES_UNBUFFERED. -/
abbrev camUFramesUnbuffered : Nat := 0x0D000101
/-- CAM[c].LINES_LOST. -/
abbrev camULinesLost : Nat := 0x0D000102
/-- CAM[c].LINES_EXTRA. -/
abbrev camULinesExtra : Nat := 0x0D000103
/-- CAM[c].LINES_DISCARDED. -/
abbrev camULinesDiscarded : Nat := 0x0D000104
/-- CAM[c].TRIG_SKIPPED. -/
abbrev camUTrigSkipped : Nat := 0x0D000105
/-- CAM[c].REALIGNS. -/
abbrev camURealigns : Nat := 0x0D000106
/-- CAM[c].PACKET_ERR. -/
abbrev camUPacketErr : Nat := 0x0D000107
/-- CAM[c].LINK_DOWNS. -/
abbrev camULinkDowns : Nat := 0x0D000108
/-- INSP.DROP_MASS. -/
abbrev inspDropMass : Nat := 0x0E000010
/-- INSP.SPREAD. -/
abbrev inspSpread : Nat := 0x0E000011
/-- INSP.REG_TILES. -/
abbrev inspRegTiles : Nat := 0x0E000012
/-- INSP.REG_CONTRAST. -/
abbrev inspRegContrast : Nat := 0x0E000013
/-- INSP.REG_LOSS_FRAMES. -/
abbrev inspRegLossFrames : Nat := 0x0E000014
/-- INSP.QUEUE_FRAMES. -/
abbrev inspQueueFrames : Nat := 0x0E000015
/-- INSP.HOLD_FRAMES. -/
abbrev inspHoldFrames : Nat := 0x0E000016
/-- INSP.COVER_ALARM. -/
abbrev inspCoverAlarm : Nat := 0x0E000017
/-- INSP.REJ_UNINSPECTED. -/
abbrev inspRejUninspected : Nat := 0x0E000018
/-- INSP.VIEW0_PLANES. -/
abbrev inspView0Planes : Nat := 0x0E000020
/-- INSP.VIEW0_COL0. -/
abbrev inspView0Col0 : Nat := 0x0E000021
/-- INSP.VIEW0_SCALE. -/
abbrev inspView0Scale : Nat := 0x0E000022
/-- INSP.VIEW0_DISTANCE. -/
abbrev inspView0Distance : Nat := 0x0E000023
/-- INSP.VIEW0_WHITE. -/
abbrev inspView0White : Nat := 0x0E000024
/-- INSP.VIEW0_INK. -/
abbrev inspView0Ink : Nat := 0x0E000025
/-- INSP.VIEW0_PRIMARY. -/
abbrev inspView0Primary : Nat := 0x0E000026
/-- INSP.NOZ_MIN_COVER. -/
abbrev inspNozMinCover : Nat := 0x0E000060
/-- INSP.NOZ_MIN_LINES. -/
abbrev inspNozMinLines : Nat := 0x0E000061
/-- INSP.NOZ_THRESH. -/
abbrev inspNozThresh : Nat := 0x0E000062
/-- INSP.NOZ_CLEAR. -/
abbrev inspNozClear : Nat := 0x0E000063
/-- INSP.WATCH_AT. -/
abbrev inspWatchAt : Nat := 0x0E000064
/-- INSP.OUT_AT. -/
abbrev inspOutAt : Nat := 0x0E000065
/-- INSP.PROBE_LINES. -/
abbrev inspProbeLines : Nat := 0x0E000066
/-- INSP.DENS_TOL. -/
abbrev inspDensTol : Nat := 0x0E000067
/-- INSP.DENS_LINES. -/
abbrev inspDensLines : Nat := 0x0E000068
/-- INSP.ALIGN_TOL. -/
abbrev inspAlignTol : Nat := 0x0E000069
/-- INSP.ALIGN_EDGES. -/
abbrev inspAlignEdges : Nat := 0x0E00006A
/-- INSP.CHART_PRINT. -/
abbrev inspChartPrint : Nat := 0x0E00006B
/-- INSP.DENS_TARGET_P0. -/
abbrev inspDensTargetP0 : Nat := 0x0E00006C
/-- INSP.CLASS1. -/
abbrev inspClass1 : Nat := 0x0E000070
/-- INSP.FRAMES_ANALYSED. -/
abbrev inspFramesAnalysed : Nat := 0x0E000100
/-- INSP.FRAMES_SKIPPED. -/
abbrev inspFramesSkipped : Nat := 0x0E000101
/-- INSP.FRAMES_UNREGISTERED. -/
abbrev inspFramesUnregistered : Nat := 0x0E000102
/-- INSP.DEFECTS. -/
abbrev inspDefects : Nat := 0x0E000103
/-- INSP.REJECTS. -/
abbrev inspRejects : Nat := 0x0E000104
/-- INSP.PROBES. -/
abbrev inspProbes : Nat := 0x0E000105
/-- INSP.MEASUREMENTS. -/
abbrev inspMeasurements : Nat := 0x0E000106
/-- CAUSE.ENUMERATOR. -/
abbrev causeEnumerator : Nat := 0x0F000010
/-- CAUSE.ENUM_WAIT. -/
abbrev causeEnumWait : Nat := 0x0F000011
/-- CAUSE.POS_SOURCE. -/
abbrev causePosSource : Nat := 0x0F000012
/-- CAUSE.POS_PERIOD. -/
abbrev causePosPeriod : Nat := 0x0F000013
/-- CAUSE.POS_TIMEOUT. -/
abbrev causePosTimeout : Nat := 0x0F000014
/-- CAUSE.EXTRAP_MAX. -/
abbrev causeExtrapMax : Nat := 0x0F000015
/-- CAUSE.TIME_HOLDOVER. -/
abbrev causeTimeHoldover : Nat := 0x0F000016
/-- CAUSE.PATH_TIMEOUT. -/
abbrev causePathTimeout : Nat := 0x0F000017
/-- CAUSE.ADDRESS. -/
abbrev causeAddress : Nat := 0x0F000020
/-- CAUSE.MEMBERS. -/
abbrev causeMembers : Nat := 0x0F000021
/-- CAUSE.GENERATION. -/
abbrev causeGeneration : Nat := 0x0F000022
/-- CAUSE.RING_TIME. -/
abbrev causeRingTime : Nat := 0x0F000023
/-- CAUSE.TIME_SOURCE. -/
abbrev causeTimeSource : Nat := 0x0F000024
/-- CAUSE.TIME_DIST. -/
abbrev causeTimeDist : Nat := 0x0F000025
/-- CAUSE.AUTH_FAIL. -/
abbrev causeAuthFail : Nat := 0x0F000100
/-- CAUSE.DUPLICATES. -/
abbrev causeDuplicates : Nat := 0x0F000101
/-- CAUSE.TIME_SWITCHES. -/
abbrev causeTimeSwitches : Nat := 0x0F000102
/-- CAUSE.POS_TIMEOUTS. -/
abbrev causePosTimeouts : Nat := 0x0F000103
/-- CAUSE.LATE_LINES. -/
abbrev causeLateLines : Nat := 0x0F000104
/-- CAUSE.PREPARE_IGNORED. -/
abbrev causePrepareIgnored : Nat := 0x0F000105
/-- CAUSE.ENUMERATIONS. -/
abbrev causeEnumerations : Nat := 0x0F000106
/-- DRAM.RATE. -/
abbrev dramRate : Nat := 0x06000010
/-- DRAM.CHANNELS. -/
abbrev dramChannels : Nat := 0x06000011
/-- DRAM.RANKS. -/
abbrev dramRanks : Nat := 0x06000012
/-- DRAM.DENSITY. -/
abbrev dramDensity : Nat := 0x06000013
/-- DRAM.CAPACITY. -/
abbrev dramCapacity : Nat := 0x06000014
/-- DRAM.PEAK. -/
abbrev dramPeak : Nat := 0x06000015
/-- DRAM.STATE. -/
abbrev dramState : Nat := 0x06000016
/-- DRAM.HUSK_MODE. -/
abbrev dramHuskMode : Nat := 0x06000020
/-- DRAM.SCRUB_PERIOD. -/
abbrev dramScrubPeriod : Nat := 0x06000021
/-- DRAM.CE_POD_LIMIT. -/
abbrev dramCePodLimit : Nat := 0x06000022
/-- DRAM.CE_ALARM. -/
abbrev dramCeAlarm : Nat := 0x06000023
/-- DRAM.SCRUB_PROGRESS. -/
abbrev dramScrubProgress : Nat := 0x06000024
/-- DRAM[s].STATE. -/
abbrev dramUState : Nat := 0x06000100
/-- DRAM[s].PD_TIMER. -/
abbrev dramUPdTimer : Nat := 0x06000101
/-- DRAM[s].CORRECTED1. -/
abbrev dramUCorrected1 : Nat := 0x06000200
/-- DRAM[s].CORRECTED2. -/
abbrev dramUCorrected2 : Nat := 0x06000201
/-- DRAM[s].UNCORRECTABLE. -/
abbrev dramUUncorrectable : Nat := 0x06000202
/-- DRAM[s].TAG_FAIL. -/
abbrev dramUTagFail : Nat := 0x06000203
/-- DRAM[s].FORWARDED. -/
abbrev dramUForwarded : Nat := 0x06000204
/-- DRAM[s].DRAINS. -/
abbrev dramUDrains : Nat := 0x06000205
/-- DRAM[s].LATE. -/
abbrev dramULate : Nat := 0x06000206
/-- DRAM[s].RETRAINS. -/
abbrev dramURetrains : Nat := 0x06000207
/-- DRAM[s].DRIFT_HIGH. -/
abbrev dramUDriftHigh : Nat := 0x06000208
/-- DRAM[s].SCRUB_DROPPED. -/
abbrev dramUScrubDropped : Nat := 0x06000209
/-- DRAM.SCRUB_PASSES. -/
abbrev dramScrubPasses : Nat := 0x06000300
/-- DRAM.ONCHIP_CORRECTED. -/
abbrev dramOnchipCorrected : Nat := 0x06000301
/-- DRAM.ONCHIP_UNCORRECTABLE. -/
abbrev dramOnchipUncorrectable : Nat := 0x06000302
/-- PACK.JOBS. -/
abbrev packJobs : Nat := 0x10000100
/-- PACK.BYTES_IN. -/
abbrev packBytesIn : Nat := 0x10000101
/-- PACK.BYTES_OUT. -/
abbrev packBytesOut : Nat := 0x10000102
/-- PACK.FAIL_FULL. -/
abbrev packFailFull : Nat := 0x10000103
/-- PACK.FAIL_GAIN. -/
abbrev packFailGain : Nat := 0x10000104
/-- PACK.FAIL_DATA. -/
abbrev packFailData : Nat := 0x10000105
/-- PACK.QUEUED. -/
abbrev packQueued : Nat := 0x10000106
/-- EVT.LATCHED. -/
abbrev evtLatched : Nat := 0x11000010
/-- EVT.NEXT_SEQ. -/
abbrev evtNextSeq : Nat := 0x11000011
/-- EVT.PIN0_MASK. -/
abbrev evtPin0Mask : Nat := 0x11000020
/-- EVT.RING_MASK. -/
abbrev evtRingMask : Nat := 0x11000024
/-- EVT.PULSE_WIDTH. -/
abbrev evtPulseWidth : Nat := 0x11000025
/-- EVT.RAISED. -/
abbrev evtRaised : Nat := 0x11000100
/-- EVT.SUPPRESSED. -/
abbrev evtSuppressed : Nat := 0x11000101
/-- EVT.QUEUE_DROPPED. -/
abbrev evtQueueDropped : Nat := 0x11000102
/-- MGMT.CLASS_TH. -/
abbrev mgmtClassTh : Nat := 0x12000010
/-- MGMT.CLASS_TM. -/
abbrev mgmtClassTm : Nat := 0x12000011
/-- MGMT.ATTN_MASK. -/
abbrev mgmtAttnMask : Nat := 0x12000012
/-- MGMT.PROTOCOL_ERRORS. -/
abbrev mgmtProtocolErrors : Nat := 0x12000100
/-- MGMT.SIDE_RESETS. -/
abbrev mgmtSideResets : Nat := 0x12000101
/-- MGMT.HOST_RESETS. -/
abbrev mgmtHostResets : Nat := 0x12000102
/-- POWER.PHASE. -/
abbrev powerPhase : Nat := 0x13000010
/-- POWER.RESET_KIND. -/
abbrev powerResetKind : Nat := 0x13000011
/-- POWER.VDD_CORE_SET. -/
abbrev powerVddCoreSet : Nat := 0x13000020
/-- POWER.VDD_CORE. -/
abbrev powerVddCore : Nat := 0x13000021
/-- POWER.HOLD_MV. -/
abbrev powerHoldMv : Nat := 0x13000030
/-- POWER.SAG_REJECT. -/
abbrev powerSagReject : Nat := 0x13000031
/-- POWER.SAVE_SEQ. -/
abbrev powerSaveSeq : Nat := 0x13000032
/-- POWER.JOURNAL_FILL. -/
abbrev powerJournalFill : Nat := 0x13000033
/-- POWER.RUNNING_BANK. -/
abbrev powerRunningBank : Nat := 0x13000040
/-- POWER.RUNNING_SVN. -/
abbrev powerRunningSvn : Nat := 0x13000041
/-- POWER.STAGED. -/
abbrev powerStaged : Nat := 0x13000042
/-- POWER.FW_GAP_WAIT. -/
abbrev powerFwGapWait : Nat := 0x13000043
/-- POWER.SAG_GLITCHES. -/
abbrev powerSagGlitches : Nat := 0x13000100
/-- POWER.CHECKPOINTS. -/
abbrev powerCheckpoints : Nat := 0x13000101
/-- CAL.ELEMENT_STATE. -/
abbrev calElementState : Nat := 0x14000010
/-- CAL.TJ. -/
abbrev calTj : Nat := 0x14000011
/-- CAL.TJ_VALID. -/
abbrev calTjValid : Nat := 0x14000012
/-- CAL.PACE_RINGS. -/
abbrev calPaceRings : Nat := 0x14000013
/-- CAL.HOLDUP_LOAD. -/
abbrev calHoldupLoad : Nat := 0x14000020
/-- CAL.HOLDUP_UF. -/
abbrev calHoldupUf : Nat := 0x14000021
/-- CAL.HOLDUP_MOHM. -/
abbrev calHoldupMohm : Nat := 0x14000022
/-- CAL.PACE01. -/
abbrev calPace01 : Nat := 0x14000041
/-- CAL.PACE_MIN01. -/
abbrev calPaceMin01 : Nat := 0x14000061
/-- CAL.STALE_EVENTS. -/
abbrev calStaleEvents : Nat := 0x14000100
/-- DEV.PART. -/
abbrev devPart : Nat := 0x01000010
/-- DEV.STEPPING. -/
abbrev devStepping : Nat := 0x01000011
/-- DEV.IDCODE. -/
abbrev devIdcode : Nat := 0x01000012
/-- DEV.SERIAL. -/
abbrev devSerial : Nat := 0x01000013
/-- DEV.FW_VERSION. -/
abbrev devFwVersion : Nat := 0x01000014
/-- DEV.STATE. -/
abbrev devState : Nat := 0x01000015
/-- DEV.UPTIME. -/
abbrev devUptime : Nat := 0x01000016
/-- DEV.PARAM_COUNT. -/
abbrev devParamCount : Nat := 0x01000017
/-- DEV.SVC_STATE01. -/
abbrev devSvcState01 : Nat := 0x01000021
/-- SHELL[s].EPOCH. -/
abbrev shellUEpoch : Nat := 0x02000011
/-- SHELL[s].TXC. -/
abbrev shellUTxc : Nat := 0x02000012
/-- SHELL[s].RX_TXC. -/
abbrev shellURxTxc : Nat := 0x02000013
/-- SHELL[s].REKEYS. -/
abbrev shellURekeys : Nat := 0x02000014
/-- SHELL[s].CERT_KEY. -/
abbrev shellUCertKey : Nat := 0x02000015
/-- OWN[s].PORTS. -/
abbrev ownUPorts : Nat := 0x04000011
/-- OWN[s].OPENED. -/
abbrev ownUOpened : Nat := 0x04000012
/-- OWN[s].LAST_CMD. -/
abbrev ownULastCmd : Nat := 0x04000013
/-- OWN[s].INFLIGHT. -/
abbrev ownUInflight : Nat := 0x04000014
/-- OWN[s].RESULTS. -/
abbrev ownUResults : Nat := 0x04000015
/-- OWN[s].STAGED. -/
abbrev ownUStaged : Nat := 0x04000016
/-- OWN[s].SUBSCRIBED. -/
abbrev ownUSubscribed : Nat := 0x04000017
/-- OWN[s].COMMANDS. -/
abbrev ownUCommands : Nat := 0x04000018
/-- FIRE[h].LINES_FLAGGED. -/
abbrev fireULinesFlagged : Nat := 0x0A000105
/-- FIRE[h].LINES_BROKEN. -/
abbrev fireULinesBroken : Nat := 0x0A000106
/-- HEAD[h].TEMP_MAX. -/
abbrev headUTempMax : Nat := 0x0B000101
/-- HEAD[h].ATTACHES. -/
abbrev headUAttaches : Nat := 0x0B000102
/-- HEAD[h].STATUS_GAPS. -/
abbrev headUStatusGaps : Nat := 0x0B000103
/-- HEAD[h].TABLE_RESENDS. -/
abbrev headUTableResends : Nat := 0x0B000104
/-- HEAD[h].WARN_LINES. -/
abbrev headUWarnLines : Nat := 0x0B000105
/-- HEAD[h].LIMIT_LINES. -/
abbrev headULimitLines : Nat := 0x0B000106
/-- LANE[u].EYE_HEIGHT. -/
abbrev laneUEyeHeight : Nat := 0x0C000030
/-- LANE[u].EYE_WIDTH. -/
abbrev laneUEyeWidth : Nat := 0x0C000031
/-- LANE[u].FREQ_OFFSET. -/
abbrev laneUFreqOffset : Nat := 0x0C000032
/-- LANE[u].UP_SINCE. -/
abbrev laneUUpSince : Nat := 0x0C000033
/-- LANE[u].DOWN_AT. -/
abbrev laneUDownAt : Nat := 0x0C000034
/-- LANE[u].FLAPS. -/
abbrev laneUFlaps : Nat := 0x0C000035
/-- LANE[u].FRAMES_TX. -/
abbrev laneUFramesTx : Nat := 0x0C000108
/-- LANE[u].FRAMES_RX. -/
abbrev laneUFramesRx : Nat := 0x0C000109
/-- LANE[u].GO_TX. -/
abbrev laneUGoTx : Nat := 0x0C00010A
/-- LANE[u].GATE_TX. -/
abbrev laneUGateTx : Nat := 0x0C00010B
/-- LANE[u].TRAININGS. -/
abbrev laneUTrainings : Nat := 0x0C00010C
/-- LANE[u].LOOP_RUNS. -/
abbrev laneULoopRuns : Nat := 0x0C00010D
/-- EVT.COUNT000. -/
abbrev evtCount000 : Nat := 0x11000200
/-- TEST.TEST_EN. -/
abbrev testTestEn : Nat := 0x15000010
/-- TEST.INSTRUCTION. -/
abbrev testInstruction : Nat := 0x15000011
/-- TEST.PIN_DRIVEN. -/
abbrev testPinDriven : Nat := 0x15000012
/-- TEST.BIST_RUNS. -/
abbrev testBistRuns : Nat := 0x15000100
/-- TEST.BIST_FAILS. -/
abbrev testBistFails : Nat := 0x15000101
/-- TEST.CAPTURE_BYTES. -/
abbrev testCaptureBytes : Nat := 0x15000102
end Par

/-- A parameter's ID at a unit. -/
def Par.at_ (id unit : Nat) : Nat := id + unit * 0x10000

/-- A parameter's ID at the `k`-th index of its run. -/
def Par.nth (id stride k : Nat) : Nat := id + stride * k

/-- The fields of an ID (R5): service, unit and index. -/
def idSvc (id : Nat) : Nat := id / 0x1000000
def idUnit (id : Nat) : Nat := id / 0x10000 % 256
def idIdx (id : Nat) : Nat := id % 0x10000

/-- Whether a descriptor gives an index to a unit (R495). -/
def Desc.covers (d : Desc) (unit idx : Nat) : Bool :=
  d.lo ≤ unit && unit ≤ d.hi && d.idx ≤ idx && (idx - d.idx) % d.stride == 0 && (idx - d.idx) / d.stride < d.n

/-- The descriptor of an ID, if the device holds the parameter (R495). -/
def descOf (id : Nat) : Option Desc := (descsOf (idSvc id)).find? (fun d => d.covers (idUnit id) (idIdx id))

/-- Whether R5 lists a unit for a service. -/
def unitListed (svc unit : Nat) : Bool :=
  match svc with
  | 0x02 | 0x04 => unit ≤ 16
  | 0x03 | 0x08 | 0x0D | 0x06 => unit ≤ 3
  | 0x09 => unit ≤ 1
  | 0x0A | 0x0B => unit ≤ 15
  | 0x0C => unit ≤ 35
  | _ => unit == 0

/-- VLEN of a parameter (R88). -/
def Desc.vlen (d : Desc) : Nat :=
  if d.bytes ≠ 0 then d.bytes else if d.bits ≤ 8 then 1 else if d.bits ≤ 16 then 2 else if d.bits ≤ 32 then 4 else 8

/-- The number of value bits of a parameter. -/
def Desc.width (d : Desc) : Nat := if d.bytes ≠ 0 then 8 * d.bytes else d.bits

/-- The print-path services (R17). -/
def printPath (n : Nat) : Bool := [0x03, 0x02, 0x05, 0x06, 0x07, 0x08, 0x0A, 0x0C, 0x09, 0x0F].contains n

/-- Pace rings of a service (R16): two on the print path, one elsewhere. -/
def ringsOf (n : Nat) : Nat := if printPath n then 2 else 1

/-- The reset value of a parameter, where it differs by unit or index. -/
def resetVal (id : Nat) : Nat :=
  let i := idIdx id
  let u := idUnit id
  match idSvc id with
  | 0x0B => if i = 0x21 then 4096 * u else (descOf id).elim 0 Desc.reset
  | 0x0D => if i = 0x23 then u else (descOf id).elim 0 Desc.reset
  | 0x09 => if 0x40 ≤ i ∧ i ≤ 0x4F ∧ (i - 0x40) % 4 = 3 then (i - 0x43) / 4 % 2 else (descOf id).elim 0 Desc.reset
  | 0x08 => if 0x40 ≤ i ∧ i ≤ 0x4F then remapReset (i - 0x40) else (descOf id).elim 0 Desc.reset
  | 0x0E => if 0x70 ≤ i ∧ i ≤ 0x75 then classReset (i - 0x6F) else (descOf id).elim 0 Desc.reset
  | 0x11 => if i = 0x20 ∨ i = 0x24 then severeMask else (descOf id).elim 0 Desc.reset
  | 0x14 => if i = 0x13 then ((List.range 21).map (fun k => 4 ^ k * (2 ^ ringsOf (k + 1) - 1))).sum else (descOf id).elim 0 Desc.reset
  | _ => (descOf id).elim 0 Desc.reset

/-- Byte `i` of a table value. -/
def tByte (v i : Nat) : Nat := v / 256 ^ i % 256

/-- The 2-byte entry `i` of a table value. -/
def tWord (v i : Nat) : Nat := v / 65536 ^ i % 65536

/-- The form of a recipe (*Recipe level record*, *Pulse entry*): reserved bits are 0 (0x0103); NPRE is at most 4, NFIRE 1 or 2, each
pulse has a width, and the entries after the pulses are zero (0x0101). -/
def recipeForm (v : Nat) : Option Nat :=
  let recs := (List.range 7).map (fun l => v / 256 ^ (20 * l) % 256 ^ 20)
  let pulse := fun (r i : Nat) => bitsAt r (16 + 24 * i) 24
  let n := fun (r : Nat) => bitsAt r 0 3 + bitsAt r 4 2
  if recs.any (fun r => bitAt r 3 || bitsAt r 6 2 != 0 || bitsAt r 8 8 != 0 || (List.range 6).any (fun i => 2 ^ 18 ≤ pulse r i)) then
    some St.reservedNonzero
  else if recs.all (fun r => bitsAt r 0 3 ≤ 4 && 1 ≤ bitsAt r 4 2 && bitsAt r 4 2 ≤ 2 &&
      (List.range 6).all (fun i => if i < n r then 1 ≤ bitsAt (pulse r i) 10 8 else pulse r i == 0)) then none
  else some St.valueRange

/-- The check of a written value by the parameter's own definition (R90, R7): the status it draws, if any. -/
def Desc.check (d : Desc) (v : Nat) : Option Nat :=
  match d.rng with
  | .any => none
  | .range lo hi => if lo ≤ v ∧ v ≤ hi then none else some St.valueRange
  | .rangeOr lo hi w => if (lo ≤ v ∧ v ≤ hi) ∨ v = w then none else some St.valueRange
  | .step lo hi b => if lo ≤ v ∧ v ≤ hi ∧ (v - lo) % b = 0 then none else some St.valueRange
  | .enum n => if v < n then none else some St.badEnum
  | .enumFrom lo hi => if lo ≤ v ∧ v ≤ hi then none else some St.badEnum
  | .enumList vs => if vs.contains v then none else some St.badEnum
  | .nibbles n => if (List.range (2 * d.bytes)).all (fun i => bitsAt v (4 * i) 4 < n) then none else some St.badEnum
  | .channels => if (List.range 4).all (fun i => bitsAt v (4 * i) 4 < 5) then none else some St.badEnum
  | .levels n => if (List.range d.bytes).all (fun i => tByte v i < n) then none else some St.valueRange
  | .reserved bs => if bs.all (fun i => tByte v i == 0) then none else some St.reservedNonzero
  | .topBits => if (List.range (d.bytes / 2)).all (fun i => tWord v i < 0x8000) then none else some St.reservedNonzero
  | .dropMass => if tWord v 0 = 0 then none else some St.valueRange
  | .spread =>
    if tByte v 15 ≠ 0 then some St.reservedNonzero
    else if ((List.range 15).map (tByte v)).sum ≤ 256 then none else some St.valueRange
  | .classRec => if bitsAt v 2 6 = 0 ∧ tByte v 1 = 0 then none else some St.reservedNonzero
  | .recipe => recipeForm v

/-- The status that the ID of an entry draws (R89), if any: service, then unit, then index. -/
def idCheck (id : Nat) : Option Nat :=
  if idSvc id = 0 ∨ 0x15 < idSvc id then some St.unknownParameter
  else if !unitListed (idSvc id) (idUnit id) then some St.badUnit
  else if (descOf id).isNone then some St.unknownParameter
  else none

/-- LANE[u].RATE of a Causeway lane, which is read only (12_theal_lanes.md). -/
def fixedRate (id : Nat) : Bool := idSvc id == 0x0C && idIdx id == 0x22 && 32 ≤ idUnit id

/-- The status that a write entry draws for form (R89, R90, R7, R118): the ID, VLEN, read-only access, reserved bits,
then the range. OWN.HOLDER is closed to sessions. -/
def entryForm (id vlen v : Nat) : Option Nat :=
  match idCheck id with
  | some st => some st
  | none =>
    match descOf id with
    | none => some St.unknownParameter
    | some d =>
      if vlen ≠ d.vlen then some St.badLength
      else if d.access = .ro ∨ d.access = .claim then some St.readOnly
      else if fixedRate id then some St.readOnly
      else if 2 ^ d.width ≤ v then some St.reservedNonzero
      else d.check v

/-- Whether a role may change a parameter (R96, R130), by its level and class; Integrator alone for the parameters
whose definitions say so. -/
def mayWrite (role id : Nat) : Bool :=
  match descOf id with
  | none => false
  | some d =>
    mayChange role d.cls
    && (d.level == .basic || role == roleIntegrator || role == roleService || role == roleVendor)
    && (!(id == Par.ownMgmtClaim || id == Par.shellSvnCommit || id == Par.shellUtcFloor) || role == roleIntegrator)

/-- One entry of a stage or write request (R88). -/
structure WriteEntry where
  id : Nat
  vlen : Nat
  rsv : Nat
  value : Nat
deriving DecidableEq, Repr

/-- The entries of a stage or write body (R88). -/
def writeEntries : Nat → List Byte → List WriteEntry
  | 0, _ => []
  | n + 1, bs =>
    let vlen := leAt bs 4 2
    ⟨leAt bs 0 4, vlen, leAt bs 6 2, leNat ((bs.drop 8).take vlen)⟩ :: writeEntries n (bs.drop (8 + up4 vlen))

/-- The bytes that the entries of a stage or write body take. -/
def writeLen (es : List WriteEntry) : Nat := (es.map (fun e => 8 + up4 e.vlen)).sum

/-- Fixed-width little-endian values one after the other: the items of a list in a body. -/
def items (w : Nat) : Nat → List Byte → List Nat
  | 0, _ => []
  | n + 1, bs => leNat (bs.take w) :: items w n (bs.drop w)

/-- Whether a run of body bytes is zero. -/
def zeroAt (b : List Byte) (o n : Nat) : Bool := ((b.drop o).take n).all (· == 0)

end Sys2Proof.Machine
end

