-- ==== Sys2Proof/Machine/Words.lean ====
section
/-! DEFINITION. The words of Theal lanes (R293-R301): CRC-32, the scrambler, the placing of markers, fillers and frames on a
lane, and the bytes of the messages to a head (*Head messages*). -/
namespace Sys2Proof.Machine

/-! ## CRC-32 -/

/-- One bit step of the reflected CRC-32 of IEEE 802.3. -/
def crcStep (c : Nat) : Nat := if c % 2 = 1 then (c / 2) ^^^ 0xEDB88320 else c / 2

/-- One byte into a reflected CRC-32 register. -/
def crcByte (c : Nat) (b : Byte) : Nat :=
  crcStep (crcStep (crcStep (crcStep (crcStep (crcStep (crcStep (crcStep (c ^^^ b.toNat))))))))

/-- CRC-32 of IEEE 802.3 over bytes in order (RAW_CRC, bank select record, Theal and head memory). -/
def crc32 (bs : List Byte) : Nat := (bs.foldl crcByte 0xFFFFFFFF) ^^^ 0xFFFFFFFF

/-! ## The scrambler (R295, R296) -/

/-- One step of the scrambler: the new state and the bit. -/
def scrambleStep (st : Nat) : Nat × Nat :=
  let b := (st / 2 ^ 30 + st / 2 ^ 27) % 2
  ((2 * st + b) % 2 ^ 31, b)

/-- The next `n` scrambler bits from bit 0 upward, and the state after them. -/
def scrambleBits : Nat → Nat → Nat × Nat
  | 0, st => (st, 0)
  | n + 1, st =>
    let (st, b) := scrambleStep st
    let (st', bs) := scrambleBits n st
    (st', b + 2 * bs)

/-- The state after `n` words. -/
def scrambleWords : Nat → Nat → Nat
  | 0, st => st
  | n + 1, st => scrambleWords n (scrambleBits 32 st).1

/-! ## A transmitter (R293, R295, R298, R301) -/

/-- A word: its stuff bits H, 1 for data and 2 for control, and its content. -/
abbrev TWord := Nat × Nat

/-- A transmitter that places words: its lane, whether its receiver is UP, its scrambler state, the words since its latest FILL and
its latest ALIGN, its ALIGN count, and the words as they leave, newest first. -/
structure Tx where
  lane : Nat
  up : Bool
  st : Nat
  fill : Nat
  align : Nat
  count : Nat
  out : List TWord
deriving DecidableEq, Repr

/-- A word leaves scrambled (R295). -/
def Tx.put (t : Tx) (w : TWord) : Tx :=
  let k := scrambleBits 32 t.st
  { t with st := k.1, fill := t.fill + 1, align := t.align + 1, out := (w.1, w.2 % 2 ^ 32 ^^^ k.2) :: t.out }

/-- A FILL leaves. -/
def Tx.filler (t : Tx) : Tx := { t.put (2, 0x1E) with fill := 0 }

/-- Room for `n` words in a row: a FILL first where they would make a run of 640 words without one (R301). -/
def Tx.room (n : Nat) (t : Tx) : Tx := if 639 < t.fill + n then t.filler else t

/-- The first word of an ALIGN (*ALIGN words*). -/
def alignWord (lane : Nat) (up : Bool) (count : Nat) : Nat :=
  0x33 + 256 * (lane % 2) + bit (32 ≤ lane) 9 + bit (lane == 34 || lane == 35) 10 + bit up 16 + 2 ^ 24 * (count % 256)

/-- An ALIGN leaves in clear, its second word the scrambler state of the word that follows (R295, R296). -/
def Tx.aligner (t : Tx) : Tx :=
  let t := t.room 2
  let st := scrambleWords 2 t.st
  { t with st := st, fill := t.fill + 2, align := 0, count := (t.count + 1) % 256, out := (2, st) :: (2, alignWord t.lane t.up t.count) :: t.out }

/-- Between frames, an ALIGN that falls due leaves: the next would stand more than 8,192 words after the latest (R298). -/
def Tx.due (t : Tx) : Tx := if 8190 ≤ t.align then t.aligner else t

/-- Words of a marker, in a row (R298). -/
def Tx.marker (ws : List TWord) (t : Tx) : Tx := (ws.foldl Tx.put (t.room ws.length)).due

/-- The words of a frame, with a FILL wherever one falls due (R298, R301). -/
def Tx.frame (ws : List TWord) (t : Tx) : Tx := (ws.foldl (fun t w => (t.room 1).put w) t).due

/-- Single words between frames. -/
def Tx.words (ws : List TWord) (t : Tx) : Tx := ws.foldl (fun t w => (if w = (2, 0x1E) then t.filler else (t.room 1).put w).due) t

/-- The words of a frame (*Frame layout*, R299): SOF, the payload, and the CRC-32 of both. -/
def frameOf (fseq : Nat) (payload : List Byte) : List TWord :=
  let p := pad4 payload
  let sof := 0x2D + 256 * (p.length / 4 % 2048) + 2 ^ 24 * (fseq % 256)
  (2, sof) :: (List.range (p.length / 4)).map (fun i => (1, leAt p (4 * i) 4)) ++ [(1, crc32 (leBytes 4 sof ++ p))]

/-! ## Messages to a head (*Head messages*, *LINE*, *RECIPE and VERNIER*, *Upstream messages*) -/

/-- The bytes of a message after its header, from its values and data. -/
def headBody (mtype : Nat) (vals : List Nat) (data : List Byte) : List Byte :=
  let v := nth vals 0
  match mtype with
  | 1 => leBytes 2 (v 0) ++ leBytes 1 (v 1 % 4 + 4 * (v 2 % 4) + 16 * (v 3 % 2)) ++ leBytes 1 (v 4) ++ leBytes 4 (v 5) ++ leBytes 2 (v 6) ++ [0, 0] ++ pad4 data
  | 2 => leBytes 2 (v 0) ++ leBytes 1 (v 1) ++ [0] ++ data
  | 3 => leBytes 2 (v 0) ++ leBytes 1 (v 1) ++ [0] ++ leBytes 2 (v 2) ++ leBytes 2 (v 3) ++ pad4 data
  | 4 => leBytes 1 (v 0) ++ [0] ++ leBytes 2 (v 1) ++ leBytes 4 (v 2)
  | _ => []

/-- A message to a head. -/
def headMessage (mtype : Nat) (vals : List Nat) (data : List Byte) : List Byte :=
  let b := headBody mtype vals data
  leBytes 1 mtype ++ [0] ++ leBytes 2 (4 + b.length) ++ b

end Sys2Proof.Machine
end

