-- ==== Sys2Proof/Machine/Ops.lean ====
section
/-! DEFINITION. Operations that every family shares: sparse stores in canonical form, parameters and counters, time,
sessions, the trouble log and the raising of events, replies and results, and the life of a host command. -/
namespace Sys2Proof.Machine
open Host

/-! ## Sparse stores: ascending keys, no entry equal to what an unlisted key reads as -/

/-- The value of a key; an unlisted key reads as its default. -/
def mget {V : Type} (d : Nat → V) : List (Nat × V) → Nat → V
  | [], k => d k
  | e :: m, k => if e.1 = k then e.2 else mget d m k

/-- Puts a key into its place. -/
def mput {V : Type} (k : Nat) (v : V) : List (Nat × V) → List (Nat × V)
  | [] => [(k, v)]
  | e :: m => if k < e.1 then (k, v) :: e :: m else if e.1 = k then (k, v) :: m else e :: mput k v m

/-- Writes a key and keeps the canonical form. -/
def mset {V : Type} [DecidableEq V] (d : Nat → V) (k : Nat) (v : V) (m : List (Nat × V)) : List (Nat × V) :=
  if v = d k then m.filter (fun e => e.1 ≠ k) else mput k v m

/-- Keys rise from a lower bound and no entry holds its default. -/
def mwfFrom {V : Type} [DecidableEq V] (d : Nat → V) : Nat → List (Nat × V) → Bool
  | _, [] => true
  | lo, (k, v) :: m => lo ≤ k && v != d k && mwfFrom d (k + 1) m

/-- The canonical form of a sparse store. -/
def mwf {V : Type} [DecidableEq V] (d : Nat → V) (m : List (Nat × V)) : Bool := mwfFrom d 0 m

/-- Puts a value into a list by key, replacing the entry of the key. -/
def assoc {K V : Type} [DecidableEq K] (k : K) (v : V) (m : List (K × V)) : List (K × V) :=
  (k, v) :: m.filter (fun e => e.1 ≠ k)

/-- The value of a key in a list by key. -/
def lookup {K V : Type} [DecidableEq K] (k : K) (m : List (K × V)) : Option V := (m.find? (fun e => e.1 = k)).map Prod.snd

/-- Inserts by a key, after equal keys. -/
def insertBy {α : Type} (key : α → Nat) (x : α) : List α → List α
  | [] => [x]
  | y :: ys => if key x < key y then x :: y :: ys else y :: insertBy key x ys

/-- A list in ascending key, equal keys in their order. -/
def sortBy {α : Type} (key : α → Nat) (xs : List α) : List α := xs.foldl (fun acc x => insertBy key x acc) []

/-- Inserts by an order, before the first element that it does not follow. -/
def insertLe {α : Type} (le : α → α → Bool) (x : α) : List α → List α
  | [] => [x]
  | y :: ys => if le x y then x :: y :: ys else y :: insertLe le x ys

/-- A list in an order. -/
def sortLe {α : Type} (le : α → α → Bool) (xs : List α) : List α := xs.foldl (fun acc x => insertLe le x acc) []

/-! ## Parameters and counters -/

/-- The value in force of a stored parameter (R92). -/
def State.par (s : State) (id : Nat) : Nat := mget resetVal s.params id

/-- Sets a stored parameter. -/
def State.setPar (id v : Nat) (s : State) : State := { s with params := mset resetVal id v s.params }

/-- Adds to a counter, which saturates at the width of its field. -/
def State.bump (id n : Nat) (s : State) : State :=
  s.setPar id (min (s.par id + n) (2 ^ ((descOf id).elim 32 Desc.width) - 1))

/-- Sets a parameter on a condition. -/
def State.setIf (c : Bool) (id v : Nat) (s : State) : State := if c then s.setPar id v else s

/-! ## Time -/

/-- The command acts at `t` of the time island; time never runs back. -/
def State.at_ (t : Nat) (s : State) : State := { s with now := max s.now t, out := [], hap := 0 }

/-- A further happening begins within a command (R407): one loop decision, one fault, one host command. -/
def State.happen (s : State) : State := { s with hap := 0 }

/-- Ring time (R366): the island's count plus the offset. -/
def State.ring (s : State) : Nat := ((s.now : Int) + s.offset).toNat

/-! ## What leaves, and straits (R28) -/

/-- The number of the island that a service and unit name (*Islands*): 0-3 Fresy host-port, 4-11 head-lane, 12 Causeway, 13 DRAM,
14 camera, 15 management, 16 time, 17 scan, 18 Shell. -/
def islandOf (svc unit : Nat) : Option Nat :=
  match svc with
  | 0x03 => if unit < 4 then some unit else none
  | 0x0C => if unit < 32 then some (4 + unit / 4) else if unit < 36 then some 12 else none
  | 0x0F => if unit = 0 then some 12 else none
  | 0x06 => if unit < 4 then some 13 else none
  | 0x0D => if unit < 4 then some 14 else none
  | 0x12 => if unit = 0 then some 15 else none
  | 0x09 => if unit = 0 then some 16 else none
  | 0x15 => if unit = 0 then some 17 else none
  | 0x02 => if unit = 0 then some 18 else none
  | _ => none

/-- The island through which something leaves. -/
def Out.island : Out → Option Nat
  | .frame p .. => islandOf 0x03 p
  | .handshake p .. => islandOf 0x03 p
  | .theal u .. => islandOf 0x0C u
  | .marker u .. => islandOf 0x0C u
  | .line u .. => islandOf 0x0C u
  | .causeway u .. => islandOf 0x0C u
  | .camera .. => some 14
  | .spi .. => some 15
  | .dram .. => some 13
  | .scan .. => some 17
  | .reply .. => none
  | .pin .. => none
  | .pinAt .. => none
  | .store .. => none
  | .pmbus .. => none

/-- An island was reset and its straits have not resynchronised: the side that was not reset sees EMPTY and STALL (R28). -/
def State.holding (s : State) (island : Nat) : Bool := s.dev.resync.any (fun r => islandOf r.1 r.2.1 == some island)

/-- Save mode (R442): the transmitters of every island are off, and inspection, pack and DRAM stand still. -/
def State.saveMode (s : State) : Bool := decide (3 ≤ s.power.sag)

/-- Adds to what the command sent; what leaves through an island that resynchronises waits (R28), and nothing leaves through one in
save mode (R442). -/
def State.emit (o : Out) (s : State) : State :=
  let off := o.island.isSome && s.saveMode
  let waits := o.island.elim false s.holding && !off
  { s with out := if waits || off then s.out else s.out ++ [o], stalled := if waits then s.stalled ++ [o] else s.stalled }

/-- The name of a head's power-enable pin. -/
def hpenName (h : Nat) : String :=
  nth ["HPEN0", "HPEN1", "HPEN2", "HPEN3", "HPEN4", "HPEN5", "HPEN6", "HPEN7", "HPEN8", "HPEN9", "HPEN10", "HPEN11", "HPEN12", "HPEN13",
    "HPEN14", "HPEN15"] "" h

/-- Applies a function for each element in order. -/
def State.each {α : Type} (xs : List α) (f : α → State → State) (s : State) : State := xs.foldl (fun s x => f x s) s

/-- Applies a function on a condition. -/
def State.when (c : Bool) (f : State → State) (s : State) : State := if c then f s else s

/-- Draws the next random value (Config.random). -/
def State.draw (s : State) : State := { s with draws := s.draws + 1 }

/-- No fresh randomness can be drawn: the entropy source has failed (R138), or the Shell has responded to tampering (R158). -/
def State.noRandom (s : State) : Bool := s.shell.tampered || s.shell.entropyFailed

/-- The first `n` bytes, at most 48, of a random value. -/
def randomBytes (draw n : Nat) : List Byte := (beBytes 48 (Config.random draw).toNat).take n

/-! ## Keys of the Shell (R137, log entry 135) -/

/-- A key derived from the device root by HKDF under a label. -/
def State.rootKey (s : State) (label : String) (n : Nat) : List Byte := hkdfExpand (hkdfExtract [] (beBytes 32 s.shell.drk)) (ascii label) n

/-- The identity key and the wrap key: private keys on P-384. -/
def State.identityKey (s : State) : Nat := ecScalar (s.rootKey "alaten id" 48)
def State.wrapKey (s : State) : Nat := ecScalar (s.rootKey "alaten wrap" 48)

/-- The handle of a segment (R149): the first 8 bytes of HMAC-SHA-384 under the handle key, over "seg", the JOB and the segment ID. -/
def State.handleOf (s : State) (job segId : Nat) : Nat :=
  leNat ((hmac (s.rootKey "alaten handle" 48) (ascii "seg" ++ leBytes 8 job ++ leBytes 8 segId)).take 8)

/-- The device certificate chain (R133), at most 8,000 bytes (R58). -/
def ownChain : List Byte := (List.range (min 8000 Config.chainLen)).map Config.chainByte

/-! ## Sending on the Causeway (R151, R356-R359) -/

/-- LANE units of the Causeway. -/
abbrev eastA : Nat := 32
abbrev eastB : Nat := 33
abbrev westA : Nat := 34
abbrev westB : Nat := 35

/-- CAUSE.ADDRESS; 0x7FF while the member holds none. -/
def State.address (s : State) : Nat := s.par Par.causeAddress

/-- LANE[u].STATE. -/
def State.laneState (s : State) (u : Nat) : Nat := s.par (Par.at_ Par.laneUState u)

/-- Whether a lane is UP; in save mode its transmitter is off (R442). -/
def State.laneIsUp (s : State) (u : Nat) : Bool := s.laneState u == 3 && s.power.sag < 3

/-- A lane. -/
def State.lane (s : State) (u : Nat) : Lane :=
  nth s.lanes ⟨0, 0, false, false, [], 0, 0, 0, 0, 0, none, 0, false, none, 0, none, [], [], [], 0, none, none, none, none, false, 0, 0, 0⟩ u

/-- Word time in ps at the lane's rate (*Lane timing*). -/
def State.wordPs (s : State) (u : Nat) : Nat := nth [10880, 6800, 5440] 5440 (s.par (Par.at_ Par.laneURate u))

/-- Changes one lane. -/
def State.modLane (u : Nat) (f : Lane → Lane) (s : State) : State := { s with lanes := modNth f u s.lanes }

/-- Words leave on a lane (R293-R301). -/
def State.lineOut (u : Nat) (f : Tx → Tx) (s : State) : State :=
  let l := s.lane u
  let t := f ⟨u, s.laneState u == 3, l.txState, l.sinceFill, l.sinceAlign, l.acount, []⟩
  (s.modLane u (fun l => { l with txState := t.st, sinceFill := t.fill, sinceAlign := t.align, acount := t.count })).emit (.line u t.out.reverse)

/-- A frame leaves on a lane under the next FSEQ (R299), and is counted in LANE[u].FRAMES_TX. -/
def State.frameOut (u : Nat) (payload : List Byte) (s : State) : State :=
  ((s.lineOut u (Tx.frame (frameOf (s.lane u).fseqTx payload))).modLane u (fun l => { l with fseqTx := (l.fseqTx + 1) % 256 })).bump
    (Par.at_ Par.laneUFramesTx u) 1

/-- A Causeway frame without its tag (*Causeway frame*), HOPS 0. -/
def causeFrame (ftype gen src dst ctr : Nat) (payload : List Byte) : List Byte :=
  leBytes 1 ftype ++ leBytes 1 1 ++ leBytes 1 gen ++ [0] ++ leBytes 2 src ++ leBytes 2 dst ++ leBytes 2 0 ++ leBytes 2 payload.length
    ++ leBytes 8 ctr ++ payload

/-- Sends a frame on lanes that are UP and counts it (LANE[u].FRAMES_TX). -/
def State.sendOn (lanes : List Nat) (frame : List Byte) (s : State) : State :=
  s.each (lanes.filter s.laneIsUp) (fun u s => (s.emit (.causeway u frame)).frameOut u frame)

/-- The ring key of a generation that the member holds: all zero for generation 0, the installed one, or the one before (R360, R362). -/
def State.ringKey (s : State) (gen : Nat) : Option Nat :=
  if gen = 0 then some 0
  else if gen = s.par Par.causeGeneration then some s.cause.key
  else match s.cause.oldGen with
    | some o => if gen = o.gen then some o.key else none
    | none => none

/-- The tag of a Causeway frame under a ring key (R151, R360): the first 8 bytes of AES-256-GMAC over its header, HOPS taken as 0, and
payload. -/
def ringTag (key : Nat) (f : List Byte) : List Byte :=
  let aad := f.take 8 ++ [0, 0] ++ f.drop 10
  (gcmTag (beBytes 32 key) (leBytes 4 (leAt f 4 2 % 2048) ++ (f.drop 12).take 8) aad []).take 8

/-- Sends an own frame under a generation: CTR rises by one, and TIME alone does not go on both rings (R151, R359). -/
def State.sendFrameGen (lanes : List Nat) (gen ftype dst : Nat) (payload : List Byte) (s : State) : State :=
  let f := causeFrame ftype gen s.address dst s.cause.ctr payload
  ({ s with cause := { s.cause with ctr := s.cause.ctr + 1 } }).sendOn lanes (f ++ ringTag ((s.ringKey gen).getD 0) f)

/-- Sends a frame on both rings under the installed generation (R359). -/
def State.sendRing (ftype dst : Nat) (payload : List Byte) (s : State) : State :=
  s.sendFrameGen [eastA, westB] (s.par Par.causeGeneration) ftype dst payload

/-- No line trigger leaves while firing is held or position is lost (R320). -/
def State.stallCams (s : State) : State := { s with cams := s.cams.map (fun (x : Cam) => { x with stalled := true }) }

/-- Trim values reach the outputs of an element (R460). -/
def State.takeTrims (e : Nat) (s : State) : State :=
  { s with cal := { s.cal with trims := modNth (fun (x : Trim) => { x with out := x.next }) e s.cal.trims } }

/-- A trim value reaches one output of an element at that output's own boundary (R460). -/
def State.takeTrim (e i : Nat) (s : State) : State :=
  let take := fun (x : Trim) =>
    match x.next[i]? with
    | some v => { x with out := modNth (fun _ => v) i (x.out ++ List.replicate (i + 1 - x.out.length) 0) }
    | none => x
  { s with cal := { s.cal with trims := modNth take e s.cal.trims } }

/-! ## Sessions -/

/-- The open session of a number. -/
def State.session (s : State) (n : Nat) : Option Session := s.sessions.find? (fun x => x.num == n)

/-- Changes one session. -/
def State.modSession (n : Nat) (f : Session → Session) (s : State) : State :=
  { s with sessions := s.sessions.map (fun x => if x.num == n then f x else x) }

/-- The role of an open session; 0 when it is not open (R129). -/
def State.role (s : State) (n : Nat) : Nat := (s.session n).elim 0 Session.role

/-- Whether a session holds ownership with the rights of the owner (R112: OWNED or OFFERED). -/
def State.owns (s : State) (n : Nat) : Bool := (s.own.state == 1 || s.own.state == 2) && s.own.holder == n && n != 0

/-- The ports that are up. -/
def State.upPorts (s : State) : List Nat := (List.range 4).filter (fun p => (s.ports[p]?).elim false Port.up)

/-- The port set of a session (R72): its host's PORTS and the ports up here. -/
def State.portSet (s : State) (x : Session) : List Nat := s.upPorts.filter (bitAt x.hostPorts)

/-- A port list as a mask. -/
def maskOf (ps : List Nat) : Nat := (ps.map (fun p => 2 ^ p)).sum

/-! ## The trouble log and events -/

/-- Argument bytes padded to the 16 of an entry (R411). -/
def pad16 (bs : List Byte) : List Byte := (bs ++ List.replicate 16 0).take 16

/-- Whether a role learns the arguments of an entry of a class (R503, R413, R414): by its right L, and by the Observer
summary for the inspection statistics of EV065-EV068 and for the trouble log. -/
def learnsArgs (role : Nat) (c : Cls) : Bool :=
  match learnRight role c with
  | .all => true
  | .summary => c == .inspStats || c == .log
  | _ => false

/-- The class of an entry's arguments (R503). -/
def LogEntry.argCls (e : LogEntry) : Cls :=
  if e.record then recordArgs e.code (e.svc == 8) else ((evRow e.code).elim .oper EvRow.args)

/-- An entry with its arguments zeroed for a reader that may not learn them. -/
def LogEntry.redact (e : LogEntry) : LogEntry := { e with args := List.replicate 16 0, redacted := true }

/-- The entry as it goes to a session in an EVENT frame (R414): zeroed where the role may not learn the class, except
that the opener of a segment receives EV032 in full (R208). -/
def LogEntry.forSession (x : Session) (opener : Nat) (e : LogEntry) : LogEntry :=
  if learnsArgs x.role e.argCls || (!e.record && e.code == Ev.stripCheckFailed && opener == x.num) then e else e.redact

/-- Whether a session lacks the window of R62 or the credit of R69 for an EVENT frame, which takes two blocks for its first entry. -/
def Session.lacks (x : Session) : Bool :=
  !x.txq.isEmpty || decide (65 < (x.txSeq + 2 ^ 32 - x.lastAck) % 2 ^ 32) || decide (x.creditLimit < x.blocksSent + 2)

/-- Whether an entry finds a full queue (R416): the 256 entries bind while the session lacks credit or window. -/
def Session.evFull (x : Session) : Bool := decide (256 ≤ x.evq.length) && x.lacks

/-- The next SEQ (R410). -/
def LogEntry.next (e : LogEntry) : LogEntry := { e with seq := (e.seq + 1) % 2 ^ 32 }

/-- Whether an entry is one of the `n` entries of the present happening from `seq` on. -/
def LogEntry.among (seq n : Nat) (e : LogEntry) : Bool := decide ((e.seq + 2 ^ 32 - seq) % 2 ^ 32 < n)

/-- The SEQ of queued entries that an entry of their happening precedes rises by one (R407, R410). -/
def Session.shiftEvents (seq n : Nat) (x : Session) : Session :=
  { x with evq := x.evq.map (fun a => if a.among seq n then a.next else a) }

/-- Queues an entry for one session (R416), or drops and counts it; the `n` entries of its happening that stand after it follow it. -/
def Session.queueEvent (n : Nat) (e : LogEntry) (x : Session) : Session :=
  if x.evFull then { x.shiftEvents e.seq n with dropped := x.dropped + 1 }
  else { x with evq := x.evq.filter (fun a => !a.among e.seq n) ++ [e] ++ (x.evq.filter (LogEntry.among e.seq n)).map LogEntry.next }

/-- Whether a session asked for an entry (R415, R418). -/
def Session.wants (e : LogEntry) (x : Session) : Bool :=
  if e.record then e.code == 6 && x.subRing else bitAt x.subMask e.code

/-- Delivers an entry to the sessions that subscribed, before the `n` entries of its happening that stand after it; `opener` is the
session that opened the segment it names. -/
def State.deliver (opener n : Nat) (e : LogEntry) (s : State) : State :=
  let drops := (s.sessions.filter (fun x => x.wants e && x.evFull)).length
  let s := { s with sessions := s.sessions.map (fun (x : Session) => if x.wants e then x.queueEvent n (e.forSession x opener) else x.shiftEvents e.seq n) }
  s.when (drops != 0) (State.bump Par.evtQueueDropped drops)

/-- Place of an entry within its happening (R407): log records by code, then events by number, EV020 last. -/
def LogEntry.rank (e : LogEntry) : Nat := if e.record then e.code else if e.code = Ev.promiseBroken then 256 else 128 + e.code

/-- How many entries that the present happening has written stand after an entry of that rank (R407). -/
def State.lateEntries (s : State) (e : LogEntry) : Nat :=
  ((s.evt.log.drop (s.evt.log.length - s.hap)).filter (fun a => decide (e.rank < a.rank))).length

/-- An entry with its SEQ, before the last `n` written (R407, R410). -/
def State.numbered (n : Nat) (e : LogEntry) (s : State) : LogEntry := { e with seq := (s.evt.nextSeq + 2 ^ 32 - n) % 2 ^ 32 }

/-- Writes an entry (R407, R410) before the last `n`: SEQ rises by one, the newest 8,192 stay. -/
def State.addEntry (n : Nat) (e : LogEntry) (s : State) : State :=
  let k := s.evt.log.length - n
  let log := s.evt.log.take k ++ [e] ++ (s.evt.log.drop k).map LogEntry.next
  { s with
      evt := { s.evt with log := if 8192 < log.length then log.drop 1 else log, nextSeq := (s.evt.nextSeq + 1) % 2 ^ 32 }
      hap := s.hap + 1 }

/-- Sets the latch of an event and the condition it reports, by its clearing class (R405). -/
def State.latch (r : EvRow) (unit : Nat) (s : State) : State :=
  match r.clearing with
  | .oneShot => s
  | .self => { s with evt := { s.evt with
      latched := s.evt.latched ||| 2 ^ r.ev
      conds := if s.evt.conds.contains (r.ev, unit) then s.evt.conds else (r.ev, unit) :: s.evt.conds } }
  | .held | .toReset => { s with evt := { s.evt with latched := s.evt.latched ||| 2 ^ r.ev } }

/-- The mask of event pin `n`. -/
def State.pinMask (s : State) (n : Nat) : Nat := s.par (Par.evtPin0Mask + n)

/-- An event of class O pulses each pin whose mask names it (R417). -/
def State.pulsePins (r : EvRow) (s : State) : State :=
  match r.clearing with
  | .oneShot =>
    let ps := (List.range 4).filter (fun n => bitAt (s.pinMask n) r.ev)
    { s with evt := { s.evt with pulses := ps.foldl (fun l n => assoc n (s.now + 1000 * s.par Par.evtPulseWidth) l) s.evt.pulses } }
  | _ => s

/-- Sends a summary of an event (R376, *Causeway payloads*). -/
def State.sendSummary (m : Summary) (s : State) : State :=
  s.sendRing 0x30 0x7FF (leBytes 1 m.ev ++ leBytes 1 m.svc ++ leBytes 1 m.unit ++ [0] ++ leBytes 2 m.count ++ [0, 0] ++ leBytes 8 m.t)

/-- A raised event of EVT.RING_MASK (R376, R418): a summary goes at once, or COUNT gathers while the latest is less than 1 s
old. -/
def State.summarise (ev svc unit : Nat) (s : State) : State :=
  if !bitAt (s.par Par.evtRingMask) ev || s.address == 0x7FF then s
  else
    let old := s.cause.sums.find? (fun m => m.ev == ev)
    let rest := s.cause.sums.filter (fun m => m.ev != ev)
    let due := match old.bind Summary.sent with
      | some l => decide (l + 1000000000 ≤ s.now)
      | none => true
    let m : Summary := ⟨ev, svc, unit, min 65535 (old.elim 0 Summary.count + 1), s.ring, old.bind Summary.sent⟩
    if due then
      ({ s with cause := { s.cause with sums := { m with count := 0, sent := some s.now } :: rest } }).sendSummary m
    else { s with cause := { s.cause with sums := m :: rest } }

/-- Raises an event (R406, R407): the entry, the latch, the counts, the pins, the deliveries and the ring summary; `key`
tells apart the conditions of one event that end separately. -/
def State.raiseCore (svc ev unit key t opener : Nat) (args : List Byte) (s : State) : State :=
  match evRow ev with
  | none => s
  | some r =>
    let e : LogEntry := ⟨t, s.evt.nextSeq, ev, false, svc, unit, r.sev, r.args == .spool, r.args == .counters, false, false,
      false, pad16 args⟩
    let n := s.lateEntries e
    let e := s.numbered n e
    ((((((s.addEntry n e).latch r key).bump Par.evtRaised 1).bump (Par.evtCount000 + ev) 1).pulsePins r).deliver opener n e).summarise ev svc unit

/-- Raises an event whose condition is told apart by its unit. -/
def State.raiseFull (svc ev unit t opener : Nat) (args : List Byte) (s : State) : State := s.raiseCore svc ev unit unit t opener args

/-- Raises an event of its table service whose condition has a key of its own. -/
def State.raiseKeyed (ev unit key : Nat) (args : List Byte) (s : State) : State :=
  s.raiseCore ((evRow ev).elim 0 EvRow.svc) ev unit key s.ring 0 args

/-- Raises an event of its table service at the present ring time. -/
def State.raise (ev unit : Nat) (args : List Byte) (s : State) : State :=
  s.raiseFull ((evRow ev).elim 0 EvRow.svc) ev unit s.ring 0 args

/-- Raises an event that its rule limits to once per second for a key (R407). -/
def State.raiseLimited (ev unit key : Nat) (args : List Byte) (s : State) : State :=
  match lookup (ev, key) s.evt.last with
  | some l =>
    if s.now < l + 1000000000 then s.bump Par.evtSuppressed 1
    else { s with evt := { s.evt with last := assoc (ev, key) s.now s.evt.last } }.raise ev unit args
  | none => { s with evt := { s.evt with last := assoc (ev, key) s.now s.evt.last } }.raise ev unit args

/-- A condition of class S ends on a unit; the latch clears when it has ended on every unit (R405). -/
def State.endCond (ev unit : Nat) (s : State) : State :=
  let conds := s.evt.conds.filter (fun c => c ≠ (ev, unit))
  if s.evt.conds.contains (ev, unit) then
    { s with evt := { s.evt with
        conds := conds
        latched := if conds.any (fun c => c.1 == ev) then s.evt.latched else s.evt.latched &&& (2 ^ 128 - 1 - 2 ^ ev) } }
  else s

/-- Whether the condition of an event holds on a unit. -/
def State.cond (s : State) (ev unit : Nat) : Bool := s.evt.conds.contains (ev, unit)

/-- Writes a log record (R411): no latch, no pin, no delivery but that of ring summaries (R418). -/
def State.record (code svc unit : Nat) (args : List Byte) (s : State) : State :=
  let e : LogEntry := ⟨s.ring, s.evt.nextSeq, code, true, svc, unit, 0, false, false, false, false, code == 6, pad16 args⟩
  let n := s.lateEntries e
  let e := s.numbered n e
  (s.addEntry n e).deliver 0 n e

/-- Whether event pin `n` is driven low (R417). -/
def State.pinLow (s : State) (n : Nat) : Bool :=
  (s.evt.latched &&& s.pinMask n) != 0 || s.evt.pulses.any (fun p => p.1 == n && s.now < p.2)

/-! ## Frames to the host -/

/-- Bytes of a reply packet's body; a body of named values takes the length the implementation gives it (log entry 8). -/
def Body.size (opcode : Nat) : Body → Nat
  | .bytes b => up4 b.length
  | .fields _ => up4 (Config.fieldsLen opcode)

/-- The bytes of a body, padded to its size; of a body of named values they are free (log entry 8). -/
def Body.toBytes (opcode : Nat) : Body → List Byte
  | .bytes b => pad4 b
  | .fields f => (List.range (up4 (Config.fieldsLen opcode))).map (Config.fieldsByte opcode f)

/-- A reply packet (R80, *Reply header*). -/
def Reply.toBytes (r : Reply) : List Byte :=
  let b := r.body.toBytes r.opcode
  leBytes 2 (16 + b.length) ++ leBytes 2 r.opcode ++ leBytes 2 r.tag ++ leBytes 1 (bit r.final 0 + bit r.again 1 + bit r.unsolicited 2) ++ [0]
    ++ leBytes 2 r.status ++ leBytes 2 r.progress ++ leBytes 4 r.detail ++ b

/-- An entry as it is read (*Log entry*). -/
def LogEntry.bytes (e : LogEntry) : List Byte :=
  leBytes 8 e.t ++ leBytes 4 e.seq ++ leBytes 1 (e.code + bit e.record 7) ++ leBytes 1 e.svc ++ leBytes 1 e.unit
    ++ leBytes 1 (e.sev % 4 + bit e.handle 2 + bit e.counters 3 + bit e.redacted 4 + bit e.preReset 5 + bit e.ring 6) ++ pad16 e.args

/-- The payload of a frame in clear. -/
def Payload.toBytes : Payload → List Byte
  | .replies rs => rs.flatMap Reply.toBytes
  | .events es => es.flatMap LogEntry.bytes
  | .close => []

/-- Payload bytes of a frame. -/
def Payload.size : Payload → Nat
  | .replies rs => (rs.map (fun r => 16 + r.body.size r.opcode)).sum
  | .events es => 32 * es.length
  | .close => 0

/-- Ethernet bytes of a session frame with a payload, destination address through FCS (R53). -/
def State.etherLen (s : State) (port len : Nat) : Nat :=
  max 64 (14 + (if s.par (Par.at_ Par.fresyUVlanMode port) = 0 then 0 else 4) + 32 + len + 16 + 4)

/-- The SACK of a session's receive side (R62): bit i for frame ACK + 2 + i. -/
def Session.sack (x : Session) : Nat :=
  ((List.range 64).filter (fun i => x.held.any (fun h => h.seq == (x.rxNext + 1 + i) % 2 ^ 32))).foldl (fun a i => a + 2 ^ i) 0

/-- The ACK value of a session's receive side. -/
def Session.ackVal (x : Session) : Nat := (x.rxNext + 2 ^ 32 - 1) % 2 ^ 32

/-- The destination of a session frame on a port (R55); on a port that has taken no frame of the session yet, the latest address that
the session has on any port (DESIGN CHOICE, log entry 137). -/
def Session.dest (x : Session) (port : Nat) : Nat :=
  (lookup port x.macs).getD ((x.macs.head?).elim 0 Prod.snd)

/-- The PCP and VID with which a port sends (R55); none while it sends untagged. -/
def State.vlanOf (s : State) (port : Nat) : Option (Nat × Nat) :=
  if s.par (Par.at_ Par.fresyUVlanMode port) = 0 then none
  else some (s.par (Par.at_ Par.fresyUPcp port), s.par (Par.at_ Par.fresyUVid port))

/-- The header of a Fresy frame (*Fresy header*); `rsv` holds its reserved bits as Frame does. -/
def fresyHeader (ver ftype : Nat) (rtx ackreq epoch : Bool) (session seq ack sack credit len ports txc rsv : Nat) : List Byte :=
  leBytes 1 (ver % 16 + 16 * ftype) ++ leBytes 1 (bit rtx 0 + bit ackreq 1 + bit epoch 2 + 8 * (rsv % 32))
    ++ leBytes 2 (session % 32 + 32 * bitsAt rsv 5 11) ++ leBytes 4 seq ++ leBytes 4 ack ++ leBytes 8 sack ++ leBytes 4 credit ++ leBytes 2 len
    ++ leBytes 1 (ports % 16 + 16 * bitsAt rsv 16 4) ++ leBytes 1 (bitsAt rsv 20 8) ++ leBytes 4 txc

/-- The key, salt and next secret that a traffic secret gives (R139). -/
def Epoch.of (secret : List Byte) : Epoch :=
  ⟨hkdfExpand secret (ascii "key") 32, hkdfExpand secret (ascii "salt") 8, hkdfExpand secret (ascii "next") 48⟩

/-- The GCM nonce of a session frame (R56): the direction salt, then TXC. -/
def Epoch.nonce (e : Epoch) (txc : Nat) : List Byte := e.salt ++ leBytes 4 txc

/-- Starts the next AL716-to-host epoch (R56, R139, R140): EPOCH toggles, the next key and salt are derived, and TXC restarts. -/
def Session.startEpoch (x : Session) : Session :=
  { x with
    epochTx := !x.epochTx, txc := 0, tx := Epoch.of x.tx.next, txNew := true, txWindow := none
    rekeys := min 65535 (x.rekeys + 1), rekeyHeld := false }

/-- A frame has left: TXC rises, its epoch's 64 ms start with its first frame, and the next epoch starts at 0xF000_0000 (R56). -/
def Session.stepTxc (now : Nat) (x : Session) : Session :=
  let x := if x.txNew then { x with txNew := false, txWindow := some (now + 64000000) } else x
  if 0xF0000000 ≤ x.txc + 1 then x.startEpoch else { x with txc := x.txc + 1 }

/-- Puts one session frame on a port (R55, R56): header, ciphertext and tag, TXC, transmit counters and the port's queue. -/
def State.sendFrame (n port ftype seq : Nat) (rtx : Bool) (p : Option Payload) (s : State) : State :=
  match s.session n with
  | none => s
  | some x =>
    let plain := p.elim [] Payload.toBytes
    let credit := x.grant % 2 ^ 32
    let hdr := fresyHeader 1 ftype rtx false x.epochTx n seq x.ackVal x.sack credit plain.length (maskOf (s.portSet x)) x.txc 0
    let sealed_ := gcmSeal 16 x.tx.key (x.tx.nonce x.txc) hdr plain
    let len := s.etherLen port (p.elim 0 Payload.size)
    let s := s.emit (.frame port n ftype rtx x.epochTx seq x.ackVal x.sack credit x.txc (x.dest port) p (s.vlanOf port)
      (hdr ++ sealed_.1 ++ sealed_.2))
    let s := { s with ports := modNth (fun q => { q with drainAt := max q.drainAt (25 * s.now) + 8 * len }) port s.ports }
    let s := s.modSession n (fun x => { (x.stepTxc s.now) with
      ackDue := false, portTx := modNth (fun _ => s.now) port x.portTx })
    (s.bump (Par.at_ Par.fresyUTxFrames port) 1).bump (Par.at_ Par.fresyUTxBytes port) len

/-- The port of a new sequenced frame (R72): the fewest bytes queued, the lower number on a tie. -/
def State.bestPort (s : State) (ps : List Nat) : Option Nat :=
  let q := fun p => (s.ports[p]?).elim 0 (fun x => x.drainAt - 25 * s.now)
  ps.foldl (fun b p => match b with
    | none => some p
    | some c => if q p < q c then some p else some c) none

/-- Sends waiting payloads while a port, the window of R62 and the credit of R69 allow. -/
def State.flush : Nat → Nat → State → State
  | 0, _, s => s
  | fuel + 1, n, s =>
    match s.session n with
    | none => s
    | some x =>
      match x.txq, s.bestPort (s.portSet x) with
      | p :: rest, some port =>
        let blocks := ceilDiv (s.etherLen port p.size) 64
        if 65 < (x.txSeq + 2 ^ 32 - x.lastAck) % 2 ^ 32 ∨ x.creditLimit < x.blocksSent + blocks then s
        else
          let f : SentFrame := ⟨x.txSeq, p, blocks, port, 1, s.now, s.now + 200000, 400000, s.now⟩
          let s := s.modSession n (fun x => { x with
            txq := rest, txSeq := (x.txSeq + 1) % 2 ^ 32, blocksSent := x.blocksSent + blocks, unacked := x.unacked ++ [f] })
          State.flush fuel n (s.sendFrame n port (match p with | .replies _ => 8 | .events _ => 10 | .close => 11) f.seq false (some p))
      | _, _ => s

/-- Queues a payload to a session and sends what may be sent. -/
def State.transmit (n : Nat) (p : Payload) (s : State) : State :=
  let s := s.modSession n (fun x => { x with txq := x.txq ++ [p] })
  s.flush (((s.session n).elim 0 (fun x => x.txq.length)) + 1) n

/-- Sends a reply to a session. -/
def State.sendReply (n : Nat) (r : Reply) (s : State) : State := (s.emit (.reply n r)).transmit n (.replies [r])

/-! ## The life of a host command -/

/-- How a command's effect ends: with its FINAL reply, with PENDING and a later end, or with a later end alone, before
which PENDING leaves only if the latency class ran out (R82). -/
inductive Verdict where
  | done (status detail : Nat) (body : Body)
  | pending
  | later
deriving DecidableEq, Repr

/-- What an effect knows of its command. -/
structure Ctx where
  cid : Nat
  sn : Nat
  role : Nat
  tag : Nat
  body : List Byte
deriving DecidableEq, Repr

/-- The type of a command's effect. -/
abbrev Effect := Ctx → State → State × Verdict

/-- Ends with a status and DETAIL and no body. -/
def refuse (st detail : Nat) (s : State) : State × Verdict := (s, .done st detail (.bytes []))

/-- Ends with OK, a DETAIL and a body of bytes. -/
def okay (detail : Nat) (b : List Byte) (s : State) : State × Verdict := (s, .done St.ok detail (.bytes b))

/-- Ends with OK and named values. -/
def okayF (f : List (String × Nat)) (s : State) : State × Verdict := (s, .done St.ok 0 (.fields f))

/-- Refuses a change by a session that does not own, with the holder in DETAIL (R111, R122). -/
def needOwner (c : Ctx) (s : State) (k : State × Verdict) : State × Verdict :=
  if s.owns c.sn then k else refuse St.notOwner s.own.holder s

/-- Refuses a role that lacks the change right on a class (R130). -/
def needChange (c : Ctx) (cl : Cls) (s : State) (k : State × Verdict) : State × Verdict :=
  if mayChange c.role cl then k else refuse St.classForbidden 0 s

/-- Refuses a role that may not learn the whole of a class (R130). -/
def needLearn (c : Ctx) (cl : Cls) (s : State) (k : State × Verdict) : State × Verdict :=
  match learnRight c.role cl with
  | .none | .summary => refuse St.classForbidden 0 s
  | _ => k

/-- Refuses a body whose length is not the one expected (R111: DETAIL the expected length). -/
def needLen (c : Ctx) (n : Nat) (s : State) (k : State × Verdict) : State × Verdict :=
  if c.body.length = n then k else refuse St.badLength n s

/-- Refuses a non-zero reserved run of a body (R7), DETAIL the byte offset in the packet. -/
def needZero (c : Ctx) (o n : Nat) (s : State) (k : State × Verdict) : State × Verdict :=
  if zeroAt c.body o n then k else refuse St.reservedNonzero (8 + o) s

/-- A command in flight of the session that is open under a number (R76, R84). -/
def Flight.of (f : Flight) (n : Nat) : Bool := f.session == n && f.endedAt.isNone

/-- The result store of a session (R108): in flight, and retained but not delivered. -/
def State.undelivered (s : State) (n : Nat) : Nat :=
  (s.flights.filter (fun f => f.of n)).length
    + (s.results.filter (fun r => r.session == n && r.endedAt.isNone && !r.delivered)).length

/-- The maximum of a command's latency class in ns (R51, *Opcodes*); class 6 has none of its own. -/
def latencyMax (opcode : Nat) : Option Nat :=
  if [0x0101, 0x0106, 0x0107, 0x0108, 0x0109, 0x010A, 0x0205, 0x0301, 0x0302, 0x0408, 0x0506, 0x0507, 0x0509, 0x0601, 0x0602, 0x0701,
      0x0801, 0x0901, 0x0A01, 0x0C01, 0x0D01, 0x0D03, 0x0E01, 0x0E03, 0x0F01, 0x0F03, 0x1102, 0x1202, 0x1301, 0x1304].contains opcode then
    some 50000
  else if [0x0501, 0x0502, 0x0503, 0x0508, 0x0804].contains opcode then some 1000000
  else if [0x0504, 0x0505].contains opcode then some 4000000
  else if [0x0201, 0x0202, 0x0203, 0x0206, 0x0B01, 0x0B04, 0x0D02, 0x0E02, 0x1001, 0x1104, 0x1502].contains opcode then some 50000000
  else if [0x0204, 0x0C02, 0x0C03, 0x0E04, 0x0F02, 0x1302, 0x1303, 0x1401, 0x1402, 0x1403, 0x1501].contains opcode then none
  else some 500000

/-- A reading of the progress of a command in flight: free, and never below the last one reported (R82, log entry 7). -/
def State.readProgress (f : Flight) (s : State) : State × Nat :=
  let p := max f.progress ((Config.progress f.cid s.readings).toNat % 1001)
  ({ s with
      readings := s.readings + 1
      flights := s.flights.map (fun (g : Flight) => if g.cid == f.cid then { g with progress := p } else g) }, p)

/-- A command in flight by its number. -/
def State.flight (s : State) (cid : Nat) : Option Flight := s.flights.find? (fun f => f.cid == cid)

/-- Changes one command in flight. -/
def State.modFlight (cid : Nat) (f : Flight → Flight) (s : State) : State :=
  { s with flights := s.flights.map (fun (g : Flight) => if g.cid == cid then f g else g) }

/-- Sends PENDING for a command whose work goes on (R82); while the command pair restarts it waits (R13). -/
def State.sendPending (cid : Nat) (s : State) : State :=
  match s.flight cid with
  | none => s
  | some f =>
    if s.dev.cmd.restart.isSome then s
    else
      let (s, p) := s.readProgress f
      let s := s.modFlight cid (fun g => { g with pendingSent := true })
      s.when f.endedAt.isNone (State.sendReply f.session ⟨f.opcode, f.tag, false, false, false, St.pending, p, 0, .bytes [], none⟩)

/-- Whether the maximum of a command's latency class has passed with no PENDING sent (R51, R82); a restart of the command pair and a
firmware switch lengthen it. -/
def State.overdue (s : State) (f : Flight) : Bool :=
  match latencyMax f.opcode with
  | some m => decide (f.arrived + m + f.extra < s.now) && !f.pendingSent && f.endedAt.isNone
  | none => false

/-- PENDING leaves for every command that started, whose work goes on, and whose class maximum has passed (R82, log entry 11). -/
def State.pendingDue (s : State) : State :=
  s.each ((s.flights.filter (fun f => f.started && s.overdue f)).map Flight.cid) State.sendPending

/-- The unit that a command addresses within its service (R86): the head, lane, camera port or channel that its body names first, the
session of SHELL_REKEY, else 0 (log entry 136). -/
def Flight.unit (f : Flight) : Nat :=
  if [0x0902, 0x0B01, 0x0B02, 0x0B03, 0x0B04, 0x0C02, 0x0C03, 0x0D02, 0x0D03].contains f.opcode then leAt f.body 0 1
  else if f.opcode = 0x0203 then f.session else 0

/-- Whether an earlier command of the same session, service and unit has not completed (R86). -/
def State.behind (s : State) (f : Flight) : Bool :=
  s.flights.any (fun g => g.session == f.session && g.endedAt == f.endedAt && decide (g.cid < f.cid)
    && g.opcode / 256 == f.opcode / 256 && g.unit == f.unit)

/-- A command leaves with its FINAL reply (R82): PENDING has left before where its latency class ran out, the reply goes to its session
if that is open, and the result is retained but for the opcodes that R104 excepts. -/
def State.leave (f : Flight) (r : Reply) (s : State) : State :=
  let late := s.overdue f
  let s := s.when late (State.sendPending f.cid)
  let r := { r with unsolicited := f.pendingSent || late }
  let s := { s with flights := s.flights.filter (fun g => g.cid != f.cid) }
  let s := s.when (f.opcode != 0x0107 && f.opcode != 0x0108) (fun s => { s with results := s.results ++
    [⟨f.cid, f.session, f.subject, f.endedAt, f.tag, f.opcode, r.status, r.progress, r.detail, r.body, false⟩] })
  s.when f.endedAt.isNone (State.sendReply f.session r)

/-- The commands of a session whose FINAL replies waited for their order leave in that order (R86). -/
def State.leaveNext (n : Nat) (ended : Option Nat) : Nat → State → State
  | 0, s => s
  | fuel + 1, s =>
    match s.flights.find? (fun f => f.session == n && f.endedAt == ended && f.final.isSome && !s.behind f) with
    | none => s
    | some f =>
      match f.final with
      | none => s
      | some r => State.leaveNext n ended fuel (s.leave f r)

/-- The work of a command in flight ends (R82). Its FINAL reply leaves at once, or waits while an earlier command of its session,
service and unit has not completed (R86) or the command pair restarts (R13). `carries` is the retained result that the reply delivers
beside its own. -/
def State.finishWith (cid status progress detail : Nat) (again : Bool) (carries : Option Nat) (body : Body) (s : State) : State :=
  match s.flights.find? (fun f => f.cid == cid && f.final.isNone) with
  | none => s
  | some f =>
    let keep := f.opcode != 0x0107 && f.opcode != 0x0108
    let r : Reply := ⟨f.opcode, f.tag, true, again, false, status, progress, detail, body, if keep then some cid else carries⟩
    if s.behind f || s.dev.cmd.restart.isSome then s.modFlight cid (fun g => { g with final := some r })
    else (s.leave f r).leaveNext f.session f.endedAt s.flights.length

/-- Ends a command in flight with a status, DETAIL and body of its own (R82). -/
def State.finish (cid status detail : Nat) (body : Body) (s : State) : State := s.finishWith cid status 1000 detail false none body

/-- The replies that waited for the restart of the command pair leave (R13): the PENDING replies then due, and the FINAL ones. -/
def State.repliesResume (s : State) : State :=
  s.pendingDue.each ((s.flights.map (fun f => (f.session, f.endedAt))).eraseDups) (fun k s => s.leaveNext k.1 k.2 s.flights.length)

/-- Renews the lease in force from a ring time on; a lease taken by default follows the present OWN.LEASE_DEFAULT (R119). -/
def State.renewFrom (r : Nat) (s : State) : State :=
  let ms := if s.own.byDefault then s.par Par.ownLeaseDefault else s.own.leaseMs
  { s with own := { s.own with leaseEnd := r + 1000000 * ms, leaseMs := ms } }

/-- Renews the lease in force from now on. -/
def State.renewLease (s : State) : State := s.renewFrom s.ring

/-- The ring time at which a command in flight arrived. -/
def State.arrivedRing (s : State) (cid : Nat) : Nat :=
  match s.flight cid with
  | some f => ((f.arrived : Int) + s.offset).toNat
  | none => s.ring

/-- A command packet that passed the packing check is counted, and renews the owner's lease (R119, R121, R499). -/
def State.countPacket (n : Nat) (s : State) : State :=
  let s := s.modSession n (fun x => { x with commands := min (2 ^ 64 - 1) (x.commands + 1), lastCmd := s.ring, lastCmdAt := s.now })
  if s.owns n then s.renewLease else s

/-- A refusal at arrival (R85): a reply, and nothing else. -/
def State.refuseArrival (n opcode tag status detail : Nat) (s : State) : State :=
  s.sendReply n ⟨opcode, tag, true, false, false, status, 1000, detail, .bytes [], none⟩

/-- The numbers of the commands that the state names beside the commands in flight. -/
def State.heldCids (s : State) : List Nat :=
  s.shell.keys.flatMap JobKey.drops ++ s.shell.fuses.map FuseJob.cid
    ++ s.spool.segs.flatMap (fun g => g.strips.filterMap Strip.cid ++ g.closeCid.toList ++ g.armCid.toList ++ g.cancelCids)
    ++ s.lanes.flatMap (fun l => (l.loop.map LoopRun.cid).toList ++ l.retrain.toList) ++ s.heads.flatMap (fun x => x.reads.map MemRead.cid)
    ++ s.cams.flatMap (fun x => x.cmds.map CamCmd.cid) ++ s.insp.runs.map MeasureRun.cid ++ s.pack.jobs.map PackJob.cid
    ++ s.power.erase.map Prod.fst ++ (s.power.switch.map Prod.fst).toList ++ (s.power.switching.map Prod.fst).toList
    ++ (s.cal.holdup.elim [] Prod.fst) ++ s.test.captures.map CaptureRun.cid ++ s.test.bist.map BistRun.cid ++ (s.cause.run.elim [] EnumRun.cids)

/-- The number of the next command: above that of every command that the state names. -/
def State.freshCid (s : State) : Nat := (s.flights.map Flight.cid ++ s.heldCids).foldl (fun a c => max a (c + 1)) s.nextCid

/-- A command packet arrives (R80, R83-R85, R108): refused at arrival, or in flight under a new number. A tag that belongs to a retained
result releases it only after the limit of R108 was passed (DESIGN CHOICE, log entry 138). -/
def State.arrive (x : Session) (tag opcode flags rsv : Nat) (body : List Byte) (s : State) : State × Option Nat :=
  let s := s.countPacket x.num
  let n := x.num
  if tag = 0xFFFF then (s.refuseArrival n opcode tag St.reservedNonzero 4, none)
  else if s.flights.any (fun f => f.of n && f.tag == tag) then (s.refuseArrival n opcode tag St.tagInUse 0, none)
  else if 256 ≤ (s.flights.filter (fun f => f.of n)).length then
    (s.refuseArrival n opcode tag St.sessionInflightFull 0, none)
  else if 1024 ≤ s.flights.length then (s.refuseArrival n opcode tag St.deviceInflightFull 0, none)
  else if 4096 ≤ s.undelivered n then (s.refuseArrival n opcode tag St.resultStoreFull 0, none)
  else
    let s := { s with results := s.results.filter (fun r => !(r.session == n && r.endedAt.isNone && r.tag == tag)) }
    let cid := s.freshCid
    ({ s with
        nextCid := cid + 1
        flights := s.flights ++ [⟨cid, s.now, n, x.role, x.subject, tag, opcode, body, flags, rsv, false, false, none, none, 0, none, 0⟩] },
      some cid)

/-- Whether a command may not start yet (R86): an earlier command of its session has not started, or it is fenced and an earlier one
is in flight. -/
def State.mustWait (s : State) (f : Flight) : Bool :=
  let earlier := s.flights.filter (fun g => g.session == f.session && g.endedAt == f.endedAt && g.cid < f.cid)
  (bitAt f.flags 0 && !earlier.isEmpty) || earlier.any (fun g => !g.started && g.final.isNone)

/-- Whether the recovery firmware serves an opcode (R154). -/
def recoveryServes (opcode : Nat) : Bool := [0x0401, 0x0109, 0x0205, 0x1102, 0x1302, 0x1303].contains opcode

/-- How a command goes on after its effect (R82): its FINAL reply, PENDING, or a later end. -/
def conclude (cid : Nat) (r : State × Verdict) : State :=
  match r.2 with
  | .done st d b => r.1.finish cid st d b
  | .pending => r.1.sendPending cid
  | .later => r.1

/-- Starts a command in flight: the header's reserved bits (R7), the opcodes that recovery serves (R154), then the
effect, and its reply (R82). -/
def State.startCmd (cid : Nat) (eff : Effect) (s : State) : State :=
  match s.flight cid with
  | none => s
  | some f =>
    let s := s.happen.modFlight cid (fun g => { g with started := true, wait := none })
    if 2 ≤ f.flags then s.finish cid St.reservedNonzero 6 (.bytes [])
    else if f.rsv ≠ 0 then s.finish cid St.reservedNonzero 7 (.bytes [])
    else if s.shell.recoveryFw && !recoveryServes f.opcode then s.finish cid St.notReady (s.par Par.powerPhase) (.bytes [])
    else
      conclude cid (eff ⟨cid, if f.endedAt.isNone then f.session else 0, f.role, f.tag, f.body⟩ s)

/-- Command packets are held in receive credit: the command pair restarts (R13), or a firmware switch is under way (R454). -/
def State.cmdHeld (s : State) : Bool := s.dev.cmd.restart.isSome || s.power.switching.isSome

/-- The automatic loops of the policy pair run: no restart (R14) and no firmware switch (R455) holds them. -/
def State.loopsRun (s : State) : Bool := s.dev.pol.restart.isNone && s.power.switching.isNone

/-- The command pair meets a command: it arrives unless it has arrived before, and starts or waits for its turn (R83-R86). A command
of a session that is not open is none (R57). -/
def State.hostArrive (self : Instr) (opcode : Nat) (h : Hdr) (b : List Byte) (eff : Effect) (s : State) : State :=
  match s.session h.session with
  | none => s
  | some x =>
    let arrived := s.flights.find? (fun f => f.of h.session && f.tag == h.tag && f.opcode == opcode && f.body == b
      && !f.started && f.wait.isNone && f.final.isNone)
    let (s, cid) : State × Option Nat := match arrived with
      | some f => (s, some f.cid)
      | none => s.arrive x h.tag opcode h.flags h.rsv b
    match cid.bind s.flight with
    | none => s
    | some f => if s.mustWait f then s.modFlight f.cid (fun g => { g with wait := some self }) else s.startCmd f.cid eff

/-- The session of what is parked. -/
def Parked.session : Parked → Nat
  | .frame n _ => n
  | .row n _ => n

/-- A row of a host opcode: the command pair meets it now, or, while it takes no packets, later (R13, R454). -/
def hostRow (self : Instr) (opcode t : Nat) (h : Hdr) (b : List Byte) (eff : Effect) (s : State) : State :=
  let s := (s.at_ t).pendingDue
  if s.cmdHeld then s.when (s.session h.session).isSome (fun s => { s with parked := s.parked ++ [.row h.session self] })
  else s.hostArrive self opcode h b eff

/-- Ready to print (R134, R440, R442, R490): phase READY, no commissioning mode, no pin-driving instruction and no save. -/
def State.ready (s : State) : Bool :=
  s.par Par.powerPhase == 5 && s.par Par.shellCommissionState != 1 && s.par Par.testPinDriven == 0 && s.power.sag == 0

/-- Refuses until the device is ready to print, with the start-up phase in DETAIL. -/
def needReady (s : State) (k : State × Verdict) : State × Verdict :=
  if s.ready then k else refuse St.notReady (s.par Par.powerPhase) s

/-- Refuses a role without the right J (R130). -/
def needFeed (c : Ctx) (s : State) (k : State × Verdict) : State × Verdict :=
  if mayFeed c.role then k else refuse St.classForbidden 0 s

/-- Whether a command is still in flight. -/
def State.inFlight (s : State) (cid : Nat) : Bool := s.flights.any (fun f => f.cid == cid)

end Sys2Proof.Machine
end

