-- ==== Sys2Proof/Machine/Inflate.lean ====
section
/-! DEFINITION. The DEFLATE subset and its failure reasons (R193-R200), and the CRCs of the spec. -/
namespace Sys2Proof.Machine

/-- One bit step of CRC-16 with polynomial 0x1021, most significant bit first. -/
def crc16Step (c : Nat) : Nat := if bitAt c 15 then ((2 * c) % 65536) ^^^ 0x1021 else (2 * c) % 65536

/-- CRC-16 of the SPI transaction (R420): polynomial 0x1021, initial value 0xFFFF. -/
def crc16 (bs : List Byte) : Nat :=
  bs.foldl (fun c b => crc16Step (crc16Step (crc16Step (crc16Step (crc16Step (crc16Step (crc16Step (crc16Step
    (c ^^^ (b.toNat * 256)))))))))) 0xFFFF

/-- Where an inflation stands: the next bit, the output so far newest first, its length, and the restart points whose
block has begun. -/
structure Inf where
  pos : Nat
  out : List Byte
  n : Nat
  seen : List Nat
deriving DecidableEq, Repr

/-- What an inflation reads and is held to: the stream as a number, its bits, the most bytes it may give, and the
restart points offered as decoded byte and ZOFF. -/
structure InfCtx where
  v : Nat
  bits : Nat
  max : Nat
  points : List (Nat × Nat)
deriving DecidableEq, Repr

/-- A step of an inflation: it goes on, or it fails for a reason of *Strip failure reasons*. -/
inductive InfRes where
  | ok (s : Inf)
  | fail (reason : Nat) (s : Inf)
deriving DecidableEq, Repr

/-- Goes on from a result. -/
def InfRes.bind (r : InfRes) (f : Inf → InfRes) : InfRes :=
  match r with
  | .ok s => f s
  | .fail n s => .fail n s

/-- An offered restart point whose ZOFF lies before bit `e`, and at which no block began (R200). -/
def InfCtx.missedBy (c : InfCtx) (e : Nat) (s : Inf) : Bool := c.points.any (fun p => 8 * p.2 < e && !s.seen.contains p.2)

/-- A restart point whose ZOFF lies at or before the present bit, and at which no block began (R200). -/
def InfCtx.missed (c : InfCtx) (s : Inf) : Bool := c.missedBy (s.pos + 1) s

/-- Reads `k` bits and goes on with their value; fails where they run over a restart point at which no block began, having reached it
(R200), or as TRUNCATED at the end of the stream (R194). -/
def InfCtx.read (c : InfCtx) (k : Nat) (s : Inf) (f : Nat → Inf → InfRes) : InfRes :=
  if c.missedBy (s.pos + k) s then
    .fail 0x23 { s with pos := Nat.max s.pos ((c.points.find? (fun p => !s.seen.contains p.2)).elim 0 (fun p => 8 * p.2)) }
  else if c.bits < s.pos + k then .fail 0x15 { s with pos := c.bits } else f (bitsAt c.v s.pos k) { s with pos := s.pos + k }

/-- Puts one byte out: LONG at the first byte past the end (R200). -/
def InfCtx.put (c : InfCtx) (b : Byte) (s : Inf) : InfRes :=
  if c.max ≤ s.n then .fail 0x21 s else .ok { s with out := b :: s.out, n := s.n + 1 }

/-- A code: its symbols in canonical order, and how many have each length 1-15. -/
structure Huff where
  syms : List Nat
  counts : List Nat
deriving DecidableEq, Repr

/-- The canonical code of a list of code lengths. -/
def huffOf (lens : List Nat) : Huff :=
  let ix := lens.zipIdx
  ⟨(List.range 15).flatMap (fun l => (ix.filter (fun p => p.1 == l + 1)).map Prod.snd),
   (List.range 15).map (fun l => (lens.filter (· == l + 1)).length)⟩

/-- Codes left over: 0 when complete, negative when over-subscribed. -/
def Huff.left (h : Huff) : Int := h.counts.foldl (fun (l : Int) (n : Nat) => 2 * l - (n : Int)) 1

/-- Decodes one symbol: bits most significant first, from a length on. Bits that no code has left are BAD_CODE. -/
def InfCtx.symbol (c : InfCtx) (h : Huff) (f : Nat → Inf → InfRes) : List Nat → Nat → Nat → Nat → Inf → InfRes
  | [], _, _, _, s => .fail 0x12 s
  | n :: ns, code, first, idx, s =>
    if n == 0 && ns.all (· == 0) then .fail 0x12 s
    else if c.missed s then .fail 0x23 s
    else if c.bits < s.pos + 1 then .fail 0x15 s
    else
      let code := code + bitsAt c.v s.pos 1
      let s := { s with pos := s.pos + 1 }
      if code < first + n then f (nth h.syms 0 (idx + (code - first))) s
      else c.symbol h f ns (2 * code) (2 * (first + n)) (idx + n) s

/-- Base lengths and extra bits of length symbols 257-285. -/
def lenBase : List (Nat × Nat) :=
  [(3, 0), (4, 0), (5, 0), (6, 0), (7, 0), (8, 0), (9, 0), (10, 0), (11, 1), (13, 1), (15, 1), (17, 1), (19, 2), (23, 2), (27, 2),
   (31, 2), (35, 3), (43, 3), (51, 3), (59, 3), (67, 4), (83, 4), (99, 4), (115, 4), (131, 5), (163, 5), (195, 5), (227, 5), (258, 0)]

/-- Base distances and extra bits of distance symbols 0-29. -/
def distBase : List (Nat × Nat) :=
  [(1, 0), (2, 0), (3, 0), (4, 0), (5, 1), (7, 1), (9, 2), (13, 2), (17, 3), (25, 3), (33, 4), (49, 4), (65, 5), (97, 5), (129, 6),
   (193, 6), (257, 7), (385, 7), (513, 8), (769, 8), (1025, 9), (1537, 9), (2049, 10), (3073, 10), (4097, 11), (6145, 11), (8193, 12),
   (12289, 12), (16385, 13), (24577, 13)]

/-- Copies a match byte by byte. -/
def InfCtx.copy (c : InfCtx) (d : Nat) : Nat → Inf → InfRes
  | 0, s => .ok s
  | k + 1, s => (c.put (nth s.out 0 (d - 1)) s).bind (c.copy d k)

/-- Whether a distance reaches before the output's start, or before an offered restart point that the match follows. -/
def InfCtx.tooFar (c : InfCtx) (d : Nat) (s : Inf) : Bool :=
  s.n < d || c.points.any (fun p => p.1 ≤ s.n && s.n - d < p.1)

/-- The literals and matches of a block, to its end-of-block symbol. -/
def InfCtx.data (c : InfCtx) (lit dist : Huff) : Nat → Inf → InfRes
  | 0, s => .fail 0x15 s
  | fuel + 1, s =>
    if c.missed s then .fail 0x23 s
    else c.symbol lit (fun sym s =>
      if sym < 256 then (c.put (BitVec.ofNat 8 sym) s).bind (c.data lit dist fuel)
      else if sym = 256 then .ok s
      else if 286 ≤ sym then .fail 0x13 s
      else
        let l := nth lenBase (0, 0) (sym - 257)
        c.read l.2 s (fun e s =>
          c.symbol dist (fun dsym s =>
            if 30 ≤ dsym then .fail 0x13 s
            else
              let b := nth distBase (0, 0) dsym
              c.read b.2 s (fun x s =>
                if c.tooFar (b.1 + x) s then .fail 0x14 s
                else (c.copy (b.1 + x) (l.1 + e) s).bind (c.data lit dist fuel)))
            dist.counts 0 0 0 s))
      lit.counts 0 0 0 s

/-- The bytes of a stored block. -/
def InfCtx.stored (c : InfCtx) : Nat → Inf → InfRes
  | 0, s => .ok s
  | k + 1, s =>
    if c.missed s then .fail 0x23 s
    else c.read 8 s (fun b s => (c.put (BitVec.ofNat 8 b) s).bind (c.stored k))

/-- The code lengths of a dynamic header: literals, repeats of the last length, and runs of zero (R194). -/
def InfCtx.lens (c : InfCtx) (h : Huff) (total : Nat) (f : List Nat → Inf → InfRes) : Nat → List Nat → Inf → InfRes
  | 0, _, s => .fail 0x12 s
  | fuel + 1, acc, s =>
    if total ≤ acc.length then f acc.reverse s
    else c.symbol h (fun sym s =>
      let run := fun (v k : Nat) (s : Inf) =>
        if total < acc.length + k then .fail 0x12 s else c.lens h total f fuel (List.replicate k v ++ acc) s
      if sym < 16 then c.lens h total f fuel (sym :: acc) s
      else if sym = 16 then
        match acc with
        | [] => .fail 0x12 s
        | p :: _ => c.read 2 s (fun x s => run p (3 + x) s)
      else if sym = 17 then c.read 3 s (fun x s => run 0 (3 + x) s)
      else c.read 7 s (fun x s => run 0 (11 + x) s))
      h.counts 0 0 0 s

/-- The order in which the code-length code's lengths stand. -/
def clOrder : List Nat := [16, 17, 18, 0, 8, 7, 9, 6, 10, 5, 11, 4, 12, 3, 13, 2, 14, 1, 15]

/-- The code lengths of the code-length code, read 3 bits each. -/
def InfCtx.clens (c : InfCtx) (f : List Nat → Inf → InfRes) : Nat → List Nat → Inf → InfRes
  | 0, acc, s => f acc.reverse s
  | k + 1, acc, s => c.read 3 s (fun x s => c.clens f k (x :: acc) s)

/-- A dynamic block (R194, R200): the ranges of its header as its bits come, complete codes, then its data. -/
def InfCtx.dynamic (c : InfCtx) (fuel : Nat) (s : Inf) : InfRes :=
  c.read 5 s fun a s =>
  if 29 < a then .fail 0x12 s
  else c.read 5 s fun b s =>
    if 29 < b then .fail 0x12 s
    else c.read 4 s (fun n s =>
    let hlit := 257 + a
    let hdist := 1 + b
    let hclen := 4 + n
    c.clens (fun cl s =>
      let lens := (List.range 19).map (fun sym => nth cl 0 (clOrder.findIdx (· == sym)))
      let h := huffOf lens
      if h.left ≠ 0 then .fail 0x12 s
      else c.lens h (hlit + hdist) (fun ls s =>
        let lit := huffOf (ls.take hlit)
        let dist := huffOf (ls.drop hlit)
        if lit.left ≠ 0 then .fail 0x12 s
        else if dist.left ≠ 0 ∧ 1 < dist.syms.length then .fail 0x12 s
        else c.data lit dist fuel s)
        (hlit + hdist + 1) [] s)
      hclen [] s)

/-- The literal/length and distance codes of fixed blocks. -/
def fixedLit : Huff := huffOf (List.replicate 144 8 ++ List.replicate 112 9 ++ List.replicate 24 7 ++ List.replicate 8 8)
def fixedDist : Huff := huffOf (List.replicate 32 5)

/-- The checks at the start of a block (R195): an offered point whose ZOFF is here must have its decoded byte next. -/
def InfCtx.atBlock (c : InfCtx) (s : Inf) : InfRes :=
  let here := c.points.filter (fun p => 8 * p.2 == s.pos)
  if here.any (fun p => p.1 != s.n) then .fail 0x23 s
  else
    let s := { s with seen := s.seen ++ here.map Prod.snd }
    if c.missed s then .fail 0x23 s else .ok s

/-- The blocks of a stream, to the one whose BFINAL is 1. -/
def InfCtx.blocks (c : InfCtx) : Nat → Inf → InfRes
  | 0, s => .fail 0x15 s
  | fuel + 1, s =>
    (c.atBlock s).bind (fun s => c.read 3 s (fun hd s =>
      let body : InfRes :=
        if hd / 2 = 3 then .fail 0x10 s
        else if hd / 2 = 0 then
          let s := { s with pos := 8 * ((s.pos + 7) / 8) }
          c.read 32 s (fun w s => if w % 65536 + w / 65536 ≠ 65535 then .fail 0x11 s else c.stored (w % 65536) s)
        else if hd / 2 = 1 then c.data fixedLit fixedDist (c.bits + 1) s
        else c.dynamic (c.bits + 1) s
      body.bind (fun s => if hd % 2 = 1 then .ok s else c.blocks fuel s)))

/-- What an inflation ends with: the reason, 0 for none, the DEFLATE byte reached and the output. -/
structure Inflated where
  reason : Nat
  zreach : Nat
  out : List Byte
deriving DecidableEq, Repr

/-- Inflates a stream that must give exactly `raw` bytes with the restart points offered; the checks after the final
block in the order of R200: points (0x23), SHORT (0x20), TRAILING (0x16), and the CRC where one is given (0x22). -/
def inflate (z : List Byte) (raw : Nat) (points : List (Nat × Nat)) (crc : Option Nat) : Inflated :=
  let c : InfCtx := ⟨leNat z, 8 * z.length, raw, points⟩
  match c.blocks (8 * z.length + 1) ⟨0, [], 0, []⟩ with
  | .fail r s => ⟨r, s.pos / 8, s.out.reverse⟩
  | .ok s =>
    let out := s.out.reverse
    let stop := (s.pos + 7) / 8
    let r := if points.any (fun p => !s.seen.contains p.2) then 0x23
      else if s.n < raw then 0x20
      else if stop < z.length then 0x16
      else if crc.isSome && crc != some (crc32 out) then 0x22 else 0
    ⟨r, stop, out⟩

/-! ## The strip container (R193-R200) -/

/-- What a strip's header must agree with (R193). -/
structure StripWant where
  depth : Nat
  head : Nat
  k : Nat
  job : Nat
  lines : Nat
  segLines : Nat
  cols : Nat
  plane : Nat
  colFirst : Nat
  size : Nat
deriving DecidableEq, Repr

/-- Bytes of one decoded line (R192). -/
def lineBytes (cols depth : Nat) : Nat := ceilDiv (cols * depth) 8

/-- Whether a strip's header agrees (R193). -/
def headerOk (w : StripWant) (h : List Byte) : Bool :=
  leAt h 0 4 == 0x54534C41 && leAt h 4 1 == 1 && leAt h 5 1 == w.depth && leAt h 6 1 == w.head && leAt h 7 1 == w.k
    && leAt h 8 8 == w.job && leAt h 16 2 == w.lines && leAt h 18 2 == w.cols && leAt h 20 1 == w.plane && leAt h 21 1 == 0
    && leAt h 22 2 == w.colFirst && leAt h 24 4 == w.lines * lineBytes w.cols w.depth && leAt h 28 4 == w.size - 256
    && leAt h 36 4 == w.segLines && leAt h 40 8 == 0

/-- The restart entries of a header, as point number and ZOFF. -/
def restartTable (h : List Byte) : List (Nat × Nat) := (List.range 64).map (fun j => (j + 1, leAt h (48 + 3 * j) 3))

/-- Whether ZOFF values rise strictly. -/
def risesFrom : Nat → List Nat → Bool
  | _, [] => true
  | lo, z :: zs => lo < z && risesFrom z zs

/-- The check of one strip (R199, R200): the reason, ZREACH, decoded bytes and offered points. `rate` is the declared
rate, `plain` the DEFLATE bytes in clear, none where the GCM tag fails. -/
def checkStrip (w : StripWant) (rate : Nat) (header : List Byte) (plain : Option (List Byte)) : Inflated × List (Nat × Nat) :=
  let raw := w.lines * lineBytes w.cols w.depth
  let zlen := w.size - 256
  let tab := restartTable header
  let exist := tab.filter (fun p => p.1 * 196605 < raw)
  let offered := (exist.filter (fun p => p.2 != 0)).map (fun p => (p.1 * 196605, p.2))
  let r : Inflated :=
    if w.size < 257 then ⟨0x02, zlen, []⟩
    else if plain.isNone then ⟨0x01, zlen, []⟩
    else if !headerOk w header then ⟨0x02, zlen, []⟩
    else if 3200000000 < w.cols * w.depth * rate ∧ exist.any (fun p => p.2 == 0) then ⟨0x24, 0, []⟩
    else if tab.any (fun p => raw ≤ p.1 * 196605 && p.2 != 0) || offered.any (fun p => zlen ≤ p.2) || !risesFrom 0 (offered.map Prod.snd) then
      ⟨0x23, 0, []⟩
    else inflate (plain.getD []) raw offered (some (leAt header 32 4))
  (r, offered)

end Sys2Proof.Machine
end

