-- ==== Sys2Proof/Machine/Reject.lean ====
section
/-! DEFINITION. Reject candidates and outputs (R261-R264): the operations that segments, print-go edges and inspection
share. -/
namespace Sys2Proof.Machine

/-- POS.REJn_* of an output. -/
def State.rejPar (s : State) (base n : Nat) : Nat := s.par (base + 4 * n)

/-- Drives a reject output to its active or idle level (R262 polarity), now or at an instant to come. -/
def State.driveRejAt (n : Nat) (active : Bool) (start : Option Nat) (s : State) : State :=
  let name := if n = 0 then "REJ0" else "REJ1"
  let level := if active == (s.rejPar Par.posRej0Polarity n == 0) then 1 else 0
  (s.takeTrim 4 (4 + n)).emit (match start with
    | none => .pin name level
    | some a => .pinAt name level a)

/-- Drives a reject output now. -/
def State.driveRej (n : Nat) (active : Bool) (s : State) : State := s.driveRejAt n active none

/-- Changes one reject output. -/
def State.modRej (n : Nat) (f : RejOut → RejOut) (s : State) : State :=
  { s with pos := { s.pos with rejects := modNth f n s.pos.rejects } }

/-- A reject output. -/
def State.rej (s : State) (n : Nat) : RejOut := nth s.pos.rejects ⟨[], 0, none, false, false, false, []⟩ n

/-- Asserts an output for a width in µs; an assertion that runs is extended and counts no second time (R262, R263). -/
def State.assertRej (n width : Nat) (s : State) : State :=
  let stop := s.now + 1000 * width
  match (s.rej n).assertedTo with
  | some e =>
    let s1 := s.modRej n (fun o => { o with from_ := min o.from_ s.now, assertedTo := some (max e stop) })
    if (s.rej n).from_ ≤ s.now then s1 else (s1.driveRej n true).bump Par.posRejPulses 1
  | none => ((s.modRej n (fun o => { o with from_ := s.now, assertedTo := some stop })).driveRej n true).bump Par.posRejPulses 1

/-- Queues a candidate in order of due position (R261). One that meets 1,024 others raises EV053 with reason 1 and keeps its place behind
them, so that the continuous assertion of R263 rejects more products and never fewer (DESIGN CHOICE, log entry 66). -/
def State.addCand (n : Nat) (c : Cand) (s : State) : State :=
  let q := (s.rej n).queue
  let room := decide (q.length < 1024)
  let s := s.modRej n (fun o => { o with
    queue := (q.filter (fun d => d.due ≤ c.due)) ++ c :: q.filter (fun d => !(d.due ≤ c.due)), full := o.full || !room })
  s.when (!room) (State.raise Ev.rejectFault 0 [BitVec.ofNat 8 n, 1])

/-- A candidate whose reference position, in 1/65,536 line, is fixed now: distance and width are those in force (R261). -/
def State.refCand (n : Nat) (ref : Int) (handle : Option Nat) (unserved insp : Bool) (s : State) : State :=
  s.addCand n ⟨ref + 65536 * s.rejPar Par.posRej0Distance n, s.rejPar Par.posRej0Width n, handle, unserved, insp⟩

/-- Whole lines of a position in 1/65,536 line, toward minus infinity. -/
def linesOf (p : Int) : Int := p / 65536

/-- The output of an input's products. -/
def State.pgoOut (s : State) (n : Nat) : Nat := s.par (Par.posPgo0RejOut + 4 * n)

/-- A print-go edge goes unserved (R42): counted, EV021, and a candidate when POS.REJ_UNSERVED is 1. -/
def State.unservedEdge (n : Nat) (edge : Int) (s : State) : State :=
  let s := s.bump Par.spoolPgoUnserved 1
  let s := s.when (s.par Par.posRejUnserved == 1) (State.refCand (s.pgoOut n) edge none true false)
  s.raise Ev.pgoUnserved 0 (BitVec.ofNat 8 n :: leBytes 8 (twos 64 edge))

/-- A segment breaks after its candidate fell due and was dropped: a pulse at once (R262). -/
def State.lateReject (handle : Nat) (s : State) : State :=
  s.each (List.range 2) (fun n s =>
    match lookup handle (s.rej n).dropped with
    | some w =>
      ((((s.modRej n (fun o => { o with dropped := o.dropped.filter (fun d => d.1 != handle) })).assertRej n w).bump Par.posRejLate 1)).raise
        Ev.rejectFault 0 [BitVec.ofNat 8 n, 2]
    | none => s)

end Sys2Proof.Machine
end

