-- ==== Sys2Proof/Machine/Segment.lean ====
section
/-! DEFINITION. Segments, pods, job keys and the admission rule: the operations that the spool commands, firing, the
Causeway vote and the end of a session share (02_delivery_promise.md, 06_secrecy.md, 07_segments_and_spool.md). -/
namespace Sys2Proof.Machine

namespace Sg
/-- *Segment states* (R175). -/
abbrev opened : Nat := 1
abbrev verifying : Nat := 2
abbrev voting : Nat := 3
abbrev accepted : Nat := 4
abbrev inHorizon : Nat := 5
abbrev printing : Nat := 6
abbrev complete : Nat := 7
abbrev broken : Nat := 8
abbrev cancelled : Nat := 9
abbrev retained : Nat := 10
end Sg

/-! ## Pods (R171, R145-R147) -/

/-- Takes the first pod of the free runs. -/
def takeRun : List (Nat × Nat) → Option (Nat × List (Nat × Nat))
  | [] => none
  | (p, n) :: r => some (p, if n ≤ 1 then r else (p + 1, n - 1) :: r)

/-- Adds a pod at the end of the free runs. -/
def giveRun (p : Nat) : List (Nat × Nat) → List (Nat × Nat)
  | [] => [(p, 1)]
  | [(q, n)] => if q + n = p then [(q, n + 1)] else [(q, n), (p, 1)]
  | x :: y :: r => x :: giveRun p (y :: r)

/-- Pods in the free runs. -/
def runTotal (rs : List (Nat × Nat)) : Nat := (rs.map Prod.snd).sum

/-- SPOOL.PODS_FREE: spool pods neither reserved nor retired. -/
def State.podsFree (s : State) : Nat := runTotal s.spool.free - (s.spool.segs.map Seg.reserved).sum

/-- The write epoch of a pod (R145). -/
def State.podEpoch (s : State) (p : Nat) : Nat := mget (fun _ => 0) s.spool.epochs p

/-- The first pod beyond the spool: the reserved pods follow those of the spool (DESIGN CHOICE, log entry 153). -/
def State.reservedBase (s : State) : Nat := s.par Par.spoolPodsTotal - s.par Par.spoolPodsReserved

/-- The area of a pod: 0 the spool, 1 the frame buffers, 2 the other reserved areas. -/
def State.podArea (s : State) (p : Nat) : Nat :=
  if p < s.reservedBase then 0 else if p < s.reservedBase + s.par Par.camBufferPods then 1 else 2

/-- The free runs of an area. -/
def Spool.runs (x : Spool) (area : Nat) : List (Nat × Nat) := if area = 0 then x.free else if area = 1 then x.bufs else x.works

/-- Sets the free runs of an area. -/
def Spool.setRuns (area : Nat) (r : List (Nat × Nat)) (x : Spool) : Spool :=
  if area = 0 then { x with free := r } else if area = 1 then { x with bufs := r } else { x with works := r }

/-- Free runs without a pod. -/
def dropRun (p : Nat) (rs : List (Nat × Nat)) : List (Nat × Nat) :=
  rs.flatMap (fun r =>
    if r.1 ≤ p ∧ p < r.1 + r.2 then
      (if p = r.1 then [] else [(r.1, p - r.1)]) ++ (if p + 1 = r.1 + r.2 then [] else [(p + 1, r.1 + r.2 - p - 1)])
    else [r])

/-- Retires a pod until the next device reset (R147, R396, R492): it belongs to no list, and EV022 names it. -/
def State.retirePod (p : Nat) (s : State) : State :=
  { s with spool := { s.spool with
      free := dropRun p s.spool.free, bufs := dropRun p s.spool.bufs, works := dropRun p s.spool.works
      retired := p :: s.spool.retired } }.raise Ev.podRetired 0 (leBytes 4 p)

/-- Allocates the first free pod of an area for writing (R146, R147): its epoch rises by one; a pod that reaches the last epoch is
retired and the next is taken. -/
def State.allocPod (area : Nat) : Nat → State → State × Option Nat
  | 0, s => (s, none)
  | fuel + 1, s =>
    match takeRun (s.spool.runs area) with
    | none => (s, none)
    | some (p, rest) =>
      let e := s.podEpoch p + 1
      let s := { s with spool := { s.spool.setRuns area rest with epochs := mset (fun _ => 0) p e s.spool.epochs } }
      if e = 0xFFFFFFFF then State.allocPod area fuel (s.retirePod p) else (s, some p)

/-- Allocates `n` pods of an area. -/
def State.allocPods (area : Nat) : Nat → State → State × List Nat
  | 0, s => (s, [])
  | n + 1, s =>
    match State.allocPod area 4096 s with
    | (s, none) => (s, [])
    | (s, some p) => let (s, ps) := State.allocPods area n s; (s, p :: ps)

/-- Returns pods to the free list; a retired pod stays out, and a pod marked under R396 is retired as it is freed. -/
def State.freePods (ps : List Nat) (s : State) : State :=
  let due := ps.filter s.dram.marked.contains
  let back := (ps.filter (fun p => !due.contains p && !s.spool.retired.contains p)).foldl (fun (x : Spool) p =>
    let a := s.podArea p
    x.setRuns a (giveRun p (x.runs a))) s.spool
  let s := { s with spool := back, dram := { s.dram with marked := s.dram.marked.filter (fun p => !due.contains p) } }
  s.each due State.retirePod

/-! ## Segments -/

/-- The segment that a handle names, while the spool holds it. -/
def State.seg (s : State) (h : Nat) : Option Seg := s.spool.segs.find? (fun g => g.handle == h)

/-- Changes one segment. -/
def State.modSeg (h : Nat) (f : Seg → Seg) (s : State) : State :=
  { s with spool := { s.spool with segs := s.spool.segs.map (fun g => if g.handle == h then f g else g) } }

/-- Changes one strip of a segment. -/
def Seg.modStrip (head k : Nat) (f : Strip → Strip) (g : Seg) : Seg :=
  { g with strips := g.strips.map (fun t => if t.head == head && t.k == k then f t else t) }

/-- The strip at a place. -/
def Seg.strip (g : Seg) (head k : Nat) : Option Strip := g.strips.find? (fun t => t.head == head && t.k == k)

/-- The state code of a tracked handle (R165). -/
def State.tracked (s : State) (h : Nat) : Option Nat :=
  match s.seg h with
  | some g => some g.state
  | none => (s.spool.done.find? (fun d => d.handle == h)).map Done.state

/-- The heads of a segment. -/
def Seg.headList (g : Seg) : List Nat := maskUnits 16 g.heads

/-- An accepted segment that has not finished. -/
def Seg.live (g : Seg) : Bool := g.state == Sg.accepted || g.state == Sg.inHorizon || g.state == Sg.printing

/-- The accepted set (R35). -/
def State.acceptedSet (s : State) : List Seg := s.spool.segs.filter Seg.live

/-- Whether some segment is inside its horizon or printing, and the state of the first such segment. -/
def State.runningState (s : State) : Option Nat :=
  (s.spool.segs.find? (fun g => g.state == Sg.inHorizon || g.state == Sg.printing)).map Seg.state

/-- A range breaks the promise (R184): kinds 0, 1 and 3. -/
def Range.breaks (r : Range) : Bool := r.kind != 2

/-- BROKEN and FLAGGED of a segment so far. -/
def Seg.isBroken (g : Seg) : Bool := g.ranges.any Range.breaks
def Seg.isFlagged (g : Seg) : Bool := g.ranges.any (fun r => r.kind == 2)

/-- Whether a line lies in a range that breaks the promise. -/
def Seg.lineBroken (g : Seg) (i : Nat) : Bool :=
  g.ranges.any (fun r => r.breaks && r.first ≤ i && i < r.first + r.count)

/-- PRINTED of a finished segment (R186): its lines outside the ranges that break the promise. -/
def Seg.printed (g : Seg) : Nat := ((List.range g.lines).filter (fun i => !g.lineBroken i)).length

/-- Lines whose boundary has passed on every used head (R175, R228); none before the horizon. -/
def Seg.linesFinished (g : Seg) : Nat := if g.next.isEmpty then 0 else (g.next.map Prod.snd).foldl min g.lines

/-- Adds one line of a head to a segment's ranges: a range of the same kind and cause that ends just before it grows. -/
def addRange (head line cause kind column : Nat) : List Range → List Range
  | [] => [⟨head, line, 1, cause, kind, column⟩]
  | r :: rs =>
    if r.head = head ∧ r.cause = cause ∧ r.kind = kind ∧ kind ≠ 1 ∧ r.first + r.count = line then
      { r with count := r.count + 1 } :: rs
    else if r.head = head ∧ r.cause = cause ∧ r.kind = kind ∧ r.first ≤ line ∧ line < r.first + r.count then r :: rs
    else r :: addRange head line cause kind column rs

/-! ## Job keys (R141-R144) -/

/-- Whether a segment that has not finished, or is retained, uses a job's key. -/
def State.keyUsed (s : State) (job : Nat) : Bool := s.spool.segs.any (fun g => g.job == job)

/-- Whether a segment that was admitted uses a job's key (R143, R144): accepted, retained, or holding its reservations between its yes
vote and the decision (DEDUCED, log entry 152). -/
def State.keyBound (s : State) (job : Nat) : Bool :=
  s.spool.segs.any (fun g => g.job == job && (g.live || g.state == Sg.retained || (g.state == Sg.voting && g.votedAt.isSome)))

/-- Whether a job's key is in the store and not marked for erasure (R143, R144). -/
def State.keyLive (s : State) (job : Nat) : Bool := s.shell.keys.any (fun k => k.job == job && !k.marked)

/-- Whether a session holds a job's key. -/
def State.holdsKey (s : State) (n job : Nat) : Bool := s.shell.keys.any (fun k => k.job == job && k.holders.contains n)

/-- Erases the keys that nothing needs any more (R143): a marked key that no accepted or retained segment uses, whose
drops then end with DETAIL 0, and an unmarked key without holder or segment. -/
def State.eraseKeys (s : State) : State :=
  let gone := s.shell.keys.filter (fun k => k.marked && !s.keyBound k.job)
  let keys := s.shell.keys.filter (fun k =>
    if k.marked then s.keyBound k.job else !k.holders.isEmpty || s.keyUsed k.job)
  let s := { s with shell := { s.shell with keys := keys } }
  s.each (gone.flatMap JobKey.drops) (fun c s => s.finish c St.ok 0 (.bytes []))

/-! ## The end of a segment -/

/-- The flags of a SPOOL_SEG_STATUS entry. -/
def Seg.flags (g : Seg) : Nat := bit (g.isBroken || g.byReset) 0 + bit g.isFlagged 1 + bit g.keep 2 + bit g.group 3 + bit g.source.isSome 4

/-- The control block as it stands. -/
def Store.ctrl (st : Store) : Ctrl := ⟨st.seq, st.state, st.slot, st.utcFloor, st.counter⟩

/-- The control block is written into the copy that is not the latest (*Save store layout*). -/
def Store.ctrlWrite (f : Store → Store) (st : Store) : Store := { f st with older := st.ctrl, copyB := !st.copyB }

/-- Writes the ring entries that wait (R446): each its block, and the ring head in the control block; each sealed write raises the write
counter. -/
def State.writeRing (s : State) : State :=
  if s.power.ringDue.isEmpty then s else
  let st := s.power.store
  let ring := st.ring ++ s.power.ringDue
  let s := s.each s.power.ringDue (fun (e : RingEnt) => State.emit (.store "RING" [e.handle, e.state, e.flags]))
  { s with power := { s.power with
      ringDue := []
      store := { st.ctrlWrite (fun st => { st with counter := st.counter + 2 * s.power.ringDue.length }) with
        ring := ring.drop (ring.length - 65536) } } }

/-- The save store's handle-ring entry of a segment (R188, R446); it waits while a write that failed is to be retried. -/
def State.ringEntry (g : Seg) (st : Nat) (s : State) : State :=
  let f := bit g.keep 0 + bit g.group 1 + bit g.source.isSome 2 + bit g.isFlagged 3
  let s := { s with power := { s.power with ringDue := s.power.ringDue ++ [(⟨g.handle, st, f⟩ : RingEnt)] } }
  s.when s.power.retryAt.isNone State.writeRing

/-- The pods that a segment still holds. -/
def Seg.heldPods (g : Seg) : List Nat := g.strips.flatMap (fun t => if t.released then [] else t.pods)

/-- Removes a segment that never was accepted, or was refused: its pods return, its handle leaves the handle memory,
and packets whose strips were being checked reply 0x0202 with DETAIL 0x09 (R168, R170), also where the segment is refused and not
cancelled (DESIGN CHOICE, log entry 147). -/
def State.discard (g : Seg) (s : State) : State :=
  let s := { s with spool := { s.spool with segs := s.spool.segs.filter (fun x => x.handle != g.handle) } }
  let s := s.freePods g.heldPods
  let s := s.each (g.strips.filterMap Strip.cid) (fun c s => s.finish c St.segmentState Sg.cancelled (.bytes []))
  s.eraseKeys

/-- Refuses a segment at close, admission or vote (R32, R169): counted, discarded, and its close replies. -/
def State.refuseSeg (g : Seg) (st detail : Nat) (body : Body) (s : State) : State :=
  let s := s.bump Par.spoolSegRefused 1
  let s := s.discard g
  match g.closeCid with
  | none => s
  | some c => s.finish c st detail body

/-- Puts a finished segment into the handle memory and the records, at most 65,536 and 8,192 (R165, R185). -/
def State.remember (g : Seg) (outcome : Nat) (s : State) : State :=
  let recs := s.spool.records ++ [⟨{ g with state := outcome }⟩]
  { s with spool := { s.spool with
      records := recs.drop (recs.length - 8192) } }

/-- Puts a finished segment's handle into the handle memory, at most 65,536. -/
def State.rememberHandle (g : Seg) (outcome : Nat) (s : State) : State :=
  let d := s.spool.done ++ [⟨g.handle, outcome, if outcome = Sg.cancelled then 0 else g.lines, g.flags, g.opener⟩]
  { s with spool := { s.spool with done := d.drop (d.length - 65536) } }

/-- Ends the release of a retained segment that waits, once no repeat of it is left (R176). It enters the most recently finished handles
at its release, not at its last line (DESIGN CHOICE, log entry 146). -/
def State.endRelease (g : Seg) (s : State) : State :=
  let outcome := if g.isBroken then Sg.broken else Sg.complete
  let s := { s with spool := { s.spool with segs := s.spool.segs.filter (fun x => x.handle != g.handle) } }
  let s := (s.freePods g.heldPods).rememberHandle g outcome
  let s := s.each g.cancelCids (fun c s => s.finish c St.ok 0 (.bytes []))
  s.eraseKeys

/-- Ends the releases that waited for the repeats of a source (R176, R183). -/
def State.releaseSource (src : Option Nat) (s : State) : State :=
  match src with
  | none => s
  | some h =>
    match s.seg h with
    | none => s
    | some g =>
      if g.state == Sg.retained && !g.cancelCids.isEmpty && !s.spool.segs.any (fun x => x.source == some h) then s.endRelease g
      else s

/-- A segment finishes after its last line (R187): COMPLETE or BROKEN, or RETAINED when it carries KEEP. -/
def State.finishSeg (g0 : Seg) (s : State) : State :=
  let g := { g0 with tLast := s.ring }
  let outcome := if g.isBroken then Sg.broken else Sg.complete
  let p := g.printed
  let s := s.bump (if g.isBroken then Par.spoolSegBroken else Par.spoolSegComplete) 1
  let s := (s.bump Par.spoolLinesPrinted p).bump Par.spoolLinesNotPrinted (g.lines - p)
  let s := (s.remember g outcome).ringEntry g outcome
  if g.keep && g.source.isNone then
    (s.modSeg g.handle (fun _ => { g with state := Sg.retained })).eraseKeys
  else
    let s := { s with spool := { s.spool with segs := s.spool.segs.filter (fun x => x.handle != g.handle) } }
    (((s.freePods g.heldPods).rememberHandle g outcome).releaseSource g.source).eraseKeys

/-- A cancellation takes effect on an accepted segment (R176, R187, R42). -/
def State.cancelAccepted (g : Seg) (s : State) : State :=
  let g := { g with tLast := s.ring, ranges := [] }
  let s := { s with spool := { s.spool with segs := s.spool.segs.filter (fun x => x.handle != g.handle) } }
  let s := (s.freePods g.heldPods).bump Par.spoolSegCancelled 1
  let s := ((s.remember g Sg.cancelled).rememberHandle g Sg.cancelled).ringEntry g Sg.cancelled
  let s := { s with pos := { s.pos with rejects := s.pos.rejects.map (fun (o : RejOut) =>
    { o with queue := o.queue.filter (fun c => c.handle != some g.handle) }) } }
  let s := match g.edge with
    | some e => s.unservedEdge g.pgo e
    | none => s
  (s.releaseSource g.source).eraseKeys

/-! ## Broken promises (R43-R47) -/

/-- EV020 once per segment and cause (R44): handle, cause, heads, first line, and the column for cause 0x03. -/
def State.breakPromise (h cause heads line column : Nat) (s : State) : State :=
  match s.seg h with
  | none => s
  | some g =>
    if g.causes.contains cause then s
    else
      let s := s.modSeg h (fun g => { g with causes := cause :: g.causes })
      let s := s.raise Ev.promiseBroken 0 (leBytes 8 h ++ [BitVec.ofNat 8 cause] ++ leBytes 2 heads ++ leBytes 3 line ++ leBytes 2 column)
      s.lateReject h

/-! ## The admission rule (R35) -/

/-- A decision of the rule: accept, or refuse with status, DETAIL and body. -/
inductive Decision where
  | accept
  | refuse (st detail : Nat) (body : Body)
deriving DecidableEq, Repr

/-- The decode rate of a segment in whole Mbit/s (R35); a chart has none (R233). -/
def State.decodeRate (s : State) (g : Seg) : Nat :=
  if g.chart.isSome then 0
  else ceilDiv (((g.headList.map (fun h => s.par (Par.at_ Par.headUColCount h))).sum) * g.depth * g.rate) 1000000

/-- Lines of strip `k` of a segment (R161). -/
def Seg.stripLines (g : Seg) (k : Nat) : Nat := min 4096 (g.lines - 4096 * k)

/-- The read rate of a head scaled by 2^12 lines: the largest size × rate / lines among its strips, as a fraction. -/
def Seg.headRate (g : Seg) (h : Nat) : Nat × Nat :=
  (g.strips.filter (fun t => t.head == h)).foldl
    (fun b t => if b.1 * g.stripLines t.k < t.size * g.rate * b.2 then (t.size * g.rate, g.stripLines t.k) else b) (0, 1)

/-- The read rate of a segment in whole MB/s: the sum of its heads' rates, rounded up once (R35). -/
def Seg.readRateOf (g : Seg) : Nat :=
  let f := g.headList.foldl (fun (a : Nat × Nat) h => let r := g.headRate h; (a.1 * r.2 + r.1 * a.2, a.2 * r.2)) (0, 1)
  ceilDiv f.1 (f.2 * 1000000)

/-- The last line that a segment uses on the web once its range is known. -/
def Seg.lastPos (g : Seg) : Int := g.p0 + g.lines - 1

/-- Windows overlap on a shared head (R163). -/
def segOverlaps (a b : Seg) : Bool :=
  if a.printGo != b.printGo then true
  else if a.printGo then a.pgo != b.pgo
  else a.p0 ≤ b.lastPos && b.p0 ≤ a.lastPos

/-- The active range of an absolute segment (R34). -/
def State.activeRange (s : State) (g : Seg) : Int × Int :=
  (g.p0 - g.lead, g.lastPos + 63 + (((g.headList.map (fun h => s.par (Par.at_ Par.fireULineOffset h))).foldl max 0 : Nat) : Int))

/-- `may_overlap` of the decode and DRAM sums (R34). -/
def State.mayOverlap (s : State) (a b : Seg) : Bool :=
  if !a.printGo && !b.printGo then
    let x := s.activeRange a
    let y := s.activeRange b
    x.1 ≤ y.2 && y.1 ≤ x.2
  else !(a.printGo && b.printGo && a.pgo == b.pgo && (a.heads &&& b.heads) != 0)

/-- Lanes of a head port that are UP. -/
def State.lanesUp (s : State) (h : Nat) : List Nat :=
  [2 * h, 2 * h + 1].filter (fun u => s.par (Par.at_ Par.laneUState u) == 3)

/-- The head check of the rule: ready, rate, overlap, in the rule's order. -/
def State.admitHeads (g : Seg) (acc : List Seg) (s : State) : List Nat → Option Decision
  | [] => none
  | h :: hs =>
    if s.par (Par.at_ Par.headUState h) ≠ 5 then some (.refuse St.headNotReady h (.bytes []))
    else if min 240000 (s.par (Par.at_ Par.headUMaxLineRate h)) < g.rate then some (.refuse St.rateAboveHead h (.bytes []))
    else
      match acc.find? (fun t => bitAt t.heads h && segOverlaps g t) with
      | some t => some (.refuse St.positionOverlap 0 (.bytes (leBytes 8 t.handle)))
      | none => s.admitHeads g acc hs

/-- The lane check of the rule. -/
def State.admitLanes (g : Seg) (s : State) : List Nat → Option Decision
  | [] => none
  | h :: hs =>
    let need := ceilDiv (s.par (Par.at_ Par.headUSlots h) * g.depth * g.rate) 1000000
    let up := (s.lanesUp h).length
    if up * s.par (Par.at_ Par.laneUPayloadRate (2 * h)) < need then some (.refuse St.laneBudget (h + 256 * up) (.bytes []))
    else s.admitLanes g hs

/-- The lead of a segment in lines at its declared rate (R35). -/
def State.leadLines (s : State) (rate : Nat) : Nat := ceilDiv (s.par Par.spoolLeadTime * rate) 1000000

/-- The shortfall of a segment's lead (R35, R179): `extra` is how far the high-water mark is projected ahead. -/
def State.leadShort (s : State) (g : Seg) (extra : Nat) : Int :=
  if g.printGo then
    (s.leadLines g.rate + ceilDiv (s.par (Par.posPgo0Debounce + 4 * g.pgo) * g.rate) 1000000 + 1 : Nat) - (g.first : Int)
  else (s.leadLines g.rate : Int) - (g.p0 - (s.pos.hw + extra))

/-- The admission rule, checks in its order, for a segment whose strips are verified (R35). -/
def State.admission (g : Seg) (extra : Nat) (s : State) : Decision :=
  let acc := s.acceptedSet ++ s.spool.segs.filter (fun t => t.state == Sg.voting && t.votedAt.isSome && t.handle != g.handle)
  if acc.length ≥ 4096 then .refuse St.queueFull 0 (.bytes [])
  else
    match s.admitHeads g acc g.headList with
    | some d => d
    | none =>
      if 0 < s.leadShort g extra then .refuse St.leadTooShort (s.leadShort g extra).toNat (.bytes [])
      else
        match s.admitLanes g g.headList with
        | some d => d
        | none =>
          let g := { g with lead := s.leadLines g.rate }
          let near := acc.filter (s.mayOverlap g)
          let dec := s.decodeRate g + (near.map Seg.decRate).sum
          if s.par Par.spoolDecodeBudget < dec then .refuse St.decodeBudget (dec - s.par Par.spoolDecodeBudget) (.bytes [])
          else
            let mem := g.readRateOf + (near.map Seg.readRate).sum
            if s.par Par.spoolDramReservable < mem then .refuse St.dramBudget (mem - s.par Par.spoolDramReservable) (.bytes [])
            else .accept

/-- The largest sum of a rate over the windows of a set (R36): over each member, the sum with those that may overlap it. -/
def State.largestSum (s : State) (f : Seg → Nat) (acc : List Seg) : Nat :=
  (acc.map (fun g => f g + ((acc.filter (fun t => t.handle != g.handle && s.mayOverlap g t)).map f).sum)).foldl max 0

/-- SPOOL.DECODE_RESERVED and SPOOL.DRAM_RESERVED. -/
def State.decodeReserved (s : State) : Nat := s.largestSum Seg.decRate s.acceptedSet
def State.dramReserved (s : State) : Nat := s.largestSum Seg.readRate s.acceptedSet

/-- The segment with the rates and lead formed at its admission (R35, R37). -/
def State.formed (s : State) (g : Seg) : Seg :=
  { g with lead := s.leadLines g.rate, decRate := s.decodeRate g, readRate := g.readRateOf }

/-- Acceptance (R31): one instant, from which the segment is promised with the lead and rates formed at its admission, which for a
group segment was its vote (R35, R37); an absolute segment's reject candidate is fixed with its P0 (R261), and the handle ring is
written within 1 ms (R446). -/
def State.acceptSeg (g0 : Seg) (s : State) : State :=
  let g := if g0.votedAt.isSome then g0 else s.formed g0
  let s := s.modSeg g.handle (fun _ => { g with state := Sg.accepted, tAccept := s.ring, order := s.spool.nextOrder, closeCid := none })
  let s := { s with spool := { s.spool with nextOrder := s.spool.nextOrder + 1 } }
  let s := s.bump Par.spoolSegAccepted 1
  let s := s.when g.source.isSome (State.bump Par.spoolRepeats 1)
  let s := s.ringEntry g Sg.accepted
  let s := if g.printGo then s else s.refCand (s.par Par.posRejAbsOut) (65536 * g.p0) (some g.handle) false false
  match g.closeCid with
  | none => s
  | some c => s.finish c St.ok 0 (.bytes [])

/-- The admission rule for a segment whose job key may have been dropped before (R144): then 0x0307. -/
def State.judgeSeg (g : Seg) (extra : Nat) (s : State) : Decision :=
  if !s.keyLive g.job && g.chart.isNone then .refuse St.noJobKey 0 (.bytes []) else s.admission g extra

/-- Admission after verification of a segment that is not grouped (R169). -/
def State.decideSeg (g : Seg) (s : State) : State :=
  match s.judgeSeg g 0 with
  | .accept => s.acceptSeg g
  | .refuse st d b => s.refuseSeg g st d b

/-- The first strip of a segment that is short or failed, as 64h + k (R169). -/
def Seg.badStrip (g : Seg) : Option Nat :=
  (g.strips.find? (fun t => t.held < t.size || t.state == 2)).map (fun t => 64 * t.head + t.k)

/-- Verification of a closed segment: 0x0307 for a dropped key (R143), 0x0215 for a bad strip, and when every strip is
verified, admission or, for a group segment, the wait for its vote (R169, R178). -/
def State.verified (h : Nat) (s : State) : State :=
  match s.seg h with
  | none => s
  | some g =>
    if g.state != Sg.verifying then s
    else
      match g.badStrip with
      | some d => s.refuseSeg g St.verifyFailed d (.bytes [])
      | none =>
        if !s.keyLive g.job then s.refuseSeg g St.noJobKey 0 (.bytes [])
        else if g.strips.any (fun t => t.state != 1) then s
        else if g.group then s.modSeg h (fun g => { g with state := Sg.voting, verifiedAt := s.now })
        else s.decideSeg g

end Sys2Proof.Machine
end

