-- ==== Sys2Proof/Machine/Session.lean ====
section
/-! DEFINITION. Ownership transitions (R112) and the end of a session (R67, R68, R76, R121, R143, R170, R427). -/
namespace Sys2Proof.Machine

namespace Ow
/-- *Ownership states* (R112). -/
abbrev vacant : Nat := 0
abbrev owned : Nat := 1
abbrev offered : Nat := 2
abbrev reserved : Nat := 3
/-- OWN.HOLDER of the management port. -/
abbrev mgmtPort : Nat := 17
end Ow

/-- Reports a transition of ownership (R112): EV016 with both holders and the code. -/
def State.ownerChanged (old new code : Nat) (s : State) : State :=
  (s.bump Par.ownChanges 1).raise Ev.ownerChanged 0 [BitVec.ofNat 8 old, BitVec.ofNat 8 new, BitVec.ofNat 8 code]

/-- Ownership becomes vacant. -/
def State.vacate (s : State) : State :=
  { s with own := { s.own with state := 0, holder := 0, leaseEnd := 0, leaseMs := 0, byDefault := false, target := 0, endedSubject := 0, endedRole := 0 } }

/-- Ownership goes to a session with a lease in ms; 0 selects OWN.LEASE_DEFAULT (R116). -/
def State.grantTo (n lease : Nat) (s : State) : State :=
  let ms := if lease = 0 then s.par Par.ownLeaseDefault else lease
  { s with own := { s.own with
      state := 1, holder := n, leaseEnd := s.ring + 1000000 * ms, leaseMs := ms, byDefault := lease == 0, target := 0, endedSubject := 0, endedRole := 0 } }

/-- A lease lapses (transitions 0x04, 0x08, 0x0D): EV016, then EV017. -/
def State.lapse (code : Nat) (s : State) : State :=
  let old := s.own.holder
  (s.vacate.ownerChanged old 0 code).raise Ev.ownerLeaseLapsed 0 [BitVec.ofNat 8 old]

/-- The offer ends and the offerer owns as before (transition 0x0B): a log record of code 0x02 and no event. -/
def State.offerEnds (s : State) : State :=
  let s' := { s with own := { s.own with state := 1, target := 0 } }
  s'.record 2 4 0 [0x0B, BitVec.ofNat 8 s.own.holder, BitVec.ofNat 8 s.own.target]

/-- What the end of a session does to ownership (transitions 0x05, 0x06, 0x0B). -/
def State.ownSessionEnds (x : Session) (byClose : Bool) (s : State) : State :=
  if s.owns x.num then
    if byClose then s.vacate.ownerChanged x.num 0 0x05
    else
      { s with own := { s.own with state := 3, target := 0, endedSubject := x.subject, endedRole := x.role } }.ownerChanged
        x.num x.num 0x06
  else if s.own.state == 2 && s.own.target == x.num then s.offerEnds
  else s

/-- The flags of a mailbox whose sending or receiving side was reset (R427). -/
def Mailbox.sideReset (sender : Bool) (m : Mailbox) : Mailbox :=
  if m.state = 0 then m
  else if sender then { m with senderReset := true } else { m with preReset := true }

/-- The host side of the mailboxes is reset when no session is open (R427). -/
def State.hostSideReset (s : State) : State :=
  { s with mgmt := { s.mgmt with
      th := s.mgmt.th.map (Mailbox.sideReset false)
      tm := s.mgmt.tm.map (Mailbox.sideReset true) } }.bump Par.mgmtHostResets 1

/-- The holds of a session on job keys end (R143). -/
def State.endHolds (n : Nat) (s : State) : State :=
  { s with shell := { s.shell with keys := s.shell.keys.map (fun (k : JobKey) => { k with holders := k.holders.filter (· != n) }) } }.eraseKeys

/-- A session ends: its results stay for 8 s, its stage, subscription and capture go, its open segments are discarded,
its traffic secrets are erased with it (R137), its holds on keys end, and ownership moves (R76, R100, R105, R143, R170, R415). A cause of 0 stands for CLOSE, which
raises no EV012. -/
def State.endSession (n cause : Nat) (s : State) : State :=
  match s.session n with
  | none => s
  | some x =>
    let s := s.when (cause != 0) (State.raise Ev.sessionLost n [BitVec.ofNat 8 cause])
    let s := s.ownSessionEnds x (cause == 0)
    let s := { s with
      sessions := s.sessions.filter (fun y => y.num != n)
      parked := s.parked.filter (fun p => p.session != n)
      flights := s.flights.map (fun (f : Flight) => if f.of n then { f with endedAt := some s.now } else f)
      results := s.results.map (fun (r : Result) => if r.session == n && r.endedAt.isNone then { r with endedAt := some s.now } else r) }
    let s := s.each (s.spool.segs.filter (fun g => g.opener == n && g.state == Sg.opened)) State.discard
    let s := { s with spool := { s.spool with
      segs := s.spool.segs.map (fun (g : Seg) => if g.opener == n then { g with opener := 0 } else g)
      done := s.spool.done.map (fun (d : Done) => if d.opener == n then { d with opener := 0 } else d) } }
    let s := s.freePods x.capturePod.toList
    let s := s.endHolds n
    s.when s.sessions.isEmpty State.hostSideReset

end Sys2Proof.Machine
end

