-- ==== Sys2Proof/Machine/Own.lean ====
section
/-! DEFINITION. Ownership and election (05_ownership.md): claim, release, renewal, handover, pins, and the ends of lease,
offer and hold. -/
namespace Sys2Proof.Machine
open Host

/-- Whether a role may own (R113). -/
def State.mayOwn (s : State) (role : Nat) : Bool :=
  role == roleIntegrator || role == roleOperator || role == roleService
    || (role == roleVendor && s.par Par.shellCommissionState == 3)

/-- The reply body that names the lease (OWN_CLAIM, OWN_LEASE_RENEW and OWN_HANDOVER_ACCEPT reply body). -/
def State.leaseBody (s : State) : List Byte :=
  leBytes 8 s.own.leaseEnd ++ leBytes 4 s.own.leaseMs ++ leBytes 1 s.own.holder ++ [0, 0, 0]

/-- Refuses a claim with the holder in DETAIL (R116). -/
def claimLost (s : State) : State × Verdict := refuse St.claimLost s.own.holder s

/-- The role that counts as the holder's for a forced claim (R126). -/
def State.holderRole (s : State) : Nat :=
  if s.own.state = Ow.reserved then s.own.endedRole else s.role s.own.holder

/-- Grants a claim under a transition and replies with the lease. -/
def State.claim (n lease code : Nat) (s : State) : State × Verdict :=
  let old := s.own.holder
  let s := (s.grantTo n lease).ownerChanged old n code
  okay 0 s.leaseBody s

/-- OWN_CLAIM (R113, R116, R117, R126). A claim whose session has ended loses (DESIGN CHOICE, log entry 149). In RESERVED a forced claim
that also fits transition 0x07 takes that one (DESIGN CHOICE, log entry 150). -/
def effOwnClaim : Effect := fun c s =>
  needLen c 8 s <|
  let lease := leAt c.body 0 4
  let flags := leAt c.body 4 1
  if lease ≠ 0 ∧ (lease < 1000 ∨ 600000 < lease) then refuse St.valueRange 8 s
  else if 2 ≤ flags then refuse St.reservedNonzero 12 s
  else needZero c 5 3 s <|
  if !s.mayOwn c.role then refuse St.classForbidden 0 s
  else if flags = 1 ∧ c.role ≠ roleIntegrator then refuse St.classForbidden 0 s
  else if c.sn = 0 then claimLost s
  else if s.owns c.sn then
    let s := { s with own := { s.own with
      leaseMs := if lease = 0 then s.par Par.ownLeaseDefault else lease, byDefault := lease == 0 } }
    let s := s.renewFrom (s.arrivedRing c.cid)
    okay 0 s.leaseBody s
  else if s.own.state = Ow.vacant then s.claim c.sn lease 0x01
  else if s.own.state = Ow.reserved ∧ (s.session c.sn).elim false (fun x => x.subject == s.own.endedSubject) then
    s.claim c.sn lease 0x07
  else if flags = 1 ∧ s.holderRole ≠ roleIntegrator then s.claim c.sn lease 0x0C
  else claimLost s

/-- OWN_RELEASE (transition 0x03). -/
def effOwnRelease : Effect := fun c s =>
  needLen c 0 s <| needOwner c s <| okay 0 [] ((s.vacate).ownerChanged c.sn 0 0x03)

/-- OWN_LEASE_RENEW (R119). -/
def effOwnLeaseRenew : Effect := fun c s =>
  needLen c 0 s <| needOwner c s <| (let s := s.renewFrom (s.arrivedRing c.cid); okay 0 s.leaseBody s)

/-- OWN_HANDOVER_OFFER (R113, R123, transition 0x09). -/
def effOwnHandoverOffer : Effect := fun c s =>
  needLen c 4 s <| needZero c 1 3 s <|
  let n := leAt c.body 0 1
  match s.session n with
  | none => refuse St.badUnit 0 s
  | some x =>
    if n = s.own.holder then refuse St.badUnit 0 s
    else if !s.mayOwn c.role || !s.mayOwn x.role then refuse St.classForbidden 0 s
    else needOwner c s <|
      let s := { s with own := { s.own with
        state := Ow.offered, target := n, windowEnd := s.now + 1000000 * s.par Par.ownHandoverWindow } }
      okay 0 [] (s.record 2 4 0 [0x09, BitVec.ofNat 8 c.sn, BitVec.ofNat 8 n])

/-- OWN_HANDOVER_ACCEPT (R124, transition 0x0A). -/
def effOwnHandoverAccept : Effect := fun c s =>
  needLen c 0 s <|
  if !s.mayOwn c.role then refuse St.classForbidden 0 s
  else if s.own.state = Ow.offered ∧ s.own.target = c.sn then s.claim c.sn 0 0x0A
  else claimLost s

/-- Pins in ascending ID. -/
def State.sortedPins (s : State) : List Pin := sortBy Pin.id s.pins

/-- The status of one ID of OWN_UNPIN (R502). -/
def unpinStatus (role id : Nat) : Nat :=
  match idCheck id with
  | some st => st
  | none =>
    if (descOf id).elim true (fun d => d.access == .ro || d.access == .claim) || fixedRate id then St.readOnly
    else if mayWrite role id then St.ok else St.classForbidden

/-- An entry of a per-entry reply: ID, status and two reserved bytes. -/
def idEntry (id st : Nat) : List Byte := leBytes 4 id ++ leBytes 2 st ++ [0, 0]

/-- The end of a command that gives each entry a status of its own (R504): OK, or PARTIAL with the entries refused. -/
def perEntry (refused : Nat) (body : List Byte) (s : State) : State × Verdict :=
  if refused = 0 then (s, .done St.ok 0 (.bytes body)) else (s, .done St.partially refused (.bytes body))

/-- OWN_UNPIN (R502). -/
def effOwnUnpin : Effect := fun c s =>
  let n := leAt c.body 0 2
  if n = 0 ∨ 64 < n then refuse St.badCount 0 s
  else needLen c (4 + 4 * n) s <| needZero c 2 2 s <|
  let ids := items 4 n (c.body.drop 4)
  match if 1 < n then ids.findIdx? (· == 0xFFFFFFFF) else none with
  | some i => refuse St.valueRange (8 + 4 + 4 * i) s
  | none => needOwner c s <|
    if ids = [0xFFFFFFFF] then
      let ps := s.sortedPins
      let sts := ps.map (fun p => (p.id, if mayWrite c.role p.id then St.ok else St.classForbidden))
      perEntry (sts.filter (fun e => e.2 != 0)).length
        (leBytes 2 ps.length ++ [0, 0] ++ sts.flatMap (fun e => idEntry e.1 e.2))
        { s with pins := s.pins.filter (fun p => !mayWrite c.role p.id) }
    else
      let sts := ids.map (fun id => (id, unpinStatus c.role id))
      let ended := (sts.filter (fun e => e.2 == 0)).map Prod.fst
      perEntry (sts.filter (fun e => e.2 != 0)).length (leBytes 2 n ++ [0, 0] ++ sts.flatMap (fun e => idEntry e.1 e.2))
        { s with pins := s.pins.filter (fun p => !ended.contains p.id) }

/-- OWN_PIN_LIST (R506); OFFSET is checked before COUNT (DESIGN CHOICE, log entry 151). -/
def effOwnPinList : Effect := fun c s =>
  needLen c 4 s <|
  let o := leAt c.body 0 2
  let n := leAt c.body 2 2
  if 1023 < o then refuse St.valueRange 8 s
  else if n = 0 ∨ 512 < n then refuse St.badCount 0 s
  else
    let ps := (s.sortedPins.drop o).take n
    okay 0 (leBytes 2 s.pins.length ++ leBytes 2 ps.length
      ++ ps.flatMap (fun p => leBytes 4 p.id ++ leBytes 1 p.session ++ [0, 0, 0] ++ leBytes 8 p.t)) s

/-- LEASE_END (transitions 0x04 and 0x08). -/
def execLeaseEnd (t : Nat) (s : State) : Outcome State Fault Refusal :=
  let s := s.at_ t
  if s.own.state = Ow.vacant ∨ s.own.holder = Ow.mgmtPort ∨ s.ring < s.own.leaseEnd then .next s
  else .next (s.lapse (if s.own.state = Ow.reserved then 0x08 else 0x04))

/-- HANDOVER_WINDOW_END (transition 0x0B). -/
def execHandoverWindowEnd (t : Nat) (s : State) : Outcome State Fault Refusal :=
  let s := s.at_ t
  .next (s.when (s.own.state == Ow.offered && s.own.windowEnd ≤ s.now) State.offerEnds)

/-- MGMT_IDLE_EXPIRY (transition 0x0D): no SPI transaction for OWN.IDLE_LIMIT. -/
def execMgmtIdleExpiry (t : Nat) (s : State) : Outcome State Fault Refusal :=
  let s := s.at_ t
  .next (s.when (s.own.holder == Ow.mgmtPort && s.own.mgmtLast + 1000000 * s.par Par.ownIdleLimit ≤ s.now) (State.lapse 0x0D))

def execOwnClaim (t : Nat) (h : Hdr) (b : List Byte) (s : State) : Outcome State Fault Refusal :=
  .next (hostRow (.ownClaim t h b) 0x0401 t h b effOwnClaim s)

def execOwnRelease (t : Nat) (h : Hdr) (b : List Byte) (s : State) : Outcome State Fault Refusal :=
  .next (hostRow (.ownRelease t h b) 0x0402 t h b effOwnRelease s)

def execOwnLeaseRenew (t : Nat) (h : Hdr) (b : List Byte) (s : State) : Outcome State Fault Refusal :=
  .next (hostRow (.ownLeaseRenew t h b) 0x0403 t h b effOwnLeaseRenew s)

def execOwnHandoverOffer (t : Nat) (h : Hdr) (b : List Byte) (s : State) : Outcome State Fault Refusal :=
  .next (hostRow (.ownHandoverOffer t h b) 0x0404 t h b effOwnHandoverOffer s)

def execOwnHandoverAccept (t : Nat) (h : Hdr) (b : List Byte) (s : State) : Outcome State Fault Refusal :=
  .next (hostRow (.ownHandoverAccept t h b) 0x0405 t h b effOwnHandoverAccept s)

def execOwnUnpin (t : Nat) (h : Hdr) (b : List Byte) (s : State) : Outcome State Fault Refusal :=
  .next (hostRow (.ownUnpin t h b) 0x0406 t h b effOwnUnpin s)

def execOwnPinList (t : Nat) (h : Hdr) (b : List Byte) (s : State) : Outcome State Fault Refusal :=
  .next (hostRow (.ownPinList t h b) 0x0408 t h b effOwnPinList s)

end Sys2Proof.Machine
end

