-- ==== Sys2Proof/Machine/Cal.lean ====
section
/-! DEFINITION. Calibration and self-check (21_calibration_and_self_check.md): fuse records, interpolation of trims, held
outputs, CAL_VERIFY, CAL_RUN and the hold-up capacitor test. -/
namespace Sys2Proof.Machine
open Host

/-! ## Trimmed elements (R457-R461) -/

/-- Elements with a temperature set, and those that are field-trimmable (*Trimmed elements*). -/
def hasTset (e : Nat) : Bool := [1, 2, 3, 4, 5, 6].contains e
def fieldTrims (e : Nat) : Bool := [4, 5, 6, 7].contains e

/-- Verify tolerance of an element, in 0.1 of its unit, and that of its second unit where it has one (*Trimmed elements*). -/
def tolerance (e : Nat) : Nat × Nat :=
  match e with
  | 0 => (20, 0) | 1 => (200, 0) | 2 => (50, 10) | 3 => (40, 5) | 4 => (5, 0) | 5 => (5, 0) | 6 => (20, 0) | 7 => (50, 0) | _ => (0, 0)

def noTrim : Trim := ⟨false, false, 0, [], 0, [], [], 0, false, false⟩

/-- A trimmed element's state. -/
def State.trim (s : State) (e : Nat) : Trim := nth s.cal.trims noTrim e

/-- Changes one element. -/
def State.modTrim (e : Nat) (f : Trim → Trim) (s : State) : State := { s with cal := { s.cal with trims := modNth f e s.cal.trims } }

/-- CAL.ELEMENT_STATE: 0 factory, 1 field-trimmed, 2 stale, 3 not present; elements 9-15 are never present. -/
def State.elementState (s : State) : Nat :=
  ((List.range 16).map (fun e =>
    let x := s.trim e
    4 ^ e * (if 9 ≤ e then 3 else if x.stale then 2 else if x.trimmed then 1 else 0))).sum

/-- Whether a copy of an element's fuse record is whole (*Calibration record*): its element, its reserved bits, its length and its
check word. -/
def recordHolds (e : Nat) (b : List Byte) : Bool :=
  let v := leAt b 1 1 * (if bitAt (leAt b 0 1) 4 then 3 else 1)
  leAt b 0 1 % 16 == e && leAt b 0 1 / 32 == 0 && leAt b 2 2 == 0 && 1 ≤ leAt b 1 1 && leAt b 1 1 ≤ 64 && b.length == 8 + 2 * v
    && leAt b (4 + 2 * v) 4 == crc32 (b.take (4 + 2 * v))

/-- The values of a record. -/
def recordValues (b : List Byte) : List Int :=
  (List.range ((b.length - 8) / 2)).map (fun i => signed 16 (leAt b (4 + 2 * i) 2))

/-- EV116 for an element whose output goes stale (R461). -/
def State.goStale (e : Nat) (s : State) : State :=
  if (s.trim e).stale then s
  else ((s.modTrim e (fun x => { x with stale := true })).bump Par.calStaleEvents 1).raiseKeyed Ev.calStale 0 e [BitVec.ofNat 8 e]

/-- Reads the fuse records of an element at device reset (R457): copy A, else copy B, else its design default. -/
def State.readTrim (e : Nat) (copies : List Byte × List Byte) (s : State) : State :=
  let take := fun (b : List Byte) (s : State) =>
    s.modTrim e (fun _ =>
      let ts := bitAt (leAt b 0 1) 4
      { noTrim with
        fused := true, tset := ts, count := leAt b 1 1, values := recordValues b, at_ := s.now
        next := if ts then [] else recordValues b, out := if ts then [] else recordValues b })
  if recordHolds e copies.1 then take copies.1 s
  else if recordHolds e copies.2 then take copies.2 s
  else (s.modTrim e (fun _ => { noTrim with at_ := s.now })).goStale e

/-- A quotient to the nearest whole number; a tie goes as the implementation rounds it (log entry 14). -/
def nearestStep (num : Int) (den : Nat) : Int :=
  let q := num / (den : Int)
  let r := (num % (den : Int)).toNat
  if 2 * r < den then q else if den < 2 * r then q + 1 else q + (Config.roundUp 9 r den).toNat

/-- One trim between its three values at a die temperature in 1/16 °C (R459). -/
def interpolate (v : Int × Int × Int) (tj : Int) : Int :=
  if tj ≤ -640 then v.1
  else if tj < 400 then v.1 + nearestStep ((v.2.1 - v.1) * (tj + 640)) 1040
  else if tj < 1680 then v.2.1 + nearestStep ((v.2.2 - v.2.1) * (tj - 400)) 1280
  else v.2.2

/-- The values of an element before its field offset. -/
def Trim.base (x : Trim) (tj : Int) : List Int :=
  if x.tset then
    (List.range x.count).map (fun i => interpolate (nth x.values 0 (3 * i), nth x.values 0 (3 * i + 1), nth x.values 0 (3 * i + 2)) tj)
  else x.values

/-- A refresh of an element: elements but LTRIG_DLY and GO_DLY take the values at once, HOP_DLY under the limit of R368 (R459-R461). -/
def State.refresh (e : Nat) (tj : Int) (s : State) : State :=
  let s := s.modTrim e (fun x => { x with
    next := (x.base tj).map (· + x.offset), at_ := s.now, stale := !x.fused && !x.trimmed })
  let s := if e = 4 ∨ e = 5 then s else s.takeTrims e
  s.when (!(s.trim e).stale && s.cond Ev.calStale e) (State.endCond Ev.calStale e)

/-- CAL_STALE (R461): no refresh has reached the outputs of an element with a temperature set for 10 ms. -/
def execCalStale (t element : Nat) (s : State) : Outcome State Fault Refusal :=
  let s := s.at_ t
  if hasTset element && (s.trim element).at_ + 10000000 ≤ s.now then .next (s.goStale element) else .next s

/-! ## Verification and field trimming (R462, R463) -/

/-- Whether a measured deviation lies beyond a multiple of an element's tolerance. -/
def beyond (k e : Nat) (d : Int × Int) : Bool := k * (tolerance e).1 < d.1.natAbs || ((tolerance e).2 != 0 && k * (tolerance e).2 < d.2.natAbs)

/-- The elements that a request names. -/
def namedElements (mask : Nat) : List Nat := maskUnits 16 mask

/-- CAL_VERIFY (R462). `devs` holds, by element, the deviations measured in 0.1 of its units, and none where it was not measured. -/
def effCalVerify (devs : List (Option (Int × Int × Int))) : Effect := fun c s =>
  needLen c 4 s <| needZero c 2 2 s <| needLearn c .oper s <| needOwner c s <|
  let found := (namedElements (leAt c.body 0 4)).map (fun e => (e, if 8 ≤ e then none else nth devs none e))
  let bad := (found.filter (fun f => f.2.elim false (fun d => beyond 1 f.1 (d.1, d.2.1)))).map Prod.fst
  let reply := found.flatMap (fun f =>
    leBytes 2 (twos 16 (f.2.elim 0 (fun d => d.1)))
      ++ leBytes 1 (bit (bad.contains f.1) 0 + bit f.2.isNone 1 + bit ((s.trim f.1).stale) 2) ++ [0])
  let s := s.each bad (fun e s => s.raise Ev.calDeviation 0 [BitVec.ofNat 8 e])
  okay 0 reply s

/-- The outcome of CAL_RUN for one element (R463). -/
def trimOutcome (devs : List (Int × Int × Int)) (e : Nat) : Nat :=
  let d := nth devs (0, 0, 0) e
  if !fieldTrims e then 1 else if beyond 4 e (d.1, d.2.1) then 2 else 0

/-- CAL_RUN (R463): the field offset is the negation of the measured deviation. `devs` holds, by element, the deviations in 0.1 of
its units and in steps of its trims. -/
def effCalRun (devs : List (Int × Int × Int)) : Effect := fun c s =>
  needLen c 4 s <| needZero c 2 2 s <| needChange c .oper s <| needOwner c s <|
  let es := namedElements (leAt c.body 0 4)
  let timed := es.any (fun e => e == 4 || e == 5 || e == 6)
  match (if timed then s.runningState else none) with
  | some st => refuse St.segmentState st s
  | none =>
    let tj := signed 16 (s.par Par.calTj)
    let s := s.each es (fun e s =>
      match trimOutcome devs e with
      | 0 =>
        let s := s.modTrim e (fun x => { x with offset := -(nth devs (0, 0, 0) e).2.2, trimmed := true })
        s.refresh e tj
      | 1 => s
      | _ => s.raise Ev.calDeviation 0 [BitVec.ofNat 8 e])
    okay 0 (pad4 (es.map (fun e => BitVec.ofNat 8 (trimOutcome devs e)))) s

/-! ## The hold-up capacitor test (R466, R467) -/

/-- CAL_HOLDUP_TEST (R466): HOLD_TST rises and the reply waits for the measurement; a command that finds one running waits for it (DESIGN
CHOICE, log entry 122). `mv` is the HOLD rail as HOLD_SNS reads it. -/
def effCalHoldupTest (mv : Nat) : Effect := fun c s =>
  needLen c 0 s <| needChange c .oper s <| needOwner c s <|
  let s := s.setPar Par.powerHoldMv (mv % 65536)
  match s.runningState with
  | some st => refuse St.segmentState st s
  | none =>
    match s.cal.holdup with
    | some (cids, load) => ({ s with cal := { s.cal with holdup := some (cids ++ [c.cid], load) } }, .later)
    | none =>
      if mv % 65536 < 11500 then refuse St.segmentState 0 s
      else (({ s with cal := { s.cal with holdup := some ([c.cid], s.par Par.calHoldupLoad) } }).emit (.pin "HOLD_TST" 1), .later)

/-- Sums of a least-squares fit over samples one step apart: n²·covariance and n²·variance of the step. -/
def fitSums (ys : List Nat) : Int × Int :=
  let n : Int := ys.length
  let sy : Int := (ys.map Int.ofNat).sum
  let sx : Int := n * (n - 1) / 2
  let sxy : Int := (ys.zipIdx.map (fun ((y, i) : Nat × Nat) => (y : Int) * i)).sum
  let sxx : Int := (n - 1) * n * (2 * n - 1) / 6
  (n * sxy - sx * sy, n * sxx - sx * sx)

/-- The samples of the fit (R466): from 5 µs until the rail has fallen 400 mV below V0, the mean of `before`, or until 2 ms. -/
def fitSamples (before after : List Nat) : List Nat :=
  ((after.take 20000).drop 50).takeWhile (fun v => decide (before.sum < before.length * (v + 400)))

/-- C in µF, I / slope over samples in mV at 10 MS/s, and ESR in mΩ, (V0 − V1) / I, both rounded down (DESIGN CHOICE, log entry 176); none
where the rail does not fall, or the result leaves its field. -/
def holdupC (load : Nat) (before after : List Nat) : Option Nat :=
  let f := fitSums (fitSamples before after)
  if 0 ≤ f.1 then none else some (load * f.2.toNat / (10 * (-f.1).toNat)) |>.filter (· < 65536)
def holdupR (load : Nat) (before after : List Nat) : Option Nat :=
  let v1 := nth after 0 20
  if before.sum < before.length * v1 ∨ load * before.length = 0 then none
  else some ((before.sum - before.length * v1) * 1000 / (load * before.length)) |>.filter (· < 65536)

/-- HOLDUP_TEST_DONE (R466): HOLD_SNS in mV at the rail, sampled at 10 MS/s in the 10 µs before HOLD_TST rose and from its rise on; a
result that the samples do not give is free (log entry 176). The reply carries the board record's HOLD_UF, 0 while none is in use. -/
def execHoldupTestDone (t : Nat) (before after : List Nat) (_slope _fitted : Computed) (s : State) : Outcome State Fault Refusal :=
  let s := s.at_ t
  match s.cal.holdup with
  | none => .next s
  | some (cids, load) =>
    let uf := (holdupC load before after).getD ((Config.reading Par.calHoldupUf s.now).toNat % 65536)
    let mohm := (holdupR load before after).getD ((Config.reading Par.calHoldupMohm s.now).toNat % 65536)
    let s := ({ s with cal := { s.cal with holdup := none } }).emit (.pin "HOLD_TST" 0)
    let s := (s.setPar Par.calHoldupUf uf).setPar Par.calHoldupMohm mohm
    let s := s.when (uf < 820 || 50 < mohm) (State.raise Ev.holdupTestFailed 0 (leBytes 2 uf ++ leBytes 2 mohm))
    .next (s.each cids (fun cid s => s.finish cid St.ok 0 (.bytes (leBytes 2 uf ++ leBytes 2 mohm ++ leBytes 2 (s.power.board.elim 0 Board.holdUf) ++ [0, 0]))))

/-- A sag ends the test: HOLD_TST falls at once, and the command ends (R467). -/
def State.abandonHoldup (s : State) : State :=
  match s.cal.holdup with
  | none => s
  | some (cids, _) =>
    (({ s with cal := { s.cal with holdup := none } }).emit (.pin "HOLD_TST" 0)).each cids (fun cid s => s.finish cid St.unitFault 0x1400 (.bytes []))

def execCalRun (t : Nat) (h : Hdr) (b : List Byte) (devs : List (Int × Int × Int)) (s : State) : Outcome State Fault Refusal :=
  .next (hostRow (.calRun t h b devs) 0x1401 t h b (effCalRun devs) s)

def execCalVerify (t : Nat) (h : Hdr) (b : List Byte) (devs : List (Option (Int × Int × Int))) (s : State) : Outcome State Fault Refusal :=
  .next (hostRow (.calVerify t h b devs) 0x1402 t h b (effCalVerify devs) s)

def execCalHoldupTest (t : Nat) (h : Hdr) (b : List Byte) (mv : Nat) (s : State) : Outcome State Fault Refusal :=
  .next (hostRow (.calHoldupTest t h b mv) 0x1403 t h b (effCalHoldupTest mv) s)

end Sys2Proof.Machine
end

