-- ==== Sys2Proof/Machine/Ring.lean ====
section
/-! DEFINITION. Frames of the Causeway: building and sending, acceptance and forwarding (R151, R152, R356-R360), which
stitch zones, group votes and the ring's own upkeep share. -/
namespace Sys2Proof.Machine

/-- A member by address. -/
def State.member (s : State) (a : Nat) : Option Member := s.cause.members.find? (fun m => m.addr == a)

/-- A member of which nothing is known yet. -/
def newMember (a : Nat) : Member := ⟨a, [], none, none, 0x7FF, 0x7FF, 0, 0, 0x7FF, 0xFF, false⟩

/-- Changes what is known of a member, in ascending address. -/
def State.modMember (a : Nat) (f : Member → Member) (s : State) : State :=
  let ms := if (s.member a).isSome then s.cause.members.map (fun (m : Member) => if m.addr == a then f m else m)
    else insertBy Member.addr (f (newMember a)) s.cause.members
  { s with cause := { s.cause with members := ms } }

/-- Fields of a frame. -/
def cfType (f : CFrame) : Nat := leAt f.bytes 0 1
def cfGen (f : CFrame) : Nat := leAt f.bytes 2 1
def cfSrc (f : CFrame) : Nat := leAt f.bytes 4 2 % 2048
def cfDst (f : CFrame) : Nat := leAt f.bytes 6 2 % 2048
def cfHops (f : CFrame) : Nat := leAt f.bytes 8 2 % 2048
def cfLen (f : CFrame) : Nat := leAt f.bytes 10 2
def cfCtr (f : CFrame) : Nat := leAt f.bytes 12 8
def cfTag (f : CFrame) : Nat := leAt f.bytes (20 + cfLen f) 8

/-- Whether the tag of a frame verifies under the ring key of its generation (R151, R360). -/
def State.ringTagOk (s : State) (f : CFrame) : Bool :=
  match s.ringKey (cfGen f) with
  | some key => (f.bytes.drop (20 + cfLen f)).take 8 == ringTag key (f.bytes.take (20 + cfLen f))
  | none => false

/-- A payload field: its offset in the frame and its bytes. -/
def cfAt (f : CFrame) (o n : Nat) : Nat := leAt f.bytes o n

/-- PLEN that a TYPE has; a KEY fragment has up to 516 (*Causeway payloads*). -/
def plenOk (ftype n : Nat) : Bool :=
  if ftype = 0x0A then decide (8 ≤ n ∧ n ≤ 516 ∧ n % 4 = 0)
  else match lookup ftype [(1, 12), (2, 4), (3, 40), (8, 4), (9, 28), (0x0B, 16), (0x10, 16), (0x11, 16), (0x12, 16), (0x13, 16), (0x20, 40),
      (0x21, 12), (0x22, 12), (0x23, 12), (0x30, 16)] with
    | some m => n == m
    | none => false

/-- Whether a frame arrived on ring A: at West A, or on East A's return direction for TIME. -/
def onRingA (f : CFrame) : Bool := f.lane == westA || f.lane == eastA

/-- Forwards a frame to the same ring's next lane (R357, R358), HOPS raised by 1; TIME is never forwarded. -/
def State.forward (f : CFrame) (s : State) : State :=
  let next := if f.lane = westA then some eastA else if f.lane = eastB then some westB else none
  match next with
  | none => s
  | some u =>
    if cfType f = 1 ∨ (cfSrc f = s.address ∧ s.address ≠ 0x7FF) ∨ (cfDst f = s.address ∧ cfDst f ≠ 0x7FF) ∨ 1023 ≤ cfHops f then s
    else s.sendOn [u] (f.bytes.take 8 ++ leBytes 2 (cfHops f + 1) ++ f.bytes.drop 10)

/-- A frame that fails R152, also by its generation (R360): counted, EV072 at most once per second. -/
def State.ringAuthFail (s : State) : State :=
  (s.bump Par.causeAuthFail 1).raiseLimited Ev.causeAuthFail 0 0 []

/-- Whether the generation of a frame is one that the member accepts for its type (R360, R362). -/
def State.genOk (s : State) (f : CFrame) : Bool :=
  if [8, 9, 0x0A, 0x0B].contains (cfType f) then cfGen f == 0
  else cfGen f != 0 && (cfGen f == s.par Par.causeGeneration || match s.cause.oldGen with
    | some o => cfGen f == o.gen && s.ring < o.stop
    | none => false)

/-- What the check of a frame finds (R152, R359, R360): accepted, a duplicate of a copy accepted before, or failing. -/
inductive Check where
  | ok | dup | bad
deriving DecidableEq, Repr

/-- A frame that R360 discards before its tag is looked at: too long, of an unlisted TYPE or another version, or with a PLEN that disagrees. -/
def cfMalformed (f : CFrame) : Bool :=
  let n := cfLen f
  f.bytes.length != 28 + n || decide (548 ≤ f.bytes.length) || leAt f.bytes 1 1 % 16 != 1 || n % 4 != 0 || !plenOk (cfType f) n

/-- A frame of a sender that holds no address. -/
def cfAnon (f : CFrame) : Bool := cfGen f == 0 && cfSrc f == 0x7FF

/-- Who sent a frame without an address: the ID that it carries, or the run of an enumerator (DEDUCED, log entry 86). -/
def cfSender (f : CFrame) : Nat :=
  if cfType f = 0x0B then cfAt f 20 16 else if cfType f = 9 then cfAt f 24 16 else 2 ^ 128 + cfAt f 20 4

/-- The frames accepted from the sender of a frame in its generation, newest counter first (R152). -/
def State.seenOf (s : State) (f : CFrame) : List (Nat × Nat) :=
  ((if cfAnon f then s.cause.anon.filter (fun e => e.1 == cfSender f)
    else ((s.member (cfSrc f)).elim [] Member.seen).filter (fun e => e.1 == cfGen f))).map Prod.snd

/-- The check of a frame (R7: reserved bits of a received frame are ignored). -/
def State.checkFrame (s : State) (f : CFrame) : Check :=
  if cfMalformed f || !s.genOk f || !s.ringTagOk f then .bad
  else
    let seen := s.seenOf f
    if seen.contains (cfCtr f, cfTag f) then .dup
    else if seen.any (fun e => e.1 == cfCtr f) then .bad
    else match seen.head? with
      | some (top, _) => if cfCtr f + 64 < top then .bad else .ok
      | none => .ok

/-- The window of a generation after a frame is accepted: newest counter first, the 64 below it. -/
def noteSeen (gen ctr tag : Nat) (l : List (Nat × Nat × Nat)) : List (Nat × Nat × Nat) :=
  let own := insertBy (fun e => 2 ^ 64 - e.2.1) (gen, ctr, tag) (l.filter (fun e => e.1 == gen))
  own.filter (fun e => match own.head? with | some (_, top, _) => decide (top ≤ e.2.1 + 64) | none => true) ++ l.filter (fun e => e.1 != gen)

/-- Takes a frame of a type: forwards it, checks it, and tells whether its content acts. Nothing comes from the island while it
resynchronises (R28). -/
def State.takeRing (ftype : Nat) (f : CFrame) (s : State) : State × Bool :=
  if s.holding 12 then (s, false)
  else
  let s := s.forward f
  if cfSrc f = s.address ∧ s.address ≠ 0x7FF then (s, false)
  else if cfMalformed f then (s.bump Par.causeAuthFail 1, false)
  else if cfType f ≠ ftype then (s, false)
  else match s.checkFrame f with
    | .bad => (s.ringAuthFail, false)
    | .dup => (s.bump Par.causeDuplicates 1, false)
    | .ok =>
      (if cfAnon f then { s with cause := { s.cause with anon := noteSeen (cfSender f) (cfCtr f) (cfTag f) s.cause.anon } }
        else s.modMember (cfSrc f) (fun m => { m with seen := noteSeen (cfGen f) (cfCtr f) (cfTag f) m.seen }),
        cfDst f == 0x7FF || cfDst f == s.address)

/-- The period of a periodic frame has passed since it was last sent. -/
def State.sendDue (s : State) (key period : Nat) : Bool := match lookup key s.cause.sentAt with
  | some l => decide (l + period ≤ s.now)
  | none => true

/-- Notes that a periodic frame is sent now. -/
def State.noteSent (key : Nat) (s : State) : State :=
  { s with cause := { s.cause with sentAt := (key, s.now) :: s.cause.sentAt.filter (fun e => e.1 != key) } }

/-- A peer is reachable: a BEACON of its address was heard on either ring within CAUSE.PATH_TIMEOUT (R375). -/
def State.reachable (s : State) (a : Nat) : Bool :=
  let near := fun (x : Option Nat) => match x with
    | some l => decide (s.now < l + 1000000 * s.par Par.causePathTimeout)
    | none => false
  match s.member a with
  | some m => near m.heardA || near m.heardB
  | none => false

end Sys2Proof.Machine
end

