-- ==== Sys2Proof/Machine/Vote.lean ====
section
/-! DEFINITION. Group votes (R178-R181, R374): admission of a group segment, votes, commit and abort. -/
namespace Sys2Proof.Machine
open Host

/-- The segment of a group that this member holds. -/
def State.groupSeg (s : State) (group : Nat) : Option Seg :=
  s.spool.segs.find? (fun g => g.group && g.groupId == group && g.state ≤ Sg.voting)

/-- Lines from now to 2.5 ms after the PREPARE at the declared rate (R179). -/
def State.voteExtra (s : State) (g : Seg) (sentAt : Nat) : Nat := ceilDiv (g.rate * (sentAt + 2500000 - s.ring)) 1000000000

/-- Sends this member's vote to the coordinator. -/
def State.sendVote (dst group : Nat) (yes : Bool) (s : State) : State :=
  s.sendRing 0x11 dst (leBytes 8 group ++ leBytes 1 (if yes then 1 else 0) ++ List.replicate 7 0)

/-- Runs admission for a group segment in VOTING and votes its result (R178, R179); without ring time the vote is no
(R368). A segment whose key was dropped before is refused with 0x0307 (R144), and its vote is no. -/
def State.castVote (g : Seg) (p : Prepare) (s : State) : State :=
  if !s.keyLive g.job then (s.refuseSeg g St.noJobKey 0 (.bytes [])).sendVote p.src p.group false else
  let yes := match s.admission g (s.voteExtra g p.t) with
    | .accept => !s.cause.timeLost
    | .refuse _ _ _ => false
  let s := s.when yes (State.modSeg g.handle (fun g => { (s.formed g) with votedAt := some s.now }))
  s.sendVote p.src p.group yes

/-- Verification of a closed segment (R169), and the vote that waited for it (R178). -/
def State.verifiedVote (h : Nat) (s : State) : State :=
  match s.seg h with
  | none => s
  | some g =>
    let s := s.verified h
    match s.cause.prepares.find? (fun p => g.group && p.group == g.groupId) with
    | none => s
    | some p =>
      let done := { s with cause := { s.cause with prepares := s.cause.prepares.filter (fun q => q.group != p.group) } }
      match s.seg h with
      | none => done.sendVote p.src p.group false
      | some g => if g.state = Sg.voting then done.castVote g p else s

/-- Replies to the commands that a refused group segment holds: SPOOL_GROUP_ARM with 0x0213, cancellations with OK. -/
def State.refuseGroup (g : Seg) (addr : Nat) (s : State) : State :=
  let s := s.refuseSeg g St.groupAborted addr (.bytes [])
  let s := s.each g.armCid.toList (fun c s => s.finish c St.groupAborted addr (.bytes []))
  s.each g.cancelCids (fun c s => s.finish c St.ok 0 (.bytes []))

/-- The coordinator aborts its group (R178): ABORT with the first member that voted no or stayed silent, and EV023. -/
def State.abortGroup (v : Vote) (first : Nat) (s : State) : State :=
  let s := { s with cause := { s.cause with votes := s.cause.votes.filter (fun w => w.group != v.group) } }
  let s := s.sendRing 0x13 0x7FF (leBytes 8 v.group ++ leBytes 2 first ++ List.replicate 6 0)
  let s := match s.seg v.handle with
    | some g => s.refuseGroup g first
    | none => s
  s.raise Ev.groupAborted 0 (leBytes 8 v.handle ++ leBytes 2 first)

/-- Every vote has arrived (R178): COMMIT names an instant 0.5 ms later. -/
def State.commitGroup (v : Vote) (s : State) : State :=
  let t := s.ring + 500000
  let s := { s with cause := { s.cause with
    votes := s.cause.votes.filter (fun w => w.group != v.group), commits := s.cause.commits ++ [(v.group, t)] } }
  s.sendRing 0x12 0x7FF (leBytes 8 v.group ++ leBytes 8 t)

/-- SPOOL_GROUP_ARM (R178, R179, R181). -/
def effSpoolGroupArm : Effect := fun c s =>
  needLen c 16 s <|
  let h := leAt c.body 0 8
  let group := leAt c.body 8 8
  match s.seg h, s.tracked h with
  | none, none => refuse St.unknownHandle 0 s
  | none, some st => needFeed c s <| needOwner c s <| refuse St.segmentState st s
  | some g, _ =>
    needFeed c s <| needOwner c s <|
    if g.state ≠ Sg.voting ∨ !g.group ∨ g.groupId ≠ group ∨ g.coord ≠ s.address ∨ g.votedAt.isSome then refuse St.segmentState g.state s
    else
      let v : Vote := ⟨group, h, s.ring, []⟩
      let s := s.modSeg h (fun g => { g with armCid := some c.cid })
      let g := { g with armCid := some c.cid }
      let ok := match s.admission g (s.voteExtra g s.ring) with
        | .accept => !s.cause.timeLost
        | .refuse _ _ _ => false
      if !s.keyLive g.job then
        let s := (s.refuseSeg g St.noJobKey 0 (.bytes [])).finish c.cid St.noJobKey 0 (.bytes [])
        (s.raise Ev.groupAborted 0 (leBytes 8 h ++ leBytes 2 s.address), .later)
      else if !ok then
        ((s.refuseGroup g s.address).raise Ev.groupAborted 0 (leBytes 8 h ++ leBytes 2 s.address), .later)
      else
        let s := s.modSeg h (fun g => { (s.formed g) with votedAt := some s.now })
        let s := { s with cause := { s.cause with votes := s.cause.votes ++ [v] } }
        (s.sendRing 0x10 0x7FF (leBytes 8 group ++ leBytes 8 s.ring), .later)

def execSpoolGroupArm (t : Nat) (h : Hdr) (b : List Byte) (s : State) : Outcome State Fault Refusal :=
  .next (hostRow (.spoolGroupArm t h b) 0x0505 t h b effSpoolGroupArm s)

/-- PREPARE (R178, R374): admission and a vote, at once or when verification ends; a PREPARE of another than the segment's
coordinator is ignored. -/
def execPrepare (t : Nat) (f : CFrame) (s : State) : Outcome State Fault Refusal :=
  let (s, acts) := (s.at_ t).takeRing 0x10 f
  if !acts then .next s
  else
    let p : Prepare := ⟨cfAt f 20 8, cfSrc f, cfAt f 28 8⟩
    match s.groupSeg p.group with
    | none => .next (s.sendVote p.src p.group false)
    | some g =>
      if g.coord ≠ p.src then .next (s.bump Par.causePrepareIgnored 1)
      else if g.state = Sg.voting then
        if g.votedAt.isSome then .next s else .next (s.castVote g p)
      else if g.state = Sg.verifying then .next { s with cause := { s.cause with prepares := s.cause.prepares ++ [p] } }
      else .next (s.sendVote p.src p.group false)

/-- VOTE (R178): a vote reaches the coordinator. -/
def execVote (t : Nat) (f : CFrame) (s : State) : Outcome State Fault Refusal :=
  let (s, acts) := (s.at_ t).takeRing 0x11 f
  match s.cause.votes.find? (fun v => v.group == cfAt f 20 8) with
  | none => .next s
  | some v =>
    if !acts then .next s
    else if !bitAt (cfAt f 28 1) 0 then .next (s.abortGroup v (cfSrc f))
    else if v.yes.contains (cfSrc f) then .next s
    else
      let v := { v with yes := v.yes ++ [cfSrc f] }
      let s := { s with cause := { s.cause with votes := s.cause.votes.map (fun w => if w.group == v.group then v else w) } }
      let want := (s.seg v.handle).elim 0 (fun g => g.members - 1)
      if want ≤ v.yes.length then .next (s.commitGroup v) else .next s

/-- GROUP_VOTE_TIMEOUT (R178, R374): 2 ms from the PREPARE without every vote; the first silent member is named. -/
def execGroupVoteTimeout (t group : Nat) (s : State) : Outcome State Fault Refusal :=
  let s := s.at_ t
  match s.cause.votes.find? (fun v => v.group == group) with
  | none => .next s
  | some v =>
    if s.ring < v.sentAt + 2000000 then .next s
    else
      let silent := (List.range (s.par Par.causeMembers)).find? (fun a => a != s.address && !v.yes.contains a)
      .next (s.abortGroup v (silent.getD 0x7FF))

/-- COMMIT (R178): fixes the instant of acceptance of a segment that voted yes. -/
def execCommit (t : Nat) (f : CFrame) (s : State) : Outcome State Fault Refusal :=
  let (s, acts) := (s.at_ t).takeRing 0x12 f
  match s.groupSeg (cfAt f 20 8) with
  | none => .next s
  | some g =>
    if acts && g.votedAt.isSome && g.coord == cfSrc f then
      .next { s with cause := { s.cause with commits := s.cause.commits ++ [(g.groupId, cfAt f 28 8)] } }
    else .next s

/-- GROUP_COMMIT_INSTANT (R176, R178): the group segment is accepted; a cancellation that waited then acts on it. -/
def execGroupCommitInstant (t group : Nat) (s : State) : Outcome State Fault Refusal :=
  let s := s.at_ t
  match s.cause.commits.find? (fun c => c.1 == group && decide (c.2 ≤ s.ring)) with
  | none => .next s
  | some _ =>
    let s := { s with cause := { s.cause with commits := s.cause.commits.filter (fun c => c.1 != group) } }
    match s.groupSeg group with
    | none => .next s
    | some g =>
      let s := s.acceptSeg g
      let s := s.each g.armCid.toList (fun c s => s.finish c St.ok 0 (.bytes []))
      match g.cancelCids with
      | [] => .next s
      | cs =>
        let s := match s.seg g.handle with
          | some a => s.cancelAccepted a
          | none => s
        .next (s.each cs (fun c s => s.finish c St.ok 0 (.bytes [])))

/-- ABORT (R178): the member's group segment is refused with the address that ABORT names. -/
def execAbort (t : Nat) (f : CFrame) (s : State) : Outcome State Fault Refusal :=
  let (s, acts) := (s.at_ t).takeRing 0x13 f
  let group := cfAt f 20 8
  match s.groupSeg group with
  | none => .next s
  | some g =>
    if !acts || g.coord != cfSrc f || g.state < Sg.verifying then .next s
    else
      let s := { s with cause := { s.cause with prepares := s.cause.prepares.filter (fun p => p.group != group) } }
      .next (s.refuseGroup g (cfAt f 28 2 % 2048))

/-- GROUP_DECISION_LOST (R180): no decision 4 ms after a yes vote. -/
def execGroupDecisionLost (t handle : Nat) (s : State) : Outcome State Fault Refusal :=
  let s := s.at_ t
  match s.seg handle with
  | none => .next s
  | some g =>
    let late := match g.votedAt with
      | some v => decide (v + 4000000 ≤ s.now)
      | none => false
    if g.state ≠ Sg.voting ∨ !late ∨ g.coord = s.address ∨ s.cause.commits.any (fun c => c.1 == g.groupId) then .next s
    else .next ((s.refuseGroup g s.address).raise Ev.groupDecisionLost 0 (leBytes 8 handle))

/-- GROUP_WAIT_EXPIRY (R181): no PREPARE within SPOOL.GROUP_WAIT of the end of verification. -/
def execGroupWaitExpiry (t handle : Nat) (s : State) : Outcome State Fault Refusal :=
  let s := s.at_ t
  match s.seg handle with
  | none => .next s
  | some g =>
    if g.state ≠ Sg.voting ∨ g.votedAt.isSome ∨ s.now < g.verifiedAt + 1000000 * s.par Par.spoolGroupWait then .next s
    else .next (s.refuseGroup g s.address)

end Sys2Proof.Machine
end

