-- ==== Sys2Proof/Machine/Spool.lean ====
section
/-! DEFINITION. The spool's commands and the decode units (07_segments_and_spool.md, 08_raster_and_decode.md): opening,
filling, closing and cancelling segments, repeats, completion records, strip checks and chunks. -/
namespace Sys2Proof.Machine
open Host

/-! ## Fields of SPOOL_SEG_OPEN -/

/-- A segment from the fields of *SPOOL_SEG_OPEN request body* at offsets 16-51, before its strips. -/
def segOf (b : List Byte) (handle job segId opener : Nat) : Seg where
  handle := handle
  job := job
  segId := segId
  printGo := bitAt (leAt b 16 1) 0
  pgo := bitsAt (leAt b 16 1) 1 2
  keep := bitAt (leAt b 16 1) 3
  group := bitAt (leAt b 16 1) 4
  depth := bitsAt (leAt b 17 1) 0 2
  heads := leAt b 18 2
  lines := leAt b 20 4
  rate := leAt b 24 4
  first := if bitAt (leAt b 16 1) 0 then leAt b 28 4 else leAt b 28 8
  groupId := leAt b 36 8
  coord := leAt b 44 2 % 1024
  members := leAt b 46 2
  opener := opener
  state := Sg.opened
  strips := []
  source := none
  reserved := 0
  edge := none
  bound := !bitAt (leAt b 16 1) 0
  p0 := if bitAt (leAt b 16 1) 0 then 0 else leAt b 28 8
  tAccept := 0
  tFirst := 0
  tLast := 0
  order := 0
  verifiedAt := 0
  votedAt := none
  lead := 0
  decRate := 0
  readRate := 0
  closeCid := none
  armCid := none
  cancelCids := []
  next := []
  ranges := []
  causes := []
  chart := none
  byReset := false
  bad := []

/-- The range checks of offsets 16-35 in offset order (R164): status and DETAIL of the first that fails. -/
def segRanges (b : List Byte) : Option (Nat × Nat) :=
  let m := leAt b 16 1
  if !bitAt m 0 && bitsAt m 1 2 != 0 then some (St.valueRange, 24)
  else if leAt b 17 1 % 4 = 0 then some (St.badEnum, 25)
  else if leAt b 18 2 = 0 then some (St.valueRange, 26)
  else if leAt b 20 4 = 0 ∨ 262144 < leAt b 20 4 then some (St.valueRange, 28)
  else if leAt b 24 4 = 0 ∨ 240000 < leAt b 24 4 then some (St.valueRange, 32)
  else none

/-- The range checks of the group fields (R164). -/
def groupRanges (b : List Byte) : Option (Nat × Nat) :=
  let members := leAt b 46 2
  if bitAt (leAt b 16 1) 4 then
    if members < 2 ∨ 1024 < members then some (St.valueRange, 54) else none
  else if leAt b 36 8 ≠ 0 then some (St.valueRange, 44)
  else if leAt b 44 2 % 1024 ≠ 0 then some (St.valueRange, 52)
  else if members ≠ 0 then some (St.valueRange, 54)
  else none

/-- The reserved bits of offsets 16-35 (R164). -/
def segReserved (b : List Byte) : Option Nat :=
  if 32 ≤ leAt b 16 1 then some 24
  else if 4 ≤ leAt b 17 1 then some 25
  else if bitAt (leAt b 16 1) 0 && leAt b 32 4 != 0 then some 40
  else none

/-- Strips per head (R161). -/
def stripCount (lines : Nat) : Nat := ceilDiv lines 4096

/-- The empty strips of a segment, ascending head and then k, with their declared sizes. -/
def stripsOf (heads lines : Nat) (sizes : List Nat) : List Strip :=
  let places := (maskUnits 16 heads).flatMap (fun h => (List.range (stripCount lines)).map (fun k => (h, k)))
  (places.zip sizes).map (fun p => ⟨p.1.1, p.1.2, p.2, 0, 0, [], [], false, [], [], none, [], [], false⟩)

/-- Pods of a container (R171). -/
def podsOf (size : Nat) : Nat := ceilDiv size 1048576

/-- Segments that take a queue place (R174). -/
def State.queued (s : State) : Nat := (s.spool.segs.filter (fun g => g.state != Sg.retained)).length

/-- Resources of SPOOL_SEG_OPEN and the creation of the segment (R164, R171, R172, R174). -/
def createSeg (g : Seg) (s : State) : State × Verdict :=
  let need := (g.strips.map (fun (t : Strip) => podsOf t.size)).sum
  let most := s.par Par.spoolMaxSegmentBytes
  if 4096 ≤ s.queued then refuse St.queueFull 0 s
  else if most < need * 1048576 then refuse St.segmentTooLarge (most / 1024) s
  else if s.podsFree < need then refuse St.spoolFull s.podsFree s
  else okay 0 (leBytes 8 g.handle) { s with spool := { s.spool with segs := s.spool.segs ++ [{ g with reserved := need }] } }

/-- SPOOL_SEG_OPEN (R164, R165, R171-R174). -/
def effSpoolSegOpen : Effect := fun c s =>
  let b := c.body
  if b.length < 52 then refuse St.badLength 52 s
  else
    match segRanges b, groupRanges b with
    | some (st, d), _ => refuse st d s
    | none, some (st, d) => refuse st d s
    | none, none =>
      let n := popcount 16 (leAt b 18 2) * stripCount (leAt b 20 4)
      needLen c (52 + 4 * n) s <|
      let sizes := items 4 n (b.drop 52)
      match sizes.findIdx? (fun x => x == 0 || 16777216 < x) with
      | some i => refuse St.valueRange (60 + 4 * i) s
      | none =>
        match segReserved b with
        | some d => refuse St.reservedNonzero d s
        | none =>
          if 1024 ≤ leAt b 44 2 then refuse St.reservedNonzero 52 s
          else needZero c 48 4 s <| needFeed c s <|
          let job := leAt b 0 8
          if !s.holdsKey c.sn job || !s.keyLive job then refuse St.noJobKey 0 s
          else if bitAt (leAt b 16 1) 3 && s.par Par.spoolKeepEnable == 0 then refuse St.classForbidden 0 s
          else needReady s <|
            let segId := leAt b 8 8
            let h := s.handleOf job segId
            match s.tracked h with
            | some st => refuse St.segmentState st s
            | none => createSeg { segOf b h job segId c.sn with strips := stripsOf (leAt b 18 2) (leAt b 20 4) sizes } s

/-! ## Filling -/

/-- The reply of SPOOL_SEG_DATA. -/
def dataReply (g : Seg) (t : Strip) : List Byte :=
  leBytes 4 t.held ++ leBytes 1 t.state ++ [0, 0, 0] ++ leBytes 8 ((g.strips.map Strip.held).sum)

/-- Pods that hold a burst of a strip with so many bytes held: a burst is written once, when it is full or its strip is
complete (R167, R171). -/
def podsWritten (held size : Nat) : Nat := podsOf (if held = size then held else held / 64 * 64)

/-- Allocates the pods whose first burst the held bytes write (R171). -/
def State.fillPods (h head k : Nat) : Nat → State → State
  | 0, s => s
  | fuel + 1, s =>
    match (s.seg h).bind (fun g => g.strip head k) with
    | none => s
    | some t =>
      if t.pods.length < podsWritten t.held t.size then
        match State.allocPod 0 131072 s with
        | (s, none) => s
        | (s, some p) =>
          State.fillPods h head k fuel (s.modSeg h (fun (g : Seg) => { g.modStrip head k (fun (t : Strip) => { t with pods := t.pods ++ [p] }) with reserved := g.reserved - 1 }))
      else s

/-- A strip and those of its offered chunks whose first byte has arrived (R201). -/
def Strip.begun (t : Strip) : Nat :=
  if t.held = 0 then 0 else 1 + ((restartTable (t.data.take 240)).filter (fun p => p.2 != 0 && p.2 + 240 < t.held)).length

/-- The first bytes that a packet brought are numbered in the order of their arrival (R201). -/
def State.numberFirsts (h head k : Nat) (s : State) : State :=
  match (s.seg h).bind (fun g => g.strip head k) with
  | none => s
  | some t =>
    let new := t.begun - t.firsts.length
    let n := s.spool.arrivals
    { s with spool := { s.spool with arrivals := n + new } }.modSeg h
      (Seg.modStrip head k (fun (t : Strip) => { t with firsts := t.firsts ++ (List.range new).map (· + n) }))

/-- A failed strip restarts at STRIP_HELD 0 (R168): its pods are discarded and its reservation stands again. -/
def State.restartStrip (h : Nat) (t : Strip) (s : State) : State :=
  (s.freePods t.pods).modSeg h (fun (g : Seg) =>
    { g.modStrip t.head t.k (fun (t : Strip) => { t with held := 0, state := 0, data := [], pods := [], checking := false, firsts := [], unitsUsed := [], cid := none }) with
      reserved := g.reserved + t.pods.length })

/-- What the husk code finds in the words of a packet's data (R391): 0 intact, 1 corrected, 2 beyond correction, which EV085
reports of the Shell. -/
def State.huskFound (husk : Nat) (s : State) : State :=
  if husk = 0 then s
  else if husk = 1 then s.bump Par.dramOnchipCorrected 1
  else (s.bump Par.dramOnchipUncorrectable 1).raiseFull 2 Ev.huskUncorrectable 0 s.ring 0 []

/-- Whether a session that is open opened a segment (R166, R176). -/
def Ctx.opened (c : Ctx) (opener : Nat) : Bool := opener == c.sn && c.sn != 0

/-- A command that only the opening session sends meets a handle that is not held (R166): 0x0202 with the state of a segment of its own
that has finished, else 0x010D. -/
def State.notHeld (c : Ctx) (h : Nat) (s : State) : State × Verdict :=
  match s.spool.done.find? (fun d => d.handle == h && c.opened d.opener) with
  | some d => refuse St.segmentState d.state s
  | none => refuse St.unknownHandle 0 s

/-- SPOOL_SEG_DATA (R85, R166-R168, R202); `husk` is what the code check of its data finds (R391). The bytes that pad DATA to a multiple
of 4 are not looked at (DESIGN CHOICE, log entry 148). -/
def effSpoolSegData (husk : Nat) : Effect := fun c s =>
  let b := c.body
  let s := s.huskFound husk
  let dlen := leAt b 10 2
  let h := leAt b 0 8
  let head := leAt b 8 1 % 16
  let k := leAt b 9 1 % 64
  let off := leAt b 12 4
  if dlen = 0 ∨ 9096 < dlen then refuse St.valueRange 18 s
  else needLen c (16 + up4 dlen) s <|
  if 16 ≤ leAt b 8 1 then refuse St.reservedNonzero 16 s
  else if 64 ≤ leAt b 9 1 then refuse St.reservedNonzero 17 s
  else
    match s.seg h with
    | none => s.notHeld c h
    | some g =>
      if !c.opened g.opener then refuse St.unknownHandle 0 s
      else if !bitAt g.heads head then refuse St.valueRange 16 s
      else
        match g.strip head k with
        | none => refuse St.valueRange 17 s
        | some t =>
          let again := t.state == 2 && off == 0
          let held := if again then 0 else t.held
          if held < off then refuse St.valueRange 20 s
          else if t.size < off + dlen then refuse St.valueRange 18 s
          else if g.state ≠ Sg.opened then refuse St.segmentState g.state s
          else
            if 2 ≤ husk then refuse St.dataUncorrectable 0 s
            else
              let s := if again then s.restartStrip h t else s
              if off + dlen ≤ held then okay 0 (dataReply g t) s
              else
                let new := ((b.drop 16).take dlen).drop (held - off)
                let full := off + dlen = t.size
                let s := s.modSeg h (Seg.modStrip head k (fun (t : Strip) => { t with
                  held := off + dlen, data := t.data ++ new, cid := if full then some c.cid else none }))
                let s := (s.fillPods h head k 20).numberFirsts h head k
                if full then (s, .later)
                else
                  match (s.seg h).bind (fun g => (g.strip head k).map (fun t => dataReply g t)) with
                  | some r => okay 0 r s
                  | none => (s, .later)

/-- SPOOL_SEG_CLOSE (R143, R169). -/
def effSpoolSegClose : Effect := fun c s =>
  needLen c 8 s <|
  match s.seg (leAt c.body 0 8) with
  | none => s.notHeld c (leAt c.body 0 8)
  | some g =>
    if !c.opened g.opener then refuse St.unknownHandle 0 s
    else if g.state ≠ Sg.opened then refuse St.segmentState g.state s
    else
      let g := { g with state := Sg.verifying, closeCid := some c.cid }
      let s := s.modSeg g.handle (fun _ => g)
      if !s.keyLive g.job then (s.refuseSeg g St.noJobKey 0 (.bytes []), .later)
      else (s.verifiedVote g.handle, .later)

/-! ## Cancelling -/

/-- A member whose segment goes while a PREPARE waits for its verification votes no (R178). -/
def State.voteWaiting (g : Seg) (s : State) : State :=
  match s.cause.prepares.find? (fun p => g.group && p.group == g.groupId) with
  | none => s
  | some p =>
    { s with cause := { s.cause with prepares := s.cause.prepares.filter (fun q => q.group != p.group) } }.sendVote p.src p.group false

/-- SPOOL_SEG_CANCEL (R176-R178): by state, of the opening session or of the owner. A member that has not voted votes no: at once where
a PREPARE waits, else when it comes and finds no segment of the group here. -/
def effSpoolSegCancel : Effect := fun c s =>
  needLen c 8 s <|
  let h := leAt c.body 0 8
  match s.seg h, s.spool.done.find? (fun d => d.handle == h) with
  | none, none => refuse St.unknownHandle 0 s
  | none, some d =>
    needFeed c s <|
    if !c.opened d.opener ∧ !s.owns c.sn then refuse St.notOwner s.own.holder s
    else refuse St.alreadyDone 0 s
  | some g, _ =>
    needFeed c s <|
    if !c.opened g.opener ∧ !s.owns c.sn then refuse St.notOwner s.own.holder s
    else if g.state = Sg.opened ∨ g.state = Sg.verifying then
      let s := (s.discard g).voteWaiting g
      let s := match g.closeCid with
        | some d => s.finish d St.segmentState Sg.cancelled (.bytes [])
        | none => s
      okay 0 [] s
    else if g.state = Sg.voting then
      if g.votedAt.isSome then
        (s.modSeg h (fun g => { g with cancelCids := g.cancelCids ++ [c.cid] }), .later)
      else okay 0 [] (s.refuseSeg g St.groupAborted (s.par Par.causeAddress) (.bytes []))
    else if g.state = Sg.accepted then okay 0 [] (s.cancelAccepted g)
    else if g.state = Sg.retained then
      if s.spool.segs.any (fun x => x.source == some h) then
        (s.modSeg h (fun g => { g with cancelCids := g.cancelCids ++ [c.cid] }), .pending)
      else okay 0 [] (s.endRelease g)
    else refuse St.insideHorizon 0 s

/-! ## Status, records and accounting -/

/-- SPOOL_SEG_STATUS (R175, R504). -/
def effSpoolSegStatus : Effect := fun c s =>
  let n := leAt c.body 0 2
  if n = 0 ∨ 64 < n then refuse St.badCount 0 s
  else needLen c (4 + 8 * n) s <| needZero c 2 2 s <| needLearn c .spool s <|
    let one := fun h : Nat => match s.seg h with
      | some g => (St.ok, g.state, g.flags, if g.state = Sg.printing ∨ g.state = Sg.retained then g.linesFinished else 0)
      | none => match s.spool.done.find? (fun (d : Done) => d.handle == h) with
        | some d => (St.ok, d.state, d.flags, d.lines)
        | none => (St.unknownHandle, 0, 0, 0)
    let es := (items 8 n (c.body.drop 4)).map (fun h => (h, one h))
    let bad := (es.filter (fun e => e.2.1 != 0)).length
    (s, .done (if bad = 0 then St.ok else St.partially) bad (.bytes (leBytes 2 n ++ [0, 0] ++ es.flatMap (fun e =>
      leBytes 8 e.1 ++ leBytes 2 e.2.1 ++ leBytes 1 e.2.2.1 ++ leBytes 1 e.2.2.2.1 ++ leBytes 4 e.2.2.2.2))))

/-- The nine accounting counters in the order of *Accounting counters*. -/
def accountIds : List Nat :=
  [Par.spoolSegAccepted, Par.spoolSegComplete, Par.spoolSegBroken, Par.spoolSegCancelled, Par.spoolSegRefused, Par.spoolLinesPrinted,
   Par.spoolLinesNotPrinted, Par.spoolPgoUnserved, Par.spoolRepeats]

/-- SPOOL_ACCOUNT_READ (R187). -/
def effSpoolAccountRead : Effect := fun c s =>
  needLen c 0 s <| needLearn c .counters s <| okay 0 (accountIds.flatMap (fun id => leBytes 8 (s.par id))) s

/-! ## Repeats -/

/-- The segment that a repeat creates over its source's strips. -/
def repeatOf (b : List Byte) (handle : Nat) (g : Seg) (opener : Nat) : Seg :=
  { segOf b handle g.job (leAt b 8 8) opener with
    source := some (leAt b 0 8), state := Sg.verifying
    strips := g.strips.map (fun (t : Strip) => { t with pods := [], released := true, cid := none, checking := false, firsts := [], unitsUsed := [], data := [] }) }

/-- SPOOL_REPEAT (R182, R183): a new segment over the source's data, admitted with verification already satisfied. -/
def effSpoolRepeat : Effect := fun c s =>
  needLen c 36 s <|
  let b := c.body
  match segRanges b with
  | some (st, d) => refuse st d s
  | none =>
    if bitAt (leAt b 16 1) 3 || bitAt (leAt b 16 1) 4 then refuse St.valueRange 24 s
    else
      match segReserved b with
      | some d => refuse St.reservedNonzero d s
      | none =>
        let src := leAt b 0 8
        match s.tracked src with
        | none => refuse St.unknownHandle 0 s
        | some st =>
          match s.seg src with
          | none => needFeed c s <| needOwner c s <| refuse St.segmentState st s
          | some g =>
            if leAt b 17 1 % 4 ≠ g.depth then refuse St.valueRange 25 s
            else if leAt b 18 2 ≠ g.heads then refuse St.valueRange 26 s
            else if leAt b 20 4 ≠ g.lines then refuse St.valueRange 28 s
            else needFeed c s <| needOwner c s <| needReady s <|
              if !(g.live || g.state == Sg.retained) || g.source.isSome || !g.keep then refuse St.segmentState st s
              else
                let segId := leAt b 8 8
                let h := s.handleOf g.job segId
                match s.tracked h with
                | some st => refuse St.segmentState st s
                | none =>
                  let n := repeatOf b h g c.sn
                  if 4096 ≤ s.queued then refuse St.queueFull 0 s
                  else
                    match s.judgeSeg n 0 with
                    | .refuse st d body => (s.bump Par.spoolSegRefused 1, .done st d body)
                    | .accept =>
                      okay 0 (leBytes 8 h) ({ s with spool := { s.spool with segs := s.spool.segs ++ [n] } }.acceptSeg n)

/-! ## Checks -/

/-- The arrival number at which a strip waits for its next check unit, of at most 4 (R201). -/
def Strip.waitsAt (t : Strip) : Option Nat :=
  if t.state ≠ 0 ∨ 4 ≤ t.unitsUsed.length then none else t.firsts[t.unitsUsed.length]?

/-- STRIP_CHECK_START (R197, R201): a free check unit in service takes the strip or chunk whose first byte arrived first. -/
def execStripCheckStart (t handle head k unit : Nat) (s : State) : Outcome State Fault Refusal :=
  let s := s.at_ t
  match ((s.seg handle).bind (fun g => g.strip head k)).bind Strip.waitsAt with
  | none => .next s
  | some n =>
    let strips := s.spool.segs.flatMap Seg.strips
    if strips.any (fun x => x.unitsUsed.contains unit || x.waitsAt.elim false (· < n)) ∨ 32 ≤ unit ∨ !bitAt s.spool.checkUnits unit then .next s
    else .next (s.modSeg handle (Seg.modStrip head k (fun (t : Strip) => { t with checking := true, unitsUsed := t.unitsUsed ++ [unit] })))

/-- What a strip's header must agree with, its window as in force now (R193). -/
def State.stripWant (s : State) (g : Seg) (t : Strip) : StripWant :=
  ⟨g.depth, t.head, t.k, g.job, g.stripLines t.k, g.lines, s.par (Par.at_ Par.headUColCount t.head), s.par (Par.at_ Par.headUPlane t.head),
    s.par (Par.at_ Par.headUColFirst t.head), t.size⟩

/-- Records a strip's failure for its opener and raises EV032 (R200, R208, R209). -/
def State.stripFailed (g : Seg) (t : Strip) (r : Inflated) (s : State) : State :=
  let s := s.bump Par.decodeStripsFailed 1
  let s := s.modSession g.opener (fun (x : Session) => { x with
    failures := (⟨g.handle, 64 * t.head + t.k, r.reason, r.zreach, r.out.length⟩ :: x.failures).take 16 })
  s.raiseFull 7 Ev.stripCheckFailed 0 s.ring g.opener
    (leBytes 8 g.handle ++ leBytes 2 (64 * t.head + t.k) ++ [BitVec.ofNat 8 r.reason])

/-- The DEFLATE stream of a strip in clear (R142): AES-256-GCM under the strip key of the job key and the segment ID, the header being
the additional data; none where the tag fails or the Shell holds no key (R158). -/
def State.openStrip (s : State) (g : Seg) (st : Strip) : Option (List Byte) :=
  match s.shell.keys.find? (fun k => k.job == g.job) with
  | none => none
  | some k => gcmOpen (hkdfExpand (beBytes 32 k.key) (ascii "alaten strip" ++ leBytes 8 g.segId) 32)
    (List.replicate 4 0 ++ leBytes 4 st.head ++ leBytes 4 st.k) (st.data.take 240) ((st.data.take (st.size - 16)).drop 240)
    (st.data.drop (st.size - 16))

/-- STRIP_CHECK_COMPLETE (R142, R168, R199-R202, R208): the outcome of a complete strip, the reply of the packet that
completed it, and the segment's verification. -/
def execStripCheckComplete (t handle head k : Nat) (_tagOk _plain : Computed) (s : State) : Outcome State Fault Refusal :=
  let s := s.at_ t
  match s.seg handle with
  | none => .next s
  | some g =>
    match g.strip head k with
    | none => .next s
    | some st =>
      if st.held < st.size ∨ st.state ≠ 0 ∨ !st.checking then .next s
      else
        let (r, points) := checkStrip (s.stripWant g st) g.rate (st.data.take 240) (s.openStrip g st)
        let ok := decide (r.reason = 0)
        let s := s.bump Par.decodeStripsChecked 1
        let s := s.modSeg handle (Seg.modStrip head k (fun (x : Strip) => { x with
          state := if ok then 1 else 2, checking := false, firsts := [], unitsUsed := [], raw := if ok then r.out else []
          points := points.map (fun p => (p.1, p.2)), cid := none }))
        let s := if ok then s else s.stripFailed g st r
        let s := match st.cid, (s.seg handle).bind (fun g => (g.strip head k).map (fun x => dataReply g x)) with
          | some c, some b => s.finish c St.ok 0 (.bytes b)
          | _, _ => s
        .next (s.verifiedVote handle)

/-! ## Decoding for print -/

/-- The segment whose strips hold a segment's data: its own, or its source's (R183). -/
def State.dataSeg (s : State) (g : Seg) : Seg := (g.source.bind s.seg).getD g

/-- The first bytes of a strip's chunks: the start and each offered point (R197). -/
def Strip.chunkStarts (t : Strip) : List Nat := 0 :: t.points.map Prod.fst

/-- The decoded bytes of the chunk at a start. -/
def Strip.chunkBytes (t : Strip) (start : Nat) : Nat :=
  ((t.points.map Prod.fst).find? (fun p => start < p)).getD t.raw.length - start

/-- The chunk that a head decodes after another, ascending in k and in the strip (R203). -/
def nextChunk (g : Seg) (head : Nat) : Option (Nat × Nat) → Option (Nat × Nat)
  | none => some (0, 0)
  | some (k, start) =>
    match (g.strip head k).bind (fun t => t.chunkStarts.find? (fun p => start < p)) with
    | some p => some (k, p)
    | none => if (g.strip head (k + 1)).isSome then some (k + 1, 0) else none

/-- The first line of a chunk in its segment. -/
def State.chunkLine (s : State) (g : Seg) (head k start : Nat) : Nat :=
  4096 * k + start / max 1 (lineBytes (s.par (Par.at_ Par.headUColCount head)) g.depth)

/-- A line of a segment lies inside the head's line store of 1 MiB ahead of its next line boundary (R203). -/
def State.inStore (s : State) (g : Seg) (head line : Nat) : Bool :=
  (line - (lookup head g.next).getD 0) * lineBytes (s.par (Par.at_ Par.headUColCount head)) g.depth ≤ 1048576

/-- A chunk cannot have ended on its unit: its last line lies beyond the line store (R203). -/
def State.chunkRuns (s : State) (c : Chunk) : Bool :=
  c.inflate != 32 && (match s.seg c.handle with
    | none => false
    | some g => match (s.dataSeg g).strip c.head c.k with
      | none => false
      | some t => !s.inStore g c.head (s.chunkLine g c.head c.k (c.start + t.chunkBytes c.start - 1)))

/-- The next chunk of a head (R203, R204): one that lost its unit, else the next of the segment with the lowest position; its segment, strip
and first byte, and the decoded lines ahead. -/
def State.headChunk (s : State) (head : Nat) : Option (Seg × Nat × Nat × Nat) :=
  let next := fun (g : Seg) =>
    match s.spool.chunks.find? (fun c => c.head == head && c.handle == g.handle && c.inflate == 32) with
    | some c => some (c.k, c.start)
    | none => nextChunk (s.dataSeg g) head (lookup (g.handle, head) s.spool.decoded)
  let gs := s.spool.segs.filter (fun g => (g.state == Sg.inHorizon || g.state == Sg.printing) && bitAt g.heads head)
  let cs := gs.filterMap (fun g => (next g).map (fun n => (g, n)))
  match cs with
  | [] => none
  | c :: r =>
    let c := r.foldl (fun a b => if b.1.p0 < a.1.p0 then b else a) c
    some (c.1, c.2.1, c.2.2, s.chunkLine c.1 head c.2.1 c.2.2 - (lookup head c.1.next).getD 0)

/-- The lines ahead of a head that waits for an inflate unit (R204): its next chunk falls inside its line store, and fewer than 3 run. -/
def State.waitsDecode (s : State) (head : Nat) : Option Nat :=
  match s.headChunk head with
  | none => none
  | some (g, k, start, ahead) =>
    if s.inStore g head (s.chunkLine g head k start) && decide ((s.spool.chunks.filter (fun c => c.head == head && s.chunkRuns c)).length < 3)
    then some ahead else none

/-- A unit in service whose chunk, if it holds one, can have ended (R203, R204). -/
def State.inflateFree (s : State) (unit : Nat) : Bool :=
  unit < 32 && bitAt s.spool.inflateUnits unit && !s.spool.chunks.any (fun c => c.inflate == unit && s.chunkRuns c)

/-- CHUNK_START (R203, R204): a head's next chunk, once its first line falls inside the line store, on a free unit; the head with the fewest
lines ahead goes first, then the lower one. A unit that starts a chunk has ended the one it held, and a head that starts a fourth has ended
one; the whole of a chunk counts when it starts (DESIGN CHOICE, log entry 165). -/
def execChunkStart (t handle head k start unit corrected : Nat) (s : State) : Outcome State Fault Refusal :=
  let s := s.at_ t
  match s.headChunk head, s.waitsDecode head with
  | some (g, k', start', _), some ahead =>
    let before := (List.range 16).any (fun h => (s.waitsDecode h).elim false (fun a => decide (a < ahead) || (a == ahead && decide (h < head))))
    if 16 ≤ head ∨ g.handle ≠ handle ∨ k' ≠ k ∨ start' ≠ start ∨ before ∨ !s.inflateFree unit then .next s
    else
      let again := s.spool.chunks.any (fun c => c.handle == handle && c.head == head && c.k == k && c.start == start)
      let rest := s.spool.chunks.filter (fun (c : Chunk) => c.inflate != unit && !(c.handle == handle && c.head == head && c.k == k && c.start == start))
      let mine := rest.filter (fun c => c.head == head)
      let rest := if mine.length < 3 then rest else match mine.find? (fun c => !s.chunkRuns c) with
        | some c => rest.filter (· ≠ c)
        | none => rest
      let n := (((s.dataSeg g).strip head k).elim 0 (fun t => t.chunkBytes start))
      let s := { s with spool := { s.spool with
        chunks := rest ++ [(⟨head, handle, k, start, unit⟩ : Chunk)]
        decoded := if again then s.spool.decoded else assoc (handle, head) (k, start) s.spool.decoded } }
      .next ((s.when (!again) (State.bump Par.decodeRawDecoded n)).bump Par.dramOnchipCorrected corrected)
  | _, _ => .next s

/-- CHUNK_RESTART (R206): a word fails its husk code at the line store. The lines it feeds do not fire, and the chunk
starts again on another unit. -/
def execChunkRestart (t handle head k start unit first count : Nat) (s : State) : Outcome State Fault Refusal :=
  let s := s.at_ t
  if !s.spool.chunks.any (fun c => c.handle == handle && c.head == head && c.k == k && c.start == start && c.inflate != unit)
      || !s.inflateFree unit then .next s
  else
    let s := { s with spool := { s.spool with chunks := (s.spool.chunks.filter (fun (c : Chunk) => c.inflate != unit)).map (fun (c : Chunk) =>
      if c.handle == handle && c.head == head && c.k == k && c.start == start then { c with inflate := unit } else c) } }
    let s := s.modSeg handle (fun g => { g with bad := g.bad ++ [(head, first, count)] })
    .next (((s.bump Par.decodeChunkRestarts 1).bump Par.dramOnchipUncorrectable 1).raiseFull 7 Ev.huskUncorrectable 0 s.ring 0 [])

/-- Number of units of a mask in service. -/
def inService (mask : Nat) : Nat := popcount 32 mask

/-- An inflate unit leaves service (R207): EV030, and later admissions find 3,200 Mbit/s less. Its chunk goes to a unit that
is free, and else waits for one. -/
def State.inflateOut (unit : Nat) (s : State) : State :=
  if !bitAt s.spool.inflateUnits unit || 32 ≤ unit then s
  else
    let mask := s.spool.inflateUnits - 2 ^ unit
    let free := (maskUnits 32 mask).find? (fun u => !s.spool.chunks.any (fun (c : Chunk) => c.inflate == u))
    let s := { s with spool := { s.spool with
      inflateUnits := mask
      chunks := s.spool.chunks.map (fun (c : Chunk) => if c.inflate == unit then { c with inflate := free.getD 32 } else c) } }
    let s := s.setPar Par.decodeInflateInService (inService mask)
    let s := s.setPar Par.spoolDecodeBudget (s.par Par.spoolDecodeBudget - 3200)
    s.raise Ev.decodeUnitOut 0 [BitVec.ofNat 8 unit]

/-- A check unit leaves service (R207): EV031; what it checked waits for another. -/
def State.checkOut (unit : Nat) (s : State) : State :=
  if !bitAt s.spool.checkUnits unit || 32 ≤ unit then s
  else
    let mask := s.spool.checkUnits - 2 ^ unit
    let segs := s.spool.segs.map (fun (g : Seg) => { g with strips := g.strips.map (fun (t : Strip) =>
      let us := t.unitsUsed.filter (· ≠ unit)
      { t with unitsUsed := us, checking := t.checking && !us.isEmpty }) })
    let s := { s with spool := { s.spool with checkUnits := mask, segs := segs } }
    (s.setPar Par.decodeCheckInService (inService mask)).raise Ev.checkUnitOut 0 [BitVec.ofNat 8 unit]

/-- DECODE_UNIT_OUT (R207): an inflate unit fails its self-check. -/
def execDecodeUnitOut (t unit : Nat) (s : State) : Outcome State Fault Refusal := .next ((s.at_ t).inflateOut unit)

/-- CHECK_UNIT_OUT (R207): a check unit fails its self-check. -/
def execCheckUnitOut (t unit : Nat) (s : State) : Outcome State Fault Refusal := .next ((s.at_ t).checkOut unit)

/-- DECODE_STATUS (R209). -/
def effDecodeStatus : Effect := fun c s =>
  needLen c 0 s <|
  let fs := if c.role = roleObserver then [] else (s.session c.sn).elim [] Session.failures
  okay 0 (leBytes 4 s.spool.inflateUnits ++ leBytes 4 s.spool.checkUnits ++ leBytes 1 fs.length ++ List.replicate 7 0
    ++ fs.flatMap (fun f => leBytes 8 f.handle ++ leBytes 2 f.strip ++ leBytes 1 f.reason ++ [0] ++ leBytes 4 f.zreach ++ leBytes 4 f.rreach
      ++ [0, 0, 0, 0])) s

def execSpoolSegOpen (t : Nat) (h : Hdr) (b : List Byte) (s : State) : Outcome State Fault Refusal :=
  .next (hostRow (.spoolSegOpen t h b) 0x0501 t h b effSpoolSegOpen s)

def execSpoolSegData (t : Nat) (h : Hdr) (b : List Byte) (husk : Nat) (s : State) : Outcome State Fault Refusal :=
  .next (hostRow (.spoolSegData t h b husk) 0x0502 t h b (effSpoolSegData husk) s)

def execSpoolSegClose (t : Nat) (h : Hdr) (b : List Byte) (s : State) : Outcome State Fault Refusal :=
  .next (hostRow (.spoolSegClose t h b) 0x0503 t h b effSpoolSegClose s)

def execSpoolSegCancel (t : Nat) (h : Hdr) (b : List Byte) (s : State) : Outcome State Fault Refusal :=
  .next (hostRow (.spoolSegCancel t h b) 0x0504 t h b effSpoolSegCancel s)

def execSpoolSegStatus (t : Nat) (h : Hdr) (b : List Byte) (s : State) : Outcome State Fault Refusal :=
  .next (hostRow (.spoolSegStatus t h b) 0x0506 t h b effSpoolSegStatus s)

def execSpoolRepeat (t : Nat) (h : Hdr) (b : List Byte) (s : State) : Outcome State Fault Refusal :=
  .next (hostRow (.spoolRepeat t h b) 0x0508 t h b effSpoolRepeat s)

def execSpoolAccountRead (t : Nat) (h : Hdr) (b : List Byte) (s : State) : Outcome State Fault Refusal :=
  .next (hostRow (.spoolAccountRead t h b) 0x0509 t h b effSpoolAccountRead s)

def execDecodeStatus (t : Nat) (h : Hdr) (b : List Byte) (s : State) : Outcome State Fault Refusal :=
  .next (hostRow (.decodeStatus t h b) 0x0701 t h b effDecodeStatus s)

end Sys2Proof.Machine
end

