-- ==== Sys2Proof/Machine/Comp.lean ====
section
/-! DEFINITION. The compensation engine (09_nozzle_compensation.md): the nozzle map, the ledger, levels to drops, stitch
zones, the journal and the rebuild from a head memory. -/
namespace Sys2Proof.Machine
open Host

/-! ## Ledger entries (*Nozzle-ledger entry*) -/

/-- A slot that nothing has set: ABSENT, table 6. -/
abbrev absentEntry : Nat := 0x65

/-- A value with one of its fields replaced. -/
def setBits (e lo n v : Nat) : Nat := e - bitsAt e lo n * 2 ^ lo + v % 2 ^ n * 2 ^ lo

/-- Fields of an entry. -/
def eState (e : Nat) : Nat := bitsAt e 0 3
def ePin (e : Nat) : Bool := bitAt e 3
def eRemap (e : Nat) : Nat := bitsAt e 4 4
def eOffset (e : Nat) : Nat := bitsAt e 8 6
def eVernier (e : Nat) : Nat := bitsAt e 14 6
def eEvidence (e : Nat) : Nat := bitsAt e 22 4

/-- OFFSET and VERNIER as one place in 1/64 line. -/
def ePlace (e : Nat) : Nat := 64 * eOffset e + eVernier e

/-- An entry with a place in 1/64 line. -/
def setPlace (e place : Nat) : Nat := setBits (setBits e 8 6 (place / 64)) 14 6 (place % 64)

/-- An entry with its CHARTED bit. -/
def setCharted (e : Nat) (c : Bool) : Nat := setBits e 28 1 (if c then 1 else 0)

/-- An entry with its SOURCE: 0 head memory, 1 automatic loop, 2 host command, 3 chart apply. -/
def setSource (e src : Nat) : Nat := setBits e 26 2 src

/-- GOOD and WATCH fire; OUT, HELD_OUT and FIXED_OUT are the out states. -/
def stFires (st : Nat) : Bool := st == 0 || st == 1
def stOut (st : Nat) : Bool := st == 2 || st == 3 || st == 4

/-- The ledger of a port. -/
def State.ledger (s : State) (h : Nat) : Ledger := nth s.comp.ledgers ⟨[], [], none, [], false, none, false⟩ h

/-- Changes the ledger of a port. -/
def State.modLedger (h : Nat) (f : Ledger → Ledger) (s : State) : State :=
  { s with comp := { s.comp with ledgers := modNth f h s.comp.ledgers } }

/-- An entry as held. -/
def State.entry (s : State) (h slot : Nat) : Nat := mget (fun _ => absentEntry) (s.ledger h).entries slot

/-- A history of a slot of which nothing is known. -/
def noHist : SlotHist := ⟨0, [], none, none, 6, 0, false⟩

/-- The history of a slot. -/
def State.hist (s : State) (h slot : Nat) : SlotHist := mget (fun _ => noHist) (s.ledger h).hist slot

/-- Changes the history of a slot. -/
def State.modHist (h slot : Nat) (f : SlotHist → SlotHist) (s : State) : State :=
  s.modLedger h (fun l => { l with hist := mset (fun _ => noHist) slot (f (mget (fun _ => noHist) l.hist slot)) l.hist })

/-- The head of a port. -/
def State.head (s : State) (h : Nat) : Head := nth s.heads
  ⟨0, 0, [], 0, 0, [], false, false, false, false, false, 0, none, false, false, [], 0, none, none, false, 0, false, none, 0, 0, 0, none, [], 0, 0, [], 0⟩ h

/-- Changes the head of a port. -/
def State.modHead (h : Nat) (f : Head → Head) (s : State) : State := { s with heads := modNth f h s.heads }

/-- A head is attached and authenticated. -/
def State.attached (s : State) (h : Nat) : Bool := (s.head h).phase == 2 && (s.head h).auth

/-- HEAD[h].SLOTS. -/
def State.slots (s : State) (h : Nat) : Nat := s.par (Par.at_ Par.headUSlots h)

/-- A line of a head's FIRE state. -/
def State.fireHead (s : State) (h : Nat) : FireHead := nth s.fire.heads ⟨0, none, 0, 0, [], [], false, 0, 0, 0, none, false, 0⟩ h

/-- Changes the FIRE state of a head. -/
def State.modFire (h : Nat) (f : FireHead → FireHead) (s : State) : State :=
  { s with fire := { s.fire with heads := modNth f h s.fire.heads } }

/-! ## The nozzle map (R210) -/

/-- HEAD[h].COL_COUNT, COL_FIRST, PLANE and NOZ_PER_COL. -/
def State.colCount (s : State) (h : Nat) : Nat := s.par (Par.at_ Par.headUColCount h)
def State.colFirst (s : State) (h : Nat) : Nat := s.par (Par.at_ Par.headUColFirst h)
def State.plane (s : State) (h : Nat) : Nat := s.par (Par.at_ Par.headUPlane h)
def State.nozPerCol (s : State) (h : Nat) : Nat := s.par (Par.at_ Par.headUNozPerCol h)

/-- The local column that a slot prints. -/
def State.colOf (s : State) (h slot : Nat) : Option Nat :=
  let n := s.slots h
  let half := n / 2
  let k := if s.nozPerCol h = 1 then slot
    else if s.par (Par.at_ Par.headUPairMode h) = 1 then (if half ≤ slot then slot - half else slot)
    else slot / 2
  if n ≤ slot ∨ s.colCount h ≤ k then none
  else some (if s.par (Par.at_ Par.headUColReverse h) = 1 then s.colCount h - 1 - k else k)

/-- The slots that print a local column, the first nozzle first. -/
def State.slotsOf (s : State) (h c : Nat) : List Nat :=
  let k := if s.par (Par.at_ Par.headUColReverse h) = 1 then s.colCount h - 1 - c else c
  let xs := if s.nozPerCol h = 1 then [k]
    else if s.par (Par.at_ Par.headUPairMode h) = 1 then [k, k + s.slots h / 2]
    else [2 * k, 2 * k + 1]
  xs.filter (fun x => x < s.slots h)

/-- The state of a slot as shown: ABSENT where no column maps it or no head is attached (*Nozzle states*, R231). -/
def State.slotState (s : State) (h slot : Nat) : Nat :=
  if !s.attached h || (s.colOf h slot).isNone then 5 else eState (s.entry h slot)

/-- A column is printable on a head (R212). -/
def State.printable (s : State) (h c : Nat) : Bool := (s.slotsOf h c).any (fun x => stFires (s.slotState h x))

/-- The other nozzle of a slot's column. -/
def State.partner (s : State) (h slot : Nat) : Option Nat :=
  (s.colOf h slot).bind (fun c => (s.slotsOf h c).find? (· != slot))

/-- The heads whose window covers a plane column. -/
def State.covers (s : State) (plane pc : Nat) : List Nat :=
  (List.range 16).filter (fun h => s.plane h == plane && s.colFirst h ≤ pc && pc < s.colFirst h + s.colCount h)

/-- A plane column is printable on some head of this AL716. -/
def State.planePrintable (s : State) (plane pc : Nat) : Bool :=
  (s.covers plane pc).any (fun h => s.printable h (pc - s.colFirst h))

/-- Slots in out states of a head (COMP.OUT_PER_HEAD). -/
def State.outCount (s : State) (h : Nat) : Nat :=
  ((s.ledger h).entries.filter (fun e => stOut (eState e.2) && stOut (s.slotState h e.1))).length

/-- Pinned entries of every port (COMP.NOZZLE_PINS). -/
def State.nozzlePins (s : State) : Nat := (s.comp.ledgers.map (fun (l : Ledger) => (l.entries.filter (fun e => ePin e.2)).length)).sum

/-! ## Stitch zones (R219-R226) -/

/-- A zone within this AL716 that holds a column of a head (R219): the other head, the zone's first column, its width,
and whether this head is the lower. -/
def State.innerZone (s : State) (h pc : Nat) : Option (Nat × Nat × Nat × Bool) :=
  ((s.covers (s.plane h) pc).find? (· != h)).map (fun g =>
    let lo := max (s.colFirst h) (s.colFirst g)
    let hi := min (s.colFirst h + s.colCount h) (s.colFirst g + s.colCount g)
    (g, lo, hi - lo, s.colFirst h < s.colFirst g || (s.colFirst h == s.colFirst g && h < g)))

/-- Peer, first column and width of the zone of a plane on a side, 0 east or 1 west (*Plane stitch parameters*). -/
def State.zonePeer (s : State) (plane side : Nat) : Nat :=
  s.par (Par.at_ (if side = 0 then Par.compUEastPeer else Par.compUWestPeer) plane)
def State.zoneFirst (s : State) (plane side : Nat) : Nat :=
  s.par (Par.at_ (if side = 0 then Par.compUEastFirst else Par.compUWestFirst) plane)
def State.zoneCols (s : State) (plane side : Nat) : Nat :=
  s.par (Par.at_ (if side = 0 then Par.compUEastCols else Par.compUWestCols) plane)

/-- The zone across AL716 that holds a plane column: side and j (R222). -/
def State.outerZone (s : State) (plane pc : Nat) : Option (Nat × Nat) :=
  ([0, 1].find? (fun side => s.zoneFirst plane side ≤ pc && pc < s.zoneFirst plane side + s.zoneCols plane side)).map
    (fun side => (side, pc - s.zoneFirst plane side))

/-- A zone column of which nothing is held: both sides print. -/
def bothPrint (plane side j : Nat) : ZoneCol := ⟨plane, side, j, true, none, true, true, 0, none, none, false⟩

/-- What is held of a zone column. -/
def State.zoneCol (s : State) (plane side j : Nat) : ZoneCol :=
  (s.comp.zones.find? (fun z => z.plane == plane && z.side == side && z.j == j)).getD (bothPrint plane side j)

/-- Journals that this member's share of a zone column changed (KIND 5), or lets the entry wait for room (R448). -/
def State.journalZone (z : ZoneCol) (s : State) : State :=
  let e : JEntry := ⟨5, 0, 0, z.plane + 4 * z.side + bit z.own 3 + 256 * z.j⟩
  if s.comp.journal.length < 8192 then { s with comp := { s.comp with journal := s.comp.journal ++ [e] } }
  else { s with comp := { s.comp with groups := s.comp.groups ++ [[⟨e, false, false⟩]] } }

/-- Changes a zone column; one that both sides print is not held. -/
def State.modZone (plane side j : Nat) (f : ZoneCol → ZoneCol) (s : State) : State :=
  let old := s.zoneCol plane side j
  let z := f old
  let rest := s.comp.zones.filter (fun y => !(y.plane == plane && y.side == side && y.j == j))
  let zones := if z = bothPrint plane side j then rest else z :: rest
  ({ s with comp := { s.comp with zones := zones } }).when (z.own != old.own) (State.journalZone z)

/-- This member takes the whole column at a position (R221, R224, R225). -/
def ZoneCol.takes (z : ZoneCol) (x : Int) : Bool :=
  !z.peer && decide (z.peerFrom ≤ x) && (match z.peerTo with | some e => decide (x < e) | none => true)

/-- The peer prints its share of a zone column at a position (R221, R224, R225). -/
def ZoneCol.peerPrints (z : ZoneCol) (x : Int) : Bool := !z.takes x

/-- This member does not print its share at a position. -/
def ZoneCol.gives (z : ZoneCol) (x : Int) : Bool :=
  !z.own || (match z.ownTo with | some e => decide (x < e) | none => false)

/-- The latest position whose line boundary has passed on a head that prints a plane column, or the mark where none prints it
(R224, R225). -/
def State.zoneBoundary (s : State) (plane pc : Nat) : Int :=
  match s.covers plane pc with
  | [] => s.pos.hw
  | h :: r => (h :: r).foldl (fun m g => max m ((s.fireHead g).last - s.par (Par.at_ Par.fireULineOffset g)))
      ((s.fireHead h).last - s.par (Par.at_ Par.fireULineOffset h))

/-- The ordered-dither matrix (R220). -/
def dither (y x : Nat) : Nat :=
  let u := y ^^^ x
  32 * bitsAt u 0 1 + 16 * bitsAt y 0 1 + 8 * bitsAt u 1 1 + 4 * bitsAt y 1 1 + 2 * bitsAt u 2 1 + bitsAt y 2 1

/-- The lower side's share of zone column `j` of a zone of width `w`, in 1/64 (R220). -/
def lowerShare (kind w j : Nat) : Nat :=
  if kind = 1 then (if 2 * j < w then 64 else 0) else 64 * (2 * w - 2 * j - 1) / (2 * w)

/-- A side of a zone fires a column at a position by the dithered share. -/
def State.dithered (s : State) (plane w j : Nat) (lower : Bool) (x : Int) : Bool :=
  (dither (x % 8).toNat (j % 8) < lowerShare (s.par (Par.at_ Par.compURampKind plane)) w j) == lower

/-- Whether a head fires its column at a position, as far as stitch zones decide (R219-R225). -/
def State.stitchFires (s : State) (h pc : Nat) (x : Int) : Bool :=
  let plane := s.plane h
  match s.innerZone h pc with
  | some (g, lo, w, lower) => !s.printable g (pc - s.colFirst g) || s.dithered plane w (pc - lo) lower x
  | none =>
    match s.outerZone plane pc with
    | none => true
    | some (side, j) =>
      if s.comp.mismatch.contains (plane, side) then side == 0
      else
        let z := s.zoneCol plane side j
        if z.takes x then !z.gives x
        else if z.gives x then false
        else s.dithered plane (s.zoneCols plane side) j (side == 0) x

/-- Position E of a change sent now (R224). -/
def State.effective (s : State) : Int := s.pos.hw + s.par Par.compStitchLead

/-- A stitch frame's payload (*Causeway payloads*). -/
def stitchBody (plane side j bit_ : Nat) (e : Int) : List Byte :=
  leBytes 1 (plane + 4 * side) ++ leBytes 1 j ++ leBytes 1 bit_ ++ [0] ++ leBytes 8 (twos 64 e)

/-- The zone columns of this member that are printable, or are not. -/
def State.zoneIs (s : State) (plane side : Nat) (on : Bool) : List Nat :=
  (List.range (s.zoneCols plane side)).filter (fun j => s.planePrintable plane (s.zoneFirst plane side + j) == on)

/-- The payload of ZONE_STATE (*Causeway payloads*): zone, width, position source and the printable columns, bit j. -/
def State.zoneBody (s : State) (plane side width : Nat) : List Byte :=
  let src := if s.par Par.causePosSource = 0x7FF then s.address else s.par Par.causePosSource
  leBytes 1 (plane + 4 * side) ++ [0] ++ leBytes 2 width ++ leBytes 2 src ++ [0, 0]
    ++ leBytes 32 (if width = 0 then 0 else ((s.zoneIs plane side true).map (2 ^ ·)).sum)

/-- Sends the state of one zone to its peer, also of width 0, while a path leads there (R223, R226): what the peer is told of the columns
that are not printable is agreed. -/
def State.sendZone (plane side : Nat) (s : State) : State :=
  let peer := s.zonePeer plane side
  if !s.reachable peer then s
  else (s.sendRing 0x20 peer (s.zoneBody plane side (s.zoneCols plane side))).each (s.zoneIs plane side false)
    (fun j s => s.modZone plane side j (fun z => { z with own := false, ownTo := none, agreed := false, offer := none, owed := false }))

/-- What the present peer of a zone last said of it. -/
def State.peerZone (s : State) (plane side : Nat) : Option PeerZone :=
  s.comp.peerZones.find? (fun z => z.plane == plane && z.side == side && z.src == s.zonePeer plane side)

/-- The widths and position sources of a zone are compared (R223, R375): EV036 while they differ. -/
def State.compareZone (plane side : Nat) (s : State) : State :=
  let key := 2 * plane + side
  let src := if s.par Par.causePosSource = 0x7FF then s.address else s.par Par.causePosSource
  let others := s.comp.mismatch.filter (· ≠ (plane, side))
  match s.peerZone plane side with
  | some z =>
    if s.zoneCols plane side = 0 ∨ (z.width = s.zoneCols plane side ∧ z.source = src) then
      { s with comp := { s.comp with mismatch := others } }.endCond Ev.stitchMismatch key
    else
      { s with comp := { s.comp with mismatch := (plane, side) :: others } }.when (!s.cond Ev.stitchMismatch key)
        (State.raiseKeyed Ev.stitchMismatch plane key (leBytes 1 side ++ leBytes 2 z.src))
  | none => { s with comp := { s.comp with mismatch := others } }.endCond Ev.stitchMismatch key

/-- The columns that the peer's ZONE_STATE names are taken (R223): its share starts at once, and this member takes the whole of a column
from its next line boundary. -/
def State.takeMask (plane side mask : Nat) (s : State) : State :=
  s.each (List.range (s.zoneCols plane side)) (fun j s =>
    let from_ := s.zoneBoundary plane (s.zoneFirst plane side + j) + 1
    s.modZone plane side j (fun z =>
      if bitAt mask j then { z with peer := true, peerFrom := 0, peerTo := none }
      else if z.peer then { z with peer := false, peerFrom := from_, peerTo := none } else z))

/-- The peer said that a zone column is printable there, or is not. -/
def State.markPeer (plane side j : Nat) (on : Bool) (s : State) : State :=
  { s with comp := { s.comp with peerZones := s.comp.peerZones.map (fun (z : PeerZone) =>
      if z.plane == plane && z.side == side && z.src == s.zonePeer plane side then { z with mask := setBits z.mask j 1 (if on then 1 else 0) } else z) } }

/-- A ZONE_STATE of a peer that is reachable is taken (R223, R226). A zone that this member does not hold is answered with width 0, so that
the peer finds no matching zone (DESIGN CHOICE, log entry 164). -/
def State.takeZoneState (z : PeerZone) (s : State) : State :=
  let s := { s with comp := { s.comp with peerZones := s.comp.peerZones.map (fun (y : PeerZone) => if y = z then { y with waits := false } else y) } }
  if s.zonePeer z.plane z.side ≠ z.src ∨ s.zoneCols z.plane z.side = 0 then
    s.when (z.width != 0) (State.sendRing 0x20 z.src (s.zoneBody z.plane z.side 0))
  else
    let s := s.compareZone z.plane z.side
    s.when (!s.comp.mismatch.contains (z.plane, z.side)) (State.takeMask z.plane z.side z.mask)

/-- Zone parameters changed (R222, R223): the columns of the zone start anew, what the peer last said of the zone is compared again, and its
state goes to the peer, and as a zone of width 0 to the peer that it had. -/
def State.newZone (old : State) (plane side : Nat) (s : State) : State :=
  let s := { s with comp := { s.comp with zones := s.comp.zones.filter (fun z => !(z.plane == plane && z.side == side)) } }
  let s := s.compareZone plane side
  let s := match s.peerZone plane side with
    | some z => s.when (!s.comp.mismatch.contains (plane, side)) (State.takeMask plane side z.mask)
    | none => s
  let was := old.zonePeer plane side
  let s := s.when (was != s.zonePeer plane side && s.reachable was) (State.sendRing 0x20 was (s.zoneBody plane side 0))
  s.sendZone plane side

/-- Sends the state of every zone (R223): after a change of zone parameters and at an enumeration. -/
def State.sendZones (s : State) : State :=
  s.each [0, 1, 2, 3] (fun p s => (s.sendZone p 0).sendZone p 1)

/-- A zone column becomes unprintable here (R224, R226): STITCH_CHANGE with E, or, where the peer takes it for printing, a change that waits
for the peer. -/
def State.zoneLost (plane side j : Nat) (s : State) : State :=
  let peer := s.zonePeer plane side
  if s.reachable peer then
    (s.modZone plane side j (fun z => { z with own := false, ownTo := none, agreed := false, offer := none, owed := false })).sendRing 0x21 peer
      (stitchBody plane side j 0 s.effective)
  else s.modZone plane side j (fun z => { z with own := false, ownTo := none, offer := none, owed := z.agreed })

/-- A zone column becomes printable here again (R225): STITCH_OFFER with E. While the peer is unreachable the share last agreed stands
(R226). -/
def State.zoneBack (plane side j : Nat) (s : State) : State :=
  let peer := s.zonePeer plane side
  if (s.zoneCol plane side j).own then s
  else if s.reachable peer then
    let e := s.effective
    (s.modZone plane side j (fun z => { z with offer := some e, owed := false })).sendRing 0x22 peer (stitchBody plane side j 0 e)
  else s.modZone plane side j (fun z => if z.agreed then { z with own := true, owed := false } else { z with owed := true })

/-- The line boundary of a head that fires `x`: offers whose position it reaches without an acknowledgement are made again (R225), and what
lies behind every nozzle of the zone is no longer kept apart. -/
def State.lapseOffers (h : Nat) (x : Int) (s : State) : State :=
  let plane := s.plane h
  let here := fun (z : ZoneCol) => z.plane == plane && decide (s.colFirst h ≤ s.zoneFirst plane z.side + z.j)
    && decide (s.zoneFirst plane z.side + z.j < s.colFirst h + s.colCount h)
  let s := s.each (s.comp.zones.filter (fun z => here z && match z.offer with | some e => decide (e ≤ x) | none => false))
    (fun z s => (s.modZone z.plane z.side z.j (fun z => { z with offer := none })).zoneBack z.plane z.side z.j)
  s.each (s.comp.zones.filter (fun z => here z && match z.ownTo with | some e => decide (e + 63 ≤ x) | none => false))
    (fun z s => s.modZone z.plane z.side z.j (fun z => { z with ownTo := none }))

/-! ## Boost and substitution (R216-R218) -/

/-- A column that its neighbours must boost for at a position (R217, R221, R226). -/
def State.hole (s : State) (plane : Nat) (x : Int) (pc : Nat) : Bool :=
  let hs := s.covers plane pc
  !hs.isEmpty && !hs.any (fun h => s.printable h (pc - s.colFirst h)) &&
    match s.outerZone plane pc with
    | none => true
    | some (side, j) => !(s.zoneCol plane side j).peerPrints x || !s.reachable (s.zonePeer plane side)

/-- The neighbouring plane columns of a column. -/
def neighbours (pc : Nat) : List Nat := if pc = 0 then [1] else [pc - 1, pc + 1]

/-- Boost share of each printable neighbour of an unprintable column (R217). -/
def State.boostShare (s : State) (plane pc : Nat) : Nat :=
  let b := s.par (Par.at_ Par.compUBoostShare plane)
  if ((neighbours pc).filter (s.planePrintable plane)).length = 2 then b else min 8 (2 * b)

/-- A nozzle carries its partner's share (R216). -/
def State.solo (s : State) (h slot : Nat) : Bool :=
  match s.partner h slot with
  | some p => stFires (s.slotState h slot) && stOut (s.slotState h p)
  | none => false

/-- The other side of a zone does not print the column at a position, and this one does (R221). -/
def State.takesWhole (s : State) (h pc : Nat) (x : Int) : Bool :=
  match s.innerZone h pc with
  | some (g, _) => !s.printable g (pc - s.colFirst g)
  | none => match s.outerZone (s.plane h) pc with
    | some (side, j) => (s.zoneCol (s.plane h) side j).takes x
    | none => false

/-- An entry as COMP_LEDGER_READ returns it: STATE as shown, SUBST and STITCH derived (R212). -/
def State.entryShown (s : State) (h slot : Nat) : Nat :=
  let e := s.entry h slot
  let st := s.slotState h slot
  let e := setBits e 0 3 st
  match s.colOf h slot with
  | none => e
  | some c =>
    let pc := s.colFirst h + c
    let x := (s.fireHead h).last - s.par (Par.at_ Par.fireULineOffset h) - eOffset e
    let one := s.solo h slot || (stFires st && s.takesWhole h pc x)
    let two := stFires st && (neighbours pc).any (s.hole (s.plane h) x)
    let zone := (s.innerZone h pc).isSome || (s.outerZone (s.plane h) pc).isSome
    setBits (setBits e 20 2 ((if one then 1 else 0) + if two then 2 else 0)) 29 1 (if zone then 1 else 0)

/-! ## From level to drop (R213) -/

/-- Entry `b` of a level-remap table in force. -/
def State.table (s : State) (t b : Nat) : Nat := tByte (nth s.comp.tables 0 t) b % 8

/-- Step 1 of R213: a level of depth D on the 3-bit scale. -/
def scaleLevel (depth level : Nat) : Nat :=
  if depth = 3 then level
  else if depth = 2 then nth [0, 2, 5, 7] 0 level
  else if level = 0 then 0 else 7

/-- Step 4 of R213: a drop level as a code of the firing depth. -/
def State.toCode (s : State) (h f q : Nat) : Nat :=
  if f = 3 then q else if f = 2 then s.table (nth s.comp.fb 15 h) q else if f = 1 then (if 1 ≤ q then 1 else 0) else 0

/-- The accepted segment that has a line at a position on a head (R227). -/
def State.segAt (s : State) (h : Nat) (x : Int) : Option Seg :=
  s.spool.segs.find? (fun g => g.live && g.bound && bitAt g.heads h && decide (g.p0 ≤ x) && decide (x ≤ g.lastPos))

/-- The level of local column `c` on line `i` of a head (R192). -/
def State.level (s : State) (g : Seg) (h i c : Nat) : Nat :=
  match (s.dataSeg g).strip h (i / 4096) with
  | none => 0
  | some t =>
    let b := g.depth * c
    bitsAt (leAt t.raw (i % 4096 * lineBytes (s.colCount h) g.depth + b / 8) 2) (b % 8) g.depth

/-- The scaled level of a plane column at a position, whichever head prints it. -/
def State.planeLevel (s : State) (plane pc : Nat) (x : Int) : Nat :=
  match (s.covers plane pc).findSome? (fun h => (s.segAt h x).map (fun g => (h, g))) with
  | some (h, g) => if g.chart.isSome then 0 else scaleLevel g.depth (s.level g h (x - g.p0).toNat (pc - s.colFirst h))
  | none => 0

/-- Steps 1 and 2 of R213 for a column: the level with its boosts, at most 7 (R217). -/
def State.boosted (s : State) (plane pc : Nat) (x : Int) (l3 : Nat) : Nat :=
  min 7 (l3 + (((neighbours pc).filter (s.hole plane x)).map (fun n => s.planeLevel plane n x * s.boostShare plane n / 8)).sum)

/-- The split probes that run on a head: the first 16 in the order of their decision (R348). -/
def State.probesOn (s : State) (h : Nat) : List Probe := (s.comp.probes.filter (fun p => p.head == h)).take 16

/-- What a split probe makes of a slot (R348): fires alone, silent, or no probe. -/
def State.probeOf (s : State) (h slot : Nat) : Option Bool :=
  (s.colOf h slot).bind (fun c => ((s.probesOn h).find? (fun p => p.column == c)).map (fun p =>
    ((s.slotsOf h c).head? == some slot) == decide (p.fired < s.par Par.inspProbeLines)))

/-- The drop level that a chart names for a slot on a line, with the table it passes; `none` where it fires nothing
(*Chart kinds*, R233). -/
def State.chartDrop (s : State) (h slot kind i : Nat) : Option Nat :=
  let own := fun b => some (s.table (eRemap (s.entry h slot)) b)
  let u := i - 16
  if i < 8 then (if stFires (s.slotState h slot) then own 7 else none)
  else if i < 16 ∨ s.slotState h slot = 5 ∨ s.slotState h slot = 4 then none
  else if kind = 1 then (if u % 16 < 8 ∧ slot % 16 = u / 16 then own 7 else none)
  else if kind = 2 then (if u % 32 = 16 ∧ slot % 16 = u / 32 % 16 then own 7 else none)
  else
    let first := match s.colOf h slot with | some c => (s.slotsOf h c).head? == some slot | none => false
    if u % 80 < 64 ∧ first = decide (u % 80 < 32) then some (s.table 6 (u / 80 + 1)) else none

/-- The code that a nozzle fires at the line boundary of a position, at the firing depth of the line (R213, R216, R217,
R220, R221, R227, R233, R348); a line that read badly does not fire (R206). -/
def State.code (s : State) (h : Nat) (p : Int) (f slot : Nat) : Nat :=
  let x := p - eOffset (s.entry h slot)
  match s.colOf h slot, s.segAt h x with
  | some c, some g =>
    let i := (x - g.p0).toNat
    match g.chart with
    | some (kind, _) => (s.chartDrop h slot kind i).elim 0 (s.toCode h f)
    | none =>
      let pc := s.colFirst h + c
      let plane := s.plane h
      if !stFires (s.slotState h slot) || s.probeOf h slot == some false || !s.stitchFires h pc x
          || g.bad.any (fun b => b.1 == h && b.2.1 ≤ i && i < b.2.1 + b.2.2) then 0
      else
        let b := s.boosted plane pc x (scaleLevel g.depth (s.level g h i c))
        let t := if s.solo h slot || s.probeOf h slot == some true then s.par (Par.at_ Par.compUSoloTable plane) else eRemap (s.entry h slot)
        s.toCode h f (s.table t b)
  | _, _ => 0

/-- The renderer's copy of a head-line (R335): every nozzle that fires, with the column, position and segment of its level. -/
def State.shotsOf (s : State) (h : Nat) (p : Int) (f cap : Nat) : List Shot :=
  (List.range (s.slots h)).filterMap (fun slot =>
    let q := min cap (s.code h p f slot)
    let x := p - eOffset (s.entry h slot)
    match s.colOf h slot, s.segAt h x with
    | some c, some g =>
      if q = 0 then none
      else some ⟨h, slot, s.plane h, s.colFirst h + c, x, q, g.handle, g.chart.isSome, s.solo h slot || s.probeOf h slot == some true⟩
    | _, _ => none)

/-- A head-line goes to firing: its copy is taken, for the most recent 8,192 positions, and the split probes of the head
advance (R335, R348). -/
def State.copyLine (h : Nat) (p : Int) (f cap : Nat) (s : State) : State :=
  let on := s.probesOn h
  let probes := s.comp.probes.map (fun (q : Probe) => if on.contains q then { q with fired := q.fired + 1 } else q)
  let tap := s.shotsOf h p f cap ++ s.insp.tap.filter (fun x => decide (s.pos.hw < x.y + 8192))
  { s with
    insp := { s.insp with tap := tap }
    comp := { s.comp with probes := probes.filter (fun q => q.fired < 2 * s.par Par.inspProbeLines) } }

/-- Omax: the largest OFFSET of a GOOD or WATCH nozzle of a head (R228). -/
def State.omax (s : State) (h : Nat) : Nat :=
  ((s.ledger h).entries.filter (fun e => stFires (s.slotState h e.1))).foldl (fun m e => max m (eOffset e.2)) 0

/-- A head gap: no accepted segment has a line at p - 63 to p on the head (*Effect of changes*). -/
def State.headGap (s : State) (h : Nat) (p : Int) : Bool :=
  !s.spool.segs.any (fun g => g.live && g.bound && bitAt g.heads h && decide (g.p0 ≤ p) && decide (p - 63 ≤ g.lastPos))

/-- No segment uses a head (R229, R191): none of the states named is held by a segment of it. -/
def State.headFree (s : State) (h : Nat) : Bool :=
  !s.spool.segs.any (fun g => bitAt g.heads h && (g.live || g.state == Sg.retained))

/-! ## Messages to the head that carry tables (R288) -/

/-- Sends a head message on the lanes of its port that are UP. -/
def State.toHead (h mtype : Nat) (vals : List Nat) (data : List Byte) (s : State) : State :=
  s.each ([2 * h, 2 * h + 1].filter s.laneIsUp) (fun u s => (s.emit (.theal u mtype vals data)).frameOut u (headMessage mtype vals data))

/-- Sends RECIPE (2) or VERNIER (3) with the next TSEQ, for the next head-line (R274, R288). -/
def State.sendTable (h kind first : Nat) (data : List Byte) (s : State) : State :=
  let x := s.head h
  let q := ((if kind = 2 then x.recipeTseq else x.vernTseq) + 1) % 256
  let ap := (s.fireHead h).lseq
  let s := s.modHead h (fun x => { x with
    recipeTseq := if kind = 2 then q else x.recipeTseq
    vernTseq := if kind = 2 then x.vernTseq else q
    tables := x.tables ++ [⟨kind, q, ap, first, data, s.now⟩] })
  s.toHead h kind [ap, q, first, data.length] data

/-- Sends the VERNIER of a slot. -/
def State.sendVernier (h slot : Nat) (s : State) : State :=
  s.when (s.attached h) (State.sendTable h 3 slot [BitVec.ofNat 8 (eVernier (s.entry h slot))])

/-- Sends every slot's VERNIER, 2,048 slots a message (R283). -/
def State.sendVerniers (h : Nat) (s : State) : State :=
  s.each (List.range (ceilDiv (s.slots h) 2048)) (fun i s =>
    s.sendTable h 3 (2048 * i) ((List.range (min 2048 (s.slots h - 2048 * i))).map (fun k => BitVec.ofNat 8 (eVernier (s.entry h (2048 * i + k))))))

/-! ## Changes and the journal (R229, R230, R448) -/

/-- A ledger change of a slot: the new entry, and whether its place waits for a head gap. -/
def slotChange (h slot value : Nat) (gap chart : Bool) : Change := ⟨⟨1, h, slot, value⟩, gap, chart⟩

/-- One change is held by the compensation engine. -/
def State.holdChange (c : Change) (s : State) : State :=
  let e := c.entry
  match e.kind with
  | 1 =>
    let old := s.entry e.index e.slot
    let new := if c.gap then setCharted (setPlace e.value (ePlace old)) (bitAt old 28) else e.value
    let s := s.modLedger e.index (fun l => { l with
      entries := mset (fun _ => absentEntry) e.slot new l.entries
      places := if c.gap then assoc e.slot (ePlace e.value + bit (bitAt e.value 28) 12 + bit c.chart 13) l.places else l.places
      chart := l.chart || (c.gap && c.chart) })
    s.when (!c.gap && eVernier old != eVernier new) (State.sendVernier e.index e.slot)
  | 2 => { s with comp := { s.comp with tables := modNth (fun t => t / 2 ^ 32 * 2 ^ 32 + e.value) e.index s.comp.tables } }
  | 3 => { s with comp := { s.comp with tables := modNth (fun t => t % 2 ^ 32 + e.value * 2 ^ 32) e.index s.comp.tables } }
  | 4 => { s with comp := { s.comp with fb := modNth (fun _ => e.value) e.index s.comp.fb } }
  | _ => s

/-- What covers a column that has become unprintable on its head (R218): 0 boost, 1 stitch partner, 2 nothing. -/
def State.coverOf (s : State) (h pc : Nat) : Nat :=
  let plane := s.plane h
  let stitch := match s.innerZone h pc with
    | some (g, _) => s.printable g (pc - s.colFirst g)
    | none => match s.outerZone plane pc with
      | some (side, j) => (s.zoneCol plane side j).peerPrints s.effective && s.reachable (s.zonePeer plane side)
      | none => false
  if stitch then 1 else if (neighbours pc).any (s.planePrintable plane) then 0 else 2

/-- A column stops being printable on a head (R218, R224): EV035 and the stitch frame. -/
def State.columnLost (h c : Nat) (s : State) : State :=
  let pc := s.colFirst h + c
  let plane := s.plane h
  let s := s.raise Ev.columnUnprintable plane (leBytes 2 pc ++ leBytes 1 (s.coverOf h pc))
  match s.outerZone plane pc with
  | some (side, j) => s.when (!s.planePrintable plane pc) (State.zoneLost plane side j)
  | none => s

/-- A column becomes printable on a head again (R225). -/
def State.columnBack (h c : Nat) (s : State) : State :=
  let pc := s.colFirst h + c
  match s.outerZone (s.plane h) pc with
  | some (side, j) => s.zoneBack (s.plane h) side j
  | none => s

/-- Probes that end early: a nozzle left GOOD and WATCH, or was pinned (R348). -/
def State.endProbes (s : State) : State :=
  { s with comp := { s.comp with probes := s.comp.probes.filter (fun p =>
    (s.slotsOf p.head p.column).all (fun x => stFires (s.slotState p.head x) && !ePin (s.entry p.head x))) } }

/-- EV038 on a head whose out count reaches COMP.OUT_LIMIT_HEAD; it ends when the count falls below (R236). -/
def State.checkLimit (h : Nat) (s : State) : State :=
  if s.outCount h < s.par Par.compOutLimitHead then s.endCond Ev.compLimit h
  else s.when (!s.cond Ev.compLimit h) (State.raiseKeyed Ev.compLimit 0 h [BitVec.ofNat 8 h])

/-- The journal entry of a change: that of a slot whose place waits says the place that will hold (R232). -/
def State.journalled (s : State) (c : Change) : JEntry :=
  match if c.entry.kind = 1 ∧ !c.gap then lookup c.entry.slot (s.ledger c.entry.index).places else none with
  | some q => { c.entry with value := setCharted (setPlace c.entry.value (q % 4096)) (bitAt q 12) }
  | none => c.entry

/-- The printable columns of a head. -/
def State.printing (s : State) (h : Nat) : List Nat :=
  if s.attached h then (List.range (s.colCount h)).filter (s.printable h) else []

/-- A move of a head, with what its columns then show (R218, R224, R225). -/
def State.movingHead (h : Nat) (move : State → State) (s : State) : State :=
  let was := s.printing h
  let s := move s
  let is := s.printing h
  let s := s.each (was.filter (fun c => !is.contains c)) (State.columnLost h)
  s.each (is.filter (fun c => !was.contains c)) (State.columnBack h)

/-- A group is journalled and held whole (R229, R448), with what the columns it touches then show. -/
def State.holdGroup (cs : List Change) (s : State) : State :=
  let cols : List (Nat × Nat) := (cs.filterMap (fun (c : Change) =>
    if c.entry.kind = 1 then (s.colOf c.entry.index c.entry.slot).map (fun k => (c.entry.index, k)) else none)).eraseDups
  let was := cols.filter (fun k => s.printable k.1 k.2)
  let s := { s with comp := { s.comp with journal := s.comp.journal ++ cs.map s.journalled } }
  let s := s.each cs State.holdChange
  let s := s.endProbes
  let lost := was.filter (fun k => !s.printable k.1 k.2)
  let back := cols.filter (fun k => !was.contains k && s.printable k.1 k.2)
  let s := s.each lost (fun k s => s.columnLost k.1 k.2)
  let s := s.each back (fun k s => s.columnBack k.1 k.2)
  s.each ((cs.map (fun (c : Change) => c.entry.index)).eraseDups.filter (· < 16)) State.checkLimit

/-- Whether the journal has room for a group (R448). -/
def State.journalRoom (s : State) (n : Nat) : Bool := s.comp.journal.length + n ≤ 8192

/-- Makes a group of changes: held at once, or behind the groups that wait for room (R448). -/
def State.change (cs : List Change) (s : State) : State :=
  if cs.isEmpty then s
  else if s.comp.groups.isEmpty && s.journalRoom cs.length then s.holdGroup cs
  else { s with comp := { s.comp with groups := s.comp.groups ++ [cs] } }

/-- Admits waiting groups in their order while the journal has room. -/
def State.admitGroups : Nat → State → State
  | 0, s => s
  | fuel + 1, s =>
    match s.comp.groups with
    | [] => s
    | cs :: rest =>
      if s.journalRoom cs.length then State.admitGroups fuel ({ s with comp := { s.comp with groups := rest } }.holdGroup cs) else s

/-- Changes of a chart apply still wait on a head (R229, R234). -/
def State.chartWaits (s : State) (h : Nat) : Bool :=
  (s.ledger h).places.any (fun q => bitAt q.2 13) || (s.ledger h).term.isSome

/-- EV037 once a head's changes of a chart apply have taken effect (R234). -/
def State.alignDone (h : Nat) (s : State) : State :=
  if (s.ledger h).chart && !s.chartWaits h then
    (s.modLedger h (fun l => { l with chart := false })).raise Ev.alignApplied 0 [BitVec.ofNat 8 h]
  else s

/-- The entries with one place that waited. -/
def placed (m : List (Nat × Nat)) (q : Nat × Nat) : List (Nat × Nat) :=
  mset (fun _ => absentEntry) q.1 (setCharted (setPlace (mget (fun _ => absentEntry) m q.1) (q.2 % 4096)) (bitAt q.2 12)) m

/-- Places that waited take effect at a head gap (R229). -/
def State.takePlaces (h : Nat) (p : Int) (s : State) : State :=
  let l := s.ledger h
  if l.places.isEmpty || !s.headGap h p then s
  else
    let s := s.modLedger h (fun l => { l with
      entries := l.places.foldl placed l.entries
      places := [] })
    (s.each (l.places.map Prod.fst) (State.sendVernier h)).alignDone h

/-- The move of the head-level term takes effect once the head is free (R229). -/
def State.takeTerm (h : Nat) (s : State) : State :=
  match (s.ledger h).term with
  | none => s
  | some d =>
    if !s.headFree h then s
    else
      let v := (s.par (Par.at_ Par.fireULineOffset h) : Int) + d
      ((s.setPar (Par.at_ Par.fireULineOffset h) (min 0xFFFFF v.toNat)).modLedger h (fun l => { l with term := none })).alignDone h

/-! ## The rebuild from the head memory (R231, R289) -/

/-- The placement of a slot in 1/64 line: PLACE of 50 nm over POS.LINE_PITCH in pm, to the nearest (R289). -/
def State.placeOf (s : State) (mem : List Byte) (slot : Nat) : Nat :=
  let pitch := max 1 (s.par Par.posLinePitch)
  (2 * (leAt mem (0x200 + 4 * slot) 2 * 50000 * 64) + pitch) / (2 * pitch)

/-- The entry that the head memory gives a slot (R231). -/
def State.entryFrom (s : State) (h : Nat) (mem : List Byte) (slot : Nat) : Nat :=
  let b := leAt mem (0x202 + 4 * slot) 1
  let place := s.placeOf mem slot
  let cls := signed 4 (b % 16)
  let beyond := decide (4095 < place)
  let st := if (s.colOf h slot).isNone then 5 else if bitAt b 4 || beyond then 4 else 0
  let remap := if cls < -6 ∨ 6 < cls then 6 else (6 + cls).toNat
  setPlace (st + 16 * remap) (if beyond then 0 else place)

/-- A port's ledger is rebuilt (R231, R211, R242): reason 1 new head, 2 no stored ledger, 3 untrusted, 4 mapping change,
which keeps pinned entries. EV039. -/
def State.rebuild (h reason : Nat) (s : State) : State :=
  let mem := (s.head h).mem
  let n := s.slots h
  let want := fun slot =>
    if reason == 4 && ePin (s.entry h slot) then s.entry h slot else if slot < n then s.entryFrom h mem slot else absentEntry
  let slots := (List.range n ++ ((s.ledger h).entries.map Prod.fst).filter (fun k => n ≤ k))
  let keeps := fun slot => reason == 4 && ePin (s.entry h slot)
  let past := fun slot => if keeps slot then s.hist h slot else { noHist with baseRemap := eRemap (want slot), basePlace := ePlace (want slot) }
  let s := s.modLedger h (fun l => { l with
    hist := ((List.range n).map (fun k => (k, past k))).filter (fun e => e.2 != noHist)
    places := l.places.filter (fun q => keeps q.1), chart := false, term := none, remap := false })
  let s := { s with comp := { s.comp with
    probes := s.comp.probes.filter (fun p => p.head != h)
    deferred := s.comp.deferred.filter (fun d => d.head != h) } }
  let s := s.change ((slots.filter (fun k => want k != s.entry h k)).map (fun k => slotChange h k (want k) false false))
  s.raise Ev.ledgerRebuilt 0 [BitVec.ofNat 8 h, BitVec.ofNat 8 reason]

/-- Columns of the zones across AL716 that a commit made printable or unprintable here (R224, R225). -/
def State.moveZones (old : State) (s : State) : State :=
  s.each ((List.range 4).flatMap (fun p => [(p, 0), (p, 1)])) (fun z s =>
    if old.zoneFirst z.1 z.2 ≠ s.zoneFirst z.1 z.2 ∨ old.zoneCols z.1 z.2 ≠ s.zoneCols z.1 z.2 then s
    else
      let was := old.zoneIs z.1 z.2 true
      let is := s.zoneIs z.1 z.2 true
      let s := s.each (was.filter (fun j => !is.contains j)) (State.zoneLost z.1 z.2)
      s.each (is.filter (fun j => !was.contains j)) (State.zoneBack z.1 z.2))

/-! ## Host commands -/

/-- COMP_LEDGER_READ. -/
def effCompLedgerRead : Effect := fun c s =>
  needLen c 8 s <|
  let h := leAt c.body 0 1
  let first := leAt c.body 2 2
  let n := leAt c.body 4 2
  if 16 ≤ h then refuse St.valueRange 8 s
  else if n = 0 ∨ 2048 < n then refuse St.valueRange 12 s
  else if 8192 < first + n then refuse St.valueRange 10 s
  else needZero c 1 1 s <| needZero c 6 2 s <| needLearn c .ledger s <|
  okay 0 (leBytes 1 h ++ [0] ++ leBytes 2 first ++ leBytes 2 n ++ [0, 0] ++ (List.range n).flatMap (fun i => leBytes 4 (s.entryShown h (first + i)))) s

/-- EV033 for a declaration of OUT and EV034 for a restore: head, slot and SOURCE (R237, R238, R241). -/
def State.raiseNozzle (ev h slot src : Nat) (s : State) : State :=
  s.raise ev 0 (leBytes 1 h ++ leBytes 2 slot ++ leBytes 1 src)

/-- COMP_NOZZLE_SET (R241, R242). A set that yields OUT or GOOD from another state raises EV033 or EV034; one that yields HELD_OUT raises
neither. -/
def effCompNozzleSet : Effect := fun c s =>
  needLen c 8 s <|
  let b := c.body
  let h := leAt b 0 1 % 16
  let b1 := leAt b 1 1
  let op := b1 % 4
  let slot := leAt b 2 2 % 8192
  let st := leAt b 4 1 % 8
  let setState := bitAt b1 2
  if op = 3 then refuse St.badEnum 9 s
  else if setState && !(st == 0 || st == 2 || st == 3) then refuse St.badEnum 12 s
  else if 16 ≤ leAt b 0 1 then refuse St.reservedNonzero 8 s
  else if 32 ≤ b1 then refuse St.reservedNonzero 9 s
  else if 8192 ≤ leAt b 2 2 then refuse St.reservedNonzero 10 s
  else if 8 ≤ leAt b 4 1 then refuse St.reservedNonzero 12 s
  else if 16 ≤ leAt b 5 1 then refuse St.reservedNonzero 13 s
  else if 64 ≤ leAt b 6 1 then refuse St.reservedNonzero 14 s
  else if 64 ≤ leAt b 7 1 then refuse St.reservedNonzero 15 s
  else if s.slotState h slot = 5 then refuse St.valueRange 10 s
  else needChange c .ledger s <|
  if op ≠ 0 ∧ c.role ≠ roleIntegrator ∧ c.role ≠ roleService then refuse St.classForbidden 0 s
  else needOwner c s <|
    let old := s.entry h slot
    let place := 64 * leAt b 6 1 + leAt b 7 1
    let e := if setState then setBits old 0 3 st else old
    let e := if bitAt b1 3 then setBits e 4 4 (leAt b 5 1) else e
    let e := if op = 0 then e else setBits e 3 1 (if op = 1 then 1 else 0)
    let held := (lookup slot (s.ledger h).places).elim (ePlace old) (· % 4096)
    let move := bitAt b1 4 && place != held
    let done := if ePin e then St.pinned else St.ok
    if e = old ∧ !move then (s, .done done 0 (.bytes []))
    else
      let e := setSource e 2
      let s := s.change [slotChange h slot (if move then setPlace e place else e) move false]
      let s := s.when (op == 1 && !ePin old) (State.record 5 8 0 (leBytes 1 h ++ leBytes 2 slot ++ leBytes 1 c.sn))
      let s := s.when (stOut (eState e) && !stOut (eState old)) (State.modHist h slot (fun x => { x with outAt := s.now }))
      let s := s.when (!stOut (eState e) && stOut (eState old)) (State.modHist h slot (fun x => { x with suspect := false }))
      let s := if eState e = 2 ∧ eState old ≠ 2 then s.raiseNozzle Ev.nozzleOut h slot 2
        else if eState e = 0 ∧ eState old ≠ 0 then s.raiseNozzle Ev.nozzleRestored h slot 2
        else s
      (s, .done done 0 (.bytes []))

/-- Lines of a chart kind (*Chart kinds*). -/
def chartLines (kind : Nat) : Nat := if kind = 1 then 272 else if kind = 2 then 2064 else 576

/-- The first serial from a value whose handle is not tracked (R233). -/
def State.freshSerial (s : State) : Nat → Nat → Nat
  | 0, n => n
  | fuel + 1, n => if (s.tracked (s.handleOf 0 n)).isSome then s.freshSerial fuel ((n + 1) % 2 ^ 32) else n

/-- The admission of a chart: its decode and read rates are 0 (R233). -/
def State.chartSeg (s : State) (kind heads rate p0 serial opener : Nat) : Seg where
  handle := s.handleOf 0 serial
  job := 0
  segId := serial
  printGo := false
  pgo := 0
  keep := false
  group := false
  depth := 3
  heads := heads
  lines := chartLines kind
  rate := rate
  first := p0
  groupId := 0
  coord := 0
  members := 0
  opener := opener
  state := Sg.verifying
  strips := []
  source := none
  reserved := 0
  edge := none
  bound := true
  p0 := p0
  tAccept := 0
  tFirst := 0
  tLast := 0
  order := 0
  verifiedAt := s.now
  votedAt := none
  lead := 0
  decRate := 0
  readRate := 0
  closeCid := none
  armCid := none
  cancelCids := []
  next := []
  ranges := []
  causes := []
  chart := some (kind, serial)
  byReset := false
  bad := []

/-- Frames are no longer held for the lines of some charts (R342). -/
def State.releaseCharts (which : Nat → Bool) (s : State) : State :=
  { s with insp := { s.insp with images := s.insp.images.map (fun (i : Image) => { i with charts := i.charts.filter (fun h => !which h) }) } }

/-- COMP_CHART_QUEUE (R233). -/
def effCompChartQueue : Effect := fun c s =>
  needLen c 16 s <|
  let b := c.body
  let kind := leAt b 0 1
  let heads := leAt b 2 2
  let rate := leAt b 4 4
  if kind = 0 ∨ 3 < kind then refuse St.badEnum 8 s
  else if heads = 0 then refuse St.valueRange 10 s
  else if rate = 0 ∨ 240000 < rate then refuse St.valueRange 12 s
  else needZero c 1 1 s <| needChange c .ledger s <| needOwner c s <| needReady s <|
  let serial := s.freshSerial 65537 (s.par Par.compChartSerial)
  let s := s.setPar Par.compChartSerial ((serial + 1) % 2 ^ 32)
  let g := s.chartSeg kind heads rate (leAt b 8 8) serial c.sn
  if 4096 ≤ s.queued then refuse St.queueFull 0 s
  else
    match s.admission g 0 with
    | .refuse st d body => (s.bump Par.spoolSegRefused 1, .done st d body)
    | .accept =>
      let s := s.releaseCharts (fun h => s.spool.segs.any (fun x => x.handle == h && (x.heads &&& heads) != 0)
        || s.spool.records.any (fun (r : Record) => r.seg.handle == h && (r.seg.heads &&& heads) != 0))
      okay 0 (leBytes 8 g.handle) ({ s with spool := { s.spool with segs := s.spool.segs ++ [g] } }.acceptSeg g)

def execCompLedgerRead (t : Nat) (h : Hdr) (b : List Byte) (s : State) : Outcome State Fault Refusal :=
  .next (hostRow (.compLedgerRead t h b) 0x0801 t h b effCompLedgerRead s)

def execCompNozzleSet (t : Nat) (h : Hdr) (b : List Byte) (s : State) : Outcome State Fault Refusal :=
  .next (hostRow (.compNozzleSet t h b) 0x0802 t h b effCompNozzleSet s)

def execCompChartQueue (t : Nat) (h : Hdr) (b : List Byte) (s : State) : Outcome State Fault Refusal :=
  .next (hostRow (.compChartQueue t h b) 0x0804 t h b effCompChartQueue s)

/-! ## Device acts -/

/-- JOURNAL_GROUP_ADMIT (R448). -/
def execJournalGroupAdmit (t : Nat) (s : State) : Outcome State Fault Refusal :=
  let s := s.at_ t
  .next (s.admitGroups (s.comp.groups.length + 1))

/-- ALIGN_APPLIED (R229, R234): chart changes take effect at a head gap, or once the head is free. -/
def execAlignApplied (t head : Nat) (s : State) : Outcome State Fault Refusal :=
  let s := s.at_ t
  if 16 ≤ head then .next s
  else
    let s := (s.takePlaces head ((s.fireHead head).last - s.par (Par.at_ Par.fireULineOffset head))).takeTerm head
    .next (s.when s.comp.groups.isEmpty (State.alignDone head))

end Sys2Proof.Machine
end

