-- ==== Sys2Proof/Machine/Pos.lean ====
section
/-! DEFINITION. The position engine (10_position.md): encoder counts, the high-water mark, channel faults and
switchover, index, print-go edges and reject outputs. -/
namespace Sys2Proof.Machine
open Host

/-- A channel. -/
def State.chan (s : State) (c : Nat) : Chan := nth s.pos.chans ⟨0, 0, 0, none, none, false, 0, 0, none, 0, 0, 0, none, 0, none, false⟩ c

/-- Changes one channel. -/
def State.modChan (c : Nat) (f : Chan → Chan) (s : State) : State :=
  { s with pos := { s.pos with chans := modNth f c s.pos.chans } }

/-- The channels in use by POS.CHANNELS. -/
def State.usedChans (s : State) : List Nat :=
  match s.par Par.posChannels with
  | 0 => [0]
  | 1 => [1]
  | _ => [0, 1]

/-- POS[c].COUNTS_PER_LINE, 16.16. -/
def State.cpl (s : State) (c : Nat) : Nat := max 1 (s.par (Par.at_ Par.posUCountsPerLine c))

/-- Counts of a channel as a position in 1/65,536 line (R247). -/
def State.countPos (s : State) (c : Nat) (n : Int) : Int := n * 4294967296 / (s.cpl c : Nat)

/-- The position that a channel gives. -/
def State.chanPos (s : State) (c : Nat) : Int := (s.chan c).basePos + s.countPos c ((s.chan c).count - (s.chan c).baseCount)

/-- Counts of a channel from its base at which its position first reaches `p`: the way back of `countPos`. -/
def State.countsAt (s : State) (c : Nat) (p : Int) : Int :=
  ((p - (s.chan c).basePos) * (s.cpl c : Nat) + 4294967295) / 4294967296

/-- POS[c].FAULT. -/
def State.faultBits (s : State) (c : Nat) : Nat := s.par (Par.at_ Par.posUFault c)

/-- POS[c].STATE: 0 unused, 1 active, 2 standby, 3 fault; 0 until start-up leaves its first phase. -/
def State.chanState (s : State) (c : Nat) : Nat :=
  if s.par Par.powerPhase = 0 ∨ !s.usedChans.contains c then 0
  else if (s.chan c).inFault then 3
  else if s.pos.active = c then 1 else 2

/-- Position comes from the member's own encoders (*CAUSE.POS_SOURCE*): 0x7FF or its own address. -/
def State.ownPos (s : State) : Bool := s.par Par.causePosSource == 0x7FF || s.par Par.causePosSource == s.par Par.causeAddress

/-! ## The mark -/

/-- A new P from a count sample (R247, R249-R251): the excursion, its hold and the mark. `perLine` counts give one line. -/
def State.advance (p : Int) (t dt : Nat) (dp one : Int) (c : Nat) (s : State) : State :=
  let depth := if p < s.pos.hwP then (s.countsAt c s.pos.hwP - s.countsAt c p).toNat else 0
  let deep := s.par Par.posRevTol < depth && !s.pos.hold && !s.pos.quiet
  let back := depth == 0 && s.pos.excursion && !s.pos.hold
  let s := s.when (back && !s.pos.quiet) (State.bump Par.posRevSmall 1)
  let s := { s with pos := { s.pos with
    p := p, tK := t, dt := dt, dp := dp, one := one, stopped := decide (dp ≤ 0)
    excursion := if back then false else s.pos.excursion || depth != 0 } }
  let s := if deep then
      (({ s with pos := { s.pos with hold := true } }).stallCams.bump Par.posRevLarge 1).raise Ev.reverseHold 0 (leBytes 4 depth)
    else s
  let beyond := decide (s.pos.hw * 65536 < p)
  let s := if beyond && (s.pos.hold || s.pos.quiet) then
      ({ s with pos := { s.pos with hold := false, quiet := false, excursion := false } }).endCond Ev.reverseHold 0
    else s
  if s.pos.hw < linesOf p ∨ (s.pos.hwP < s.pos.hw * 65536 ∧ s.pos.hw = linesOf p) then
    { s with pos := { s.pos with hw := linesOf p, hwP := p } }
  else s

/-- The channel that sets P (R255): the active one, and while position is lost the other where the active shows SIGNAL
or AMPLITUDE and the other neither. -/
def State.followed (s : State) : Option Nat :=
  let bad := fun c => bitAt (s.faultBits c) 0 || bitAt (s.faultBits c) 2
  if s.pos.lost.isNone then some s.pos.active
  else if !bad s.pos.active then some s.pos.active
  else if s.usedChans.contains (1 - s.pos.active) && !bad (1 - s.pos.active) then some (1 - s.pos.active)
  else none

/-- Realigns a channel so that its position equals P (R252, R253). -/
def State.realign (c : Nat) (s : State) : State :=
  s.modChan c (fun (x : Chan) => { x with baseCount := x.count, basePos := s.pos.p, stale := false })

/-- Makes a channel active (R253): EV051 with both channels. -/
def State.switchTo (c : Nat) (s : State) : State :=
  let old := s.pos.active
  if old = c then s
  else
    let s := { s with pos := { s.pos with active := c, xStart := none } }
    (s.bump Par.posSwitchovers 1).raise Ev.encoderSwitchover 0 [BitVec.ofNat 8 old, BitVec.ofNat 8 c]

/-- Position is lost (R255, R373): EV054 names the source. -/
def State.losePos (cause source : Nat) (s : State) : State :=
  if s.pos.lost.isSome then s
  else { s with pos := { s.pos with lost := some cause, agrees := 0 } }.stallCams.raise Ev.encoderLostBoth 0 (leBytes 2 source)

/-- A channel without a reason left leaves fault at once where CROSSCHECK alone held it (R255): EV052 (R254). -/
def State.clearCross (c : Nat) (s : State) : State :=
  let b := s.faultBits c
  if !bitAt b 3 then s
  else
    let s := s.setPar (Par.at_ Par.posUFault c) (b - 8)
    if b = 8 then ((s.modChan c (fun (x : Chan) => { x with inFault := false })).endCond Ev.encoderFault c).raise Ev.encoderRecovered c [] else s

/-- Position is trusted again (R255, R373). -/
def State.trustPos (s : State) : State :=
  let s := { s with pos := { s.pos with lost := none, strikes := 0, agrees := 0 } }
  ((s.clearCross 0).clearCross 1).endCond Ev.encoderLostBoth 0

/-- Every channel in use is in fault (R255): position is lost where the own encoders set it. -/
def State.checkLost (s : State) : State :=
  s.when (s.ownPos && s.usedChans.all (fun u => (s.chan u).inFault)) (State.losePos 8 0x7FF)

/-- A reason appears on a channel (R246): EV050, and what it does to the position. An unused channel reports nothing. -/
def State.faultOn (c reason : Nat) (s : State) : State :=
  if !s.usedChans.contains c || bitAt (s.faultBits c) reason || 4 ≤ reason then
    s.modChan c (fun (x : Chan) => { x with faultAt := s.now })
  else
    let s := s.setPar (Par.at_ Par.posUFault c) (s.faultBits c + 2 ^ reason)
    let s := s.modChan c (fun (x : Chan) => { x with inFault := true, faultAt := s.now })
    let s := { s with pos := { s.pos with select := if s.pos.select = some c ∧ reason ≠ 3 then none else s.pos.select, xStart := none } }
    let s := s.raise Ev.encoderFault c [BitVec.ofNat 8 (2 ^ reason)]
    if reason = 3 then s
    else if s.pos.lost.isNone && s.pos.active == c && s.usedChans.contains (1 - c) && !(s.chan (1 - c)).inFault then s.switchTo (1 - c)
    else s.checkLost

/-- The cross-check of a count of the active channel (R252, R255): net travel of the two channels since the window began, in counts that
COUNTS_PER_LINE turns into lines. -/
def State.crossCheck (c : Nat) (s : State) : State :=
  let o := 1 - c
  let clean := fun u => s.faultBits u &&& 7 == 0
  if s.usedChans.length < 2 || c != s.pos.active || !(clean 0 && clean 1) then { s with pos := { s.pos with xStart := none } }
  else
    let fresh := some (c, (s.chan c).count, (s.chan o).count)
    match s.pos.xStart with
    | none => { s with pos := { s.pos with xStart := fresh } }
    | some (_, k0, m0) =>
      let da := ((s.chan c).count - k0) * (s.cpl o : Nat)
      let ds := ((s.chan o).count - m0) * (s.cpl c : Nat)
      if ((s.chan c).count - k0).natAbs * 65536 < s.cpl c * s.par Par.posXcheckLines then s
      else
        let s := { s with pos := { s.pos with xStart := fresh } }
        if da.natAbs * s.par Par.posXcheckTol + 2000 * s.cpl c < 1000 * (ds - da).natAbs then
          let s := s.bump Par.posXcheckFails 1
          let s := { s with pos := { s.pos with strikes := s.pos.strikes + 1, agrees := 0 } }
          if s.par Par.posXcheckStrikes ≤ s.pos.strikes && s.pos.lost.isNone then ((s.faultOn 0 3).faultOn 1 3).checkLost else s
        else
          let s := { s with pos := { s.pos with strikes := 0, agrees := s.pos.agrees + 1 } }
          if s.pos.lost.isSome && s.ownPos && s.par Par.posXcheckStrikes ≤ s.pos.agrees then s.trustPos else s

/-- Counts of a channel (R244, R247-R255): `d` after POS[c].DIR_INVERT. Channels that do not set the position (R372) are compared too. -/
def State.counted (c : Nat) (d : Int) (s : State) : State :=
  let s := s.modChan c (fun (x : Chan) => { x with count := x.count + d })
  let s := s.when (s.chan c).stale (State.realign c)
  let s := if s.pos.select = some c then
      let s := ({ s with pos := { s.pos with select := none } }).switchTo c
      if s.pos.lost.isSome && s.ownPos then s.trustPos else s
    else s
  if !s.ownPos then (if s.pos.active = c then s.crossCheck c else s)
  else if s.followed = some c then
    let p := s.chanPos c
    let s := s.advance p s.ring (s.ring - s.pos.tK) (p - s.pos.p) (s.countPos c 1) c
    (s.realign (1 - c)).crossCheck c
  else s

/-- The sign of a count (R244). -/
def State.dir (s : State) (c : Nat) (d : Int) : Int := if s.par (Par.at_ Par.posUDirInvert c) = 1 then -d else d

/-- Whether a counting edge follows the one before on its input by less than tSTEP_P (R246). -/
def tooClose (now : Nat) (last : Option Nat) : Bool := match last with
  | some l => decide (now < l + 25)
  | none => false

/-- ENCODER_COUNT (R243, R244, R246-R255): the counting edges whose first samples at the new level lie in this sample of a channel in a
digital mode, how many ns each level has held since, and the level of B. A level that has not held for POS[c].FILTER is no edge; edges
closer than tSTEP_P discard the count and are an over-rate. -/
def execEncoderCount (t ch : Nat) (riseA riseB : Bool) (level : EncLevel) (s : State) : Outcome State Fault Refusal :=
  let s := s.at_ t
  let mode := s.par (Par.at_ Par.posUMode ch)
  if 2 ≤ ch ∨ 2 ≤ mode then .next s
  else
    let x := s.chan ch
    let filter := s.par (Par.at_ Par.posUFilter ch)
    let a := riseA && decide (filter ≤ level.heldA)
    let b := riseB && mode == 1 && decide (filter ≤ level.heldB)
    let fast := (a && tooClose s.now x.edgeA) || (b && tooClose s.now x.edgeB)
    let s := s.modChan ch (fun (x : Chan) => { x with edgeA := if a then some s.now else x.edgeA, edgeB := if b then some s.now else x.edgeB })
    if fast then .next (s.faultOn ch 1)
    else
      let d : Int := if mode = 0 then (if a then (if level.levelB then -1 else 1) else 0)
        else (if a then 1 else 0) - (if b then 1 else 0)
      .next (if d = 0 then s else s.counted ch (s.dir ch d))

/-- The tangents of the first 128 steps of 1/1,024 period, in units of 2^-40. -/
def tan0 : List Nat :=
  [6746603521, 13493715087, 20241842897, 26991495454, 33743181723, 40497411280, 47254694469, 54015542557,
   60780467886, 67549984031, 74324605957, 81104850175, 87891234901, 94684280215, 101484508226, 108292443227,
   115108611863, 121933543295, 128767769370, 135611824781, 142466247248, 149331577682, 156208360362, 163097143116,
   169998477490, 176912918942, 183841027015, 190783365532, 197740502778, 204713011702, 211701470105, 218706460842]
def tan1 : List Nat :=
  [225728572026, 232768397233, 239826535712, 246903592598, 254000179134, 261116912889, 268254417986, 275413325336,
   282594272871, 289797905788, 297024876794, 304275846358, 311551482970, 318852463403, 326179472985, 333533205873,
   340914365336, 348323664046, 355761824373, 363229578688, 370727669679, 378256850668, 385817885937, 393411551070,
   401038633291, 408699931828, 416396258269, 424128436943, 431897305300, 439703714309, 447548528867, 455432628211]
def tan2 : List Nat :=
  [463356906357, 471322272536, 479329651654, 487379984761, 495474229535, 503613360779, 511798370936, 520030270620,
   528310089159, 536638875159, 545017697085, 553447643859, 561929825484, 570465373672, 579055442514, 587701209153,
   596403874493, 605164663922, 613984828063, 622865643555, 631808413852, 640814470055, 649885171771, 659021908003,
   668226098072, 677499192566, 686842674332, 696258059495, 705746898519, 715310777305, 724951318329, 734670181823]
def tan3 : List Nat :=
  [744469066999, 754349713316, 764313901803, 774363456424, 784500245500, 794726183181, 805043230982, 815453399372,
   825958749431, 836561394571, 847263502321, 858067296194, 868975057620, 879989127962, 891111910613, 902345873185,
   913693549783, 925157543377, 936740528276, 948445252704, 960274541491, 972231298875, 984318511434, 996539251138,
   1008896678542, 1021394046121, 1034034701753, 1046822092360, 1059759767717, 1072851384433, 1086100710126, 1099511627776]
def tanTable : List Nat := tan0 ++ tan1 ++ tan2 ++ tan3

/-- The arctangent of `y / x` in the first octant and whether it is a whole number of steps of 1/1,024 period. -/
def octant (x y : Nat) : Nat × Bool :=
  ((tanTable.filter (fun t => decide (x * t ≤ y * 2 ^ 40))).length, y == 0 || x == y)

/-- The angle of a point of the first quadrant, x above 0 or y above 0, in steps of 1/1,024 period, and whether it is whole. -/
def quadrant (x y : Nat) : Nat × Bool :=
  if y ≤ x then octant x y
  else match octant y x with
    | (k, true) => (256 - k, true)
    | (k, false) => (255 - k, false)

/-- The phase of a sine and a cosine, 1/1,024 period (R245). The spec states neither how the arctangent is rounded nor that of nothing: the
values are free (log entry 167). -/
def phaseOf (sine cosine : Int) : Nat :=
  let (k, whole) :=
    if 0 < cosine ∧ 0 ≤ sine then quadrant cosine.natAbs sine.natAbs
    else if cosine ≤ 0 ∧ 0 < sine then let q := quadrant sine.natAbs cosine.natAbs; (256 + q.1, q.2)
    else if cosine < 0 then let q := quadrant cosine.natAbs sine.natAbs; (512 + q.1, q.2)
    else if sine < 0 then let q := quadrant sine.natAbs cosine.natAbs; (768 + q.1, q.2)
    else (Config.phaseOfNothing.toNat, true)
  if whole then k % 1024 else (k + (Config.phaseUp sine cosine).toNat) % 1024

/-- The step between two phases of 1/1,024 period, from -512 to 511. -/
def phaseStep (old new : Nat) : Int := ((new + 1536 - old % 1024 : Nat) % 1024 : Nat) - (512 : Int)

/-- A 12-bit sample, two's complement. -/
def sample12 (v : Int) : Int := signed 12 (v % 4096).toNat

/-- SINCOS_SAMPLE (R245, R246, R253): the 12-bit samples of A and B in mV after the correction of offset and gain, which the spec does not
lay out (log entry 167). A step above 1/4 period, and the sample that finds the channel outside its amplitude window for the 16th time,
discard the count. -/
def execSincosSample (t ch : Nat) (a b : Int) (_phase : Computed) (s : State) : Outcome State Fault Refusal :=
  let s := s.at_ t
  if 2 ≤ ch ∨ s.par (Par.at_ Par.posUMode ch) ≠ 2 then .next s
  else
    let sine := sample12 a
    let cosine := sample12 b
    let phase := phaseOf sine cosine
    let nom := max 1 (s.par (Par.at_ Par.posUAmpNominal ch))
    let power := ((sine * sine + cosine * cosine) * 4000).toNat
    let outside := power < s.par (Par.at_ Par.posUAmpLow ch) * (nom * nom) || s.par (Par.at_ Par.posUAmpHigh ch) * (nom * nom) < power
    let x := s.chan ch
    let s := s.modChan ch (fun (x : Chan) => { x with
      phase := some phase, outRun := if outside then x.outRun + 1 else 0, ratioSum := x.ratioSum + power / (nom * nom), ratioN := x.ratioN + 1 })
    let d := match x.phase with
      | some p => phaseStep p phase
      | none => 0
    let weak := decide (16 ≤ (s.chan ch).outRun)
    let found := weak && !bitAt (s.faultBits ch) 2
    let s := if 256 < d.natAbs then s.faultOn ch 1 else if d = 0 ∨ found then s else s.counted ch (s.dir ch d)
    .next (s.when weak (State.faultOn ch 2))

/-- INTERPOLATION_STOP (R251): no count for twice the latest interval. -/
def execInterpolationStop (t : Nat) (s : State) : Outcome State Fault Refusal :=
  let s := s.at_ t
  .next (if s.pos.tK + 2 * s.pos.dt ≤ s.ring then { s with pos := { s.pos with stopped := true } } else s)

/-- CHANNEL_FAULT (R246, R253, R255): reason 0 SIGNAL, 1 OVERRATE or 2 AMPLITUDE is found on a channel. -/
def execChannelFault (t ch reason : Nat) (s : State) : Outcome State Fault Refusal :=
  let s := s.at_ t
  if 2 ≤ ch ∨ 3 ≤ reason ∨ (reason = 2 ∧ s.par (Par.at_ Par.posUMode ch) ≠ 2) then .next s else .next (s.faultOn ch reason)

/-- CHANNEL_RECOVER (R246, R254): no reason has held for POS.RECOVER_TIME; CROSSCHECK ends only under R255. -/
def execChannelRecover (t ch : Nat) (s : State) : Outcome State Fault Refusal :=
  let s := s.at_ t
  let x := s.chan ch
  if 2 ≤ ch ∨ !x.inFault ∨ s.now < x.faultAt + 1000000 * s.par Par.posRecoverTime then .next s
  else
    let b := s.faultBits ch
    let s := s.setPar (Par.at_ Par.posUFault ch) (b / 8 % 2 * 8)
    if bitAt b 3 then .next s
    else .next (((s.modChan ch (fun (x : Chan) => { x with inFault := false })).endCond Ev.encoderFault ch).raise Ev.encoderRecovered ch [])

/-- SPEED_WINDOW (R256): POS[c].SPEED, POS[c].AMPLITUDE and POS.LINE_RATE of the window that ends. -/
def execSpeedWindow (t : Nat) (s : State) : Outcome State Fault Refusal :=
  let s := s.at_ t
  let w := s.par Par.posSpeedWindow
  if s.now < s.pos.speedAt + 1000 * w then .next s
  else
    let a := s.chan s.pos.active
    let s := s.setPar Par.posLineRate (twos 32 (Int.tdiv ((a.count - a.winCount) * 65536000000) ((s.cpl s.pos.active * w : Nat) : Int)))
    let s := s.each [0, 1] (fun c s =>
      let x := s.chan c
      let s := s.setPar (Par.at_ Par.posUSpeed c) (twos 32 (x.count - x.winCount))
      let s := s.when (x.ratioN != 0) (State.setPar (Par.at_ Par.posUAmplitude c) (min 2047 (x.ratioSum / x.ratioN)))
      s.modChan c (fun (x : Chan) => { x with winCount := x.count, ratioSum := 0, ratioN := 0 }))
    .next { s with pos := { s.pos with speedAt := s.now } }

/-! ## Index -/

/-- The whole number nearest to a quotient. -/
def nearest (a : Int) (b : Nat) : Int := (2 * a + b) / (2 * b : Nat)

/-- EV058 with a deviation, remembered for a resnap where the channel makes one (R257, R258). -/
def State.indexDeviation (ch : Nat) (d : Int) (s : State) : State :=
  s.raise Ev.indexDeviation ch (leBytes 4 (twos 32 d))

/-- INDEX_PULSE (R243, R257): a pulse of Z, and how many ns its level has held; in the digital modes it counts from POS[c].FILTER on. -/
def execIndexPulse (t : Nat) (z : IndexLevel) (s : State) : Outcome State Fault Refusal :=
  let s := s.at_ t
  let ch := z.ch
  let short := s.par (Par.at_ Par.posUMode ch) < 2 && z.held < s.par (Par.at_ Par.posUFilter ch)
  let period := s.par (Par.at_ Par.posUIndexPeriod ch)
  let x := s.chan ch
  if 2 ≤ ch ∨ period = 0 ∨ short then .next s
  else
    match x.idxRef with
    | none => .next (s.modChan ch (fun (x : Chan) => { x with idxRef := some x.count, idxLast := x.count }))
    | some r =>
      let d := x.count - r - nearest (x.count - r) period * period
      let small := d.natAbs ≤ s.par (Par.at_ Par.posUIndexTol ch)
      let s := s.setPar (Par.at_ Par.posUIndexDev ch) (twos 32 d)
      let s := s.modChan ch (fun (x : Chan) => { x with
        idxLast := x.count - d
        idxDev := if !small && s.par (Par.at_ Par.posUIndexResnap ch) == 1 then some d else x.idxDev })
      .next (if small then s.bump (Par.at_ Par.posUIndexSmall ch) 1 else s.indexDeviation ch d)

/-- INDEX_MISSING (R257): the web has travelled INDEX_PERIOD + INDEX_TOL counts past the latest index without a pulse. -/
def execIndexMissing (t ch : Nat) (s : State) : Outcome State Fault Refusal :=
  let s := s.at_ t
  let period := s.par (Par.at_ Par.posUIndexPeriod ch)
  let x := s.chan ch
  let d := x.count - x.idxLast
  if 2 ≤ ch ∨ period = 0 ∨ x.idxRef.isNone ∨ d.natAbs ≤ period + s.par (Par.at_ Par.posUIndexTol ch) then .next s
  else
    let s := s.modChan ch (fun (x : Chan) => { x with idxLast := x.idxLast + (if d < 0 then -(period : Int) else period) })
    .next ((s.setPar (Par.at_ Par.posUIndexDev ch) 0x80000000).raise Ev.indexDeviation ch (leBytes 4 0x80000000))

/-- From P to an accepted segment's horizon entry, in 1/65,536 line; `none` for a print-go segment not yet bound (R38). -/
def State.horizonAhead (s : State) (g : Seg) : Option Int :=
  if g.bound then some ((g.p0 - g.lead) * 65536 - s.pos.p) else none

/-- RESNAP (R258): at a segment gap the base of the active channel moves by the deviation. -/
def execResnap (t : Nat) (s : State) : Outcome State Fault Refusal :=
  let s := s.at_ t
  let c := s.pos.active
  match (s.chan c).idxDev with
  | none => .next s
  | some d =>
    let near : Int := d.natAbs * 65536 * 65536 + 65536 * s.cpl c
    let gap := s.runningState.isNone && !s.acceptedSet.any (fun g => match s.horizonAhead g with
      | some a => decide (a * (s.cpl c : Nat) ≤ near)
      | none => false)
    if !gap || s.par (Par.at_ Par.posUIndexResnap c) != 1 then .next s
    else
      let shift := s.countPos c d
      let s := s.modChan c (fun (x : Chan) => { x with basePos := x.basePos - shift, idxDev := none })
      let p := s.pos.p - shift
      let s := { s with pos := { s.pos with p := p, xStart := none } }
      let s := if 0 < shift then { s with pos := { s.pos with quiet := true } }
        else if s.pos.hw < linesOf p then { s with
          pos := { s.pos with hw := linesOf p, hwP := p }
          fire := { s.fire with heads := s.fire.heads.map (fun (f : FireHead) => { f with last := max f.last (linesOf p) }) } }
        else s
      .next (((s.realign (1 - c)).bump Par.posResnaps 1).record 1 9 0 (BitVec.ofNat 8 c :: leBytes 4 (twos 32 d)))

/-! ## Print-go -/

/-- A print-go input. -/
def State.pgo (s : State) (n : Nat) : PgoIn := nth s.pos.pgos ⟨none, none⟩ n

/-- Changes one print-go input. -/
def State.modPgo (n : Nat) (f : PgoIn → PgoIn) (s : State) : State := { s with pos := { s.pos with pgos := modNth f n s.pos.pgos } }

/-- PGO_EDGE_LATCH (R259): the edge that POS.PGOn_EDGE selects latches P and the ring time. -/
def execPgoEdgeLatch (t input : Nat) (rising : Bool) (s : State) : Outcome State Fault Refusal :=
  let s := s.at_ t
  if 4 ≤ input ∨ rising ≠ (s.par (Par.posPgo0Edge + 4 * input) == 0) ∨ (s.pgo input).latch.isSome then .next s
  else .next (s.modPgo input (fun x => { x with latch := some ⟨s.pos.p, s.ring, s.par (Par.posPgo0Debounce + 4 * input),
    s.par (Par.posPgo0Lockout + 4 * input)⟩ }))

/-- PGO_PULSE_DISCARD (R259): the level did not hold for the debounce time. -/
def execPgoPulseDiscard (t input : Nat) (s : State) : Outcome State Fault Refusal :=
  let s := s.at_ t
  match (s.pgo input).latch with
  | none => .next s
  | some l =>
    if l.t + 1000 * l.debounce ≤ s.ring then .next s
    else .next ((s.modPgo input (fun x => { x with latch := none })).bump Par.posPgoFiltered 1)

/-- The oldest segment of an input's queue that is not yet bound (R162). -/
def State.pgoNext (s : State) (n : Nat) : Option Seg :=
  (sortBy Seg.order (s.spool.segs.filter (fun g => g.state == Sg.accepted && g.printGo && g.pgo == n && !g.bound))).head?

/-- Whether an edge may bind a segment (R162, R260). -/
def State.mayBind (g : Seg) (edge : Int) (s : State) : Bool :=
  let p0 := linesOf edge + g.first
  s.pos.lost.isNone && decide (s.pos.hw < p0 - g.lead)
    && !s.spool.segs.any (fun x => x.live && x.printGo && x.pgo == g.pgo && x.bound && (x.heads &&& g.heads) != 0 && decide (p0 ≤ x.lastPos))

/-- A confirmed edge binds the oldest segment or goes unserved (R42, R162, R260, R261). -/
def State.bindEdge (n : Nat) (edge : Int) (s : State) : State :=
  match s.pgoNext n with
  | none => s.unservedEdge n edge
  | some g =>
    if s.mayBind g edge then
      let s := s.modSeg g.handle (fun g => { g with bound := true, edge := some edge, p0 := linesOf edge + g.first })
      s.refCand (s.pgoOut n) edge (some g.handle) false false
    else s.unservedEdge n edge

/-- PGO_EDGE_CONFIRM (R162, R259, R260): the level has held for the debounce time. -/
def execPgoEdgeConfirm (t input : Nat) (s : State) : Outcome State Fault Refusal :=
  let s := s.at_ t
  match (s.pgo input).latch with
  | none => .next s
  | some l =>
    if s.ring < l.t + 1000 * l.debounce then .next s
    else
      let early := match (s.pgo input).last with
        | some p => decide (l.pos - p < 65536 * (l.lockout : Int))
        | none => false
      let s := s.modPgo input (fun _ => ⟨none, some l.pos⟩)
      if early then .next (s.bump Par.posPgoFiltered 1)
      else .next ((s.bump Par.posPgoEdges 1).bindEdge input l.pos)

/-! ## Rejects -/

/-- A camera line of an analysed view sees a position of a product and has not yet had its defect analysis (R352). -/
def State.uninspected (s : State) (g : Seg) : Bool :=
  s.insp.viewed.any (fun v => !v.done && s.par (Par.inspView0Planes + 16 * v.view) != 0 && decide (g.p0 ≤ v.y) && decide (v.y ≤ g.lastPos))

/-- Whether a candidate is a reject when it falls due (R262, R352). -/
def State.isReject (s : State) (c : Cand) : Bool :=
  let g := match c.handle with
    | some h => (s.seg h).orElse (fun _ => (s.spool.records.reverse.find? (fun (r : Record) => r.seg.handle == h)).map Record.seg)
    | none => none
  c.insp || (c.unserved && s.par Par.posRejUnserved == 1)
    || g.elim false (fun g => g.isBroken || (g.isFlagged && s.par Par.posRejFlagged == 1)
      || (s.par Par.inspRejUninspected == 1 && s.uninspected g))

/-- REJECT_DUE (R261-R263): the oldest candidate falls due. Where one came to a full queue the output asserts whatever the candidate, without
an end until the queue has room again. -/
def execRejectDue (t output : Nat) (s : State) : Outcome State Fault Refusal :=
  let s := s.at_ t
  let o := s.rej output
  match o.queue with
  | [] => .next s
  | c :: rest =>
    if 2 ≤ output ∨ s.pos.hw * 65536 < c.due then .next s
    else
      let still := o.full && decide (1024 ≤ rest.length)
      let s := s.modRej output (fun o => { o with queue := rest, full := still, cont := still })
      if o.full || s.isReject c then .next (s.assertRej output c.width)
      else
        match c.handle with
        | some h => .next (s.modRej output (fun o => { o with dropped := (h, c.width) :: o.dropped }))
        | none => .next s

/-- REJECT_PULSE_END (R263): the last of the merged pulses ends. -/
def execRejectPulseEnd (t output : Nat) (s : State) : Outcome State Fault Refusal :=
  let s := s.at_ t
  match (s.rej output).assertedTo with
  | none => .next s
  | some e =>
    if s.now < e ∨ 2 ≤ output ∨ (s.rej output).sag ∨ (s.rej output).cont then .next s
    else .next ((s.modRej output (fun o => { o with assertedTo := none })).driveRej output false)

/-! ## Commands -/

/-- POS_STATUS. -/
def effPosStatus : Effect := fun c s =>
  needLen c 0 s <|
  okay 0 (leBytes 8 (twos 64 s.pos.p) ++ leBytes 8 (twos 64 s.pos.hw) ++ leBytes 4 (s.par Par.posLineRate)
    ++ leBytes 1 (s.pos.active + bit s.pos.lost.isSome 1 + bit s.pos.hold 2) ++ leBytes 1 (s.faultBits 0) ++ leBytes 1 (s.faultBits 1) ++ [0]
    ++ leBytes 8 s.pos.tK) s

/-- POS_CHANNEL_SELECT (R254, R255): the switch takes place at the next count of the channel. -/
def effPosChannelSelect : Effect := fun c s =>
  needLen c 4 s <| needZero c 1 3 s <|
  let ch := leAt c.body 0 1
  if !s.usedChans.contains ch then refuse St.valueRange 8 s
  else needChange c .oper s <| needOwner c s <|
  if s.faultBits ch &&& 7 ≠ 0 then refuse St.unitFault (0x0900 + ch) s
  else okay 0 [] { s with pos := { s.pos with select := some ch } }

/-- POS_REJECT_TEST (R264): one assertion at the next microsecond, not counted. -/
def effPosRejectTest : Effect := fun c s =>
  needLen c 8 s <|
  let o := leAt c.body 0 1
  let w := leAt c.body 4 4
  if 2 ≤ o then refuse St.valueRange 8 s
  else if w < 10 ∨ 1000000 < w then refuse St.valueRange 12 s
  else needZero c 1 3 s <| needChange c .oper s <| needOwner c s <|
  match s.runningState with
  | some st => refuse St.segmentState st s
  | none =>
    let start := s.now + (1000 - s.ring % 1000)
    let stop := start + 1000 * w
    match (s.rej o).assertedTo with
    | some e => okay 0 [] (s.modRej o (fun r => { r with assertedTo := some (max e stop) }))
    | none => okay 0 [] ((s.modRej o (fun r => { r with from_ := start, assertedTo := some stop })).driveRejAt o true (some start))

def execPosStatus (t : Nat) (h : Hdr) (b : List Byte) (s : State) : Outcome State Fault Refusal :=
  .next (hostRow (.posStatus t h b) 0x0901 t h b effPosStatus s)

def execPosChannelSelect (t : Nat) (h : Hdr) (b : List Byte) (s : State) : Outcome State Fault Refusal :=
  .next (hostRow (.posChannelSelect t h b) 0x0902 t h b effPosChannelSelect s)

def execPosRejectTest (t : Nat) (h : Hdr) (b : List Byte) (s : State) : Outcome State Fault Refusal :=
  .next (hostRow (.posRejectTest t h b) 0x0903 t h b effPosRejectTest s)

end Sys2Proof.Machine
end

