-- ==== Sys2Proof/Machine/Stage.lean ====
section
/-! DEFINITION. What HEAD shows of a head (*Firing and head parameters*) and the stages of its temperature (R276, R277). -/
namespace Sys2Proof.Machine
open Host

/-- HEAD[h].STATE. -/
def State.headState (s : State) (h : Nat) : Nat := s.par (Par.at_ Par.headUState h)

/-- HEAD[h].STATE of a head at a temperature stage. -/
def Head.stateOf (x : Head) (stage : Nat) : Nat :=
  if x.phase = 0 then 0 else if x.phase = 1 then 1
  else if !x.auth || x.nocap then 2
  else if x.fault || x.powerFail || x.readback || x.out then 7
  else if !x.hpen then 3
  else if !x.good then 4
  else if stage = 2 then 6 else 5

/-- Shows a head's state and power; EV040 ends once its state leaves FAULT and REFUSED, and a cause that withheld its power
once it is READY. -/
def State.publish (h : Nat) (s : State) : State :=
  let x := s.head h
  let st := x.stateOf (s.par (Par.at_ Par.headUTempStage h))
  let s := (s.setPar (Par.at_ Par.headUState h) st).setPar (Par.at_ Par.headUPower h) (if !x.hpen then 0 else if x.good then 2 else 1)
  let s := if st = 2 ∨ st = 7 then s else s.endCond Ev.headFault h
  s.when (st == 5 || st == 6) (State.modHead h (fun x => { x with withheld := none }))

/-- Limit and warning of a head in 1/16 °C (R276): TMAX is signed, the parameters are not. -/
def State.tempLimit (s : State) (h : Nat) : Int :=
  min (s.par (Par.at_ Par.headUTempLimit h) : Int) (signed 16 (leAt (s.head h).mem 20 2))
def State.tempWarn (s : State) (h : Nat) : Int := min (s.par (Par.at_ Par.headUTempWarn h) : Int) (s.tempLimit h - 16)

/-- The stage that a reading makes of a stage (R276, R277). -/
def State.stageAfter (s : State) (h old : Nat) (r : Int) : Nat :=
  if s.tempLimit h ≤ r then 2 else if r ≤ s.tempWarn h - 80 then 0
  else if old = 0 ∧ s.tempWarn h ≤ r then 1 else old

/-- A reading is compared as it arrives (R276): the stage that it leads to waits for the head's next line boundary. -/
def State.judgeTemp (h reading : Nat) (s : State) : State :=
  let now := s.par (Par.at_ Par.headUTempStage h)
  let old := ((s.head h).stageNext.map Prod.fst).getD now
  let new := s.stageAfter h old (signed 16 reading)
  if new = old then s
  else s.modHead h (fun x => { x with stageNext := if new = now then none else some (new, reading) })

/-- A line boundary of a head takes the stage that waits (R276, R277): EV041 with the stage and the reading, which ends at stage 0. -/
def State.takeStage (h : Nat) (s : State) : State :=
  match (s.head h).stageNext with
  | none => s
  | some (stage, reading) =>
    let s := s.modHead h (fun x => { x with stageNext := none })
    let s := (s.setPar (Par.at_ Par.headUTempStage h) stage).raise Ev.headTemperature h (leBytes 1 stage ++ leBytes 2 reading)
    (s.when (stage == 0) (State.endCond Ev.headTemperature h)).publish h

end Sys2Proof.Machine
end

