-- ==== Sys2Proof/Machine/Fire.lean ====
section
/-! DEFINITION. The firing engine (11_firing_and_heads.md, R37-R47): horizon entry, line boundaries and head-lines, the
causes that break a line, and acknowledgements. -/
namespace Sys2Proof.Machine
open Host

/-! ## Causes (R43) -/

/-- Gates that hold a head (R278). -/
def State.gated (s : State) (h : Nat) : Bool := s.fire.gates.any (fun g => g.active && bitAt g.heads h)

/-- The causes in force on a head, in ascending order, but for 0x06, 0x09 and 0x0B, which depend on the line. Power that
the device withholds carries the cause for which it does (R280, R442, R491). -/
def State.causesAt (s : State) (h : Nat) : List Nat :=
  let st := s.headState h
  let w := (s.head h).withheld
  (if s.fire.sag || w == some 1 then [1] else []) ++ (if s.fire.outside then [2] else [])
    ++ (if s.gated h || w == some 3 then [3] else [])
    ++ (if s.par (Par.at_ Par.headUTempStage h) = 2 then [4] else [])
    ++ (if st ≤ 2 ∨ st = 7 ∨ ((st = 3 ∨ st = 4) ∧ w.isNone) then [5] else [])
    ++ (if (s.fireHead h).lanes = 0 then [7] else [])
    ++ s.pos.lost.toList
    ++ (if s.fire.reset || s.par Par.testTestEn == 1 || s.par Par.testPinDriven == 1 || w == some 0xC then [0xC] else [])

/-- LANE[2h].PAYLOAD_RATE and HEAD[h].MAX_LINE_RATE. -/
def State.payload (s : State) (h : Nat) : Nat := s.par (Par.at_ Par.laneUPayloadRate (2 * h))
def State.maxLineRate (s : State) (h : Nat) : Nat := s.par (Par.at_ Par.headUMaxLineRate h)

/-- T3 of a head (R311). -/
def State.t3 (s : State) (h : Nat) : Nat :=
  min (s.maxLineRate h) (1000 * (s.payload h * 1000000 / (3000 * max 1 (s.slots h))))

/-- One lane carries a head, and a line rate is above T3 (R311, R312). -/
def State.above (s : State) (h rate : Nat) : Bool :=
  ((s.fireHead h).lanes == 1 || (s.fireHead h).lanes == 2) && decide (s.t3 h < rate)

/-! ## Marking lines (R44, R184) -/

/-- Lines of segments on one head: each a segment's handle and a line of it. -/
abbrev Lines := List (Nat × Nat)

/-- Records lines of a head. -/
def State.mark (h : Nat) (ls : Lines) (cause kind column : Nat) (s : State) : State :=
  s.each ls (fun l s => s.modSeg l.1 (fun g => { g with ranges := addRange h l.2 cause kind column g.ranges }))

/-- A cause affects a head (R44): it is in force on it, or, for those that depend on the line, the head's lines are above T3 at depth 3,
its line rate is above the declared one, or lines of the segment read badly on it. -/
def State.affects (s : State) (g : Seg) (c h : Nat) : Bool :=
  (s.causesAt h).contains c || (c == 6 && g.depth == 3 && s.above h g.rate) || (c == 9 && (s.fireHead h).excursion)
    || (c == 0xB && g.bad.any (fun b => b.1 == h))

/-- The heads of a segment that a cause affects, `h` among them. -/
def State.causeHeads (s : State) (g : Seg) (h c : Nat) : Nat :=
  ((g.headList.filter (fun u => s.affects g c u || u == h)).map (fun u => 2 ^ u)).sum

/-- The events that mark the beginning of a cause (*Causes of a broken promise*), and whether their unit is the head. -/
def causeEvents (c : Nat) : List Nat × Bool :=
  nth [([], false), ([Ev.supplySag], false), ([Ev.paceBelowFloor, Ev.tjHigh, Ev.pmbusFault], false), ([Ev.gateActive], false), ([Ev.headTemperature], true),
    ([Ev.headFault, Ev.headLost], true), ([Ev.laneDepthDegraded], true), ([Ev.portLanesLost], true), ([Ev.encoderLostBoth], false),
    ([Ev.overspeed], true), ([Ev.ringTimeLost], false), ([Ev.spoolUncorrectable], false), ([Ev.externalReset, Ev.testEnActive], false)] ([], false) c

/-- When a cause began on a head: the latest entry of its events in the log (DEDUCED, log entry 155); none where the log holds none. -/
def State.causeBegan (s : State) (h c : Nat) : Option Nat :=
  (s.evt.log.reverse.find? (fun e => !e.record && (causeEvents c).1.contains e.code && (!(causeEvents c).2 || e.unit == h))).map LogEntry.t

/-- EV020 of one segment for causes and the first line of each (R44, R46): of causes that began in one instant the lowest code is
named, and every one is then known. -/
def State.breakSeg (handle h : Nat) (cs : List (Nat × Nat)) (column : Nat) (s : State) : State :=
  match s.seg handle with
  | none => s
  | some g =>
    let new := sortBy Prod.fst (cs.filter (fun c => !g.causes.contains c.1))
    let named := new.filter (fun c => (s.causeBegan h c.1).isNone
      || !new.any (fun d => decide (d.1 < c.1) && s.causeBegan h d.1 == s.causeBegan h c.1))
    let s := s.each named (fun c s => s.breakPromise handle c.1 (s.causeHeads g h c.1) c.2 (if c.1 = 3 then column else 0))
    s.modSeg handle (fun g => { g with causes := (new.map Prod.fst).filter (fun c => !g.causes.contains c) ++ g.causes })

/-- Causes of the head-lines of a segment that met a GATE and whose report has not come (R279): EV020 waits for it. -/
def State.reportsDue (s : State) (h handle : Nat) : List Nat :=
  ((s.fireHead h).sent.filter (fun l => l.items.any (fun i => i.1 == handle))).filterMap (fun l => l.gated.map Prod.fst)

/-- EV020 for the segments of lines that causes break on a head (R44, R46). -/
def State.breakLines (h : Nat) (cs : List (Nat × Lines)) (column : Nat) (s : State) : State :=
  s.each ((cs.flatMap (fun c => c.2.map Prod.fst)).eraseDups) (fun g s =>
    s.breakSeg g h ((cs.filter (fun c => !(s.reportsDue h g).contains c.1)).filterMap (fun c => ((c.2.filter (fun l => l.1 == g)).map Prod.snd).min?.map (fun i => (c.1, i)))) column)

/-! ## Horizon entry -/

/-- A segment enters its horizon (R38): a cause in force breaks it from its first line (R47). -/
def State.enterHorizon (handle : Nat) (s : State) : State :=
  match s.seg handle with
  | none => s
  | some g =>
    let s := s.modSeg handle (fun g => { g with state := Sg.inHorizon, next := g.headList.map (fun h => (h, 0)) })
    s.each g.headList (fun h s =>
      let cs := s.causesAt h ++ (if g.depth = 3 ∧ s.above h g.rate then [6] else [])
      let s := s.modSeg handle (fun g => { g with ranges := g.ranges ++ (sortBy id cs).map (fun c => ⟨h, 0, 0, c, if c = 6 then 3 else 0, 0⟩) })
      s.breakSeg handle h (cs.map (fun c => (c, 0))) (s.colFirst h))

/-- HORIZON_ENTRY (R38, R47): the web reaches the first line less the lead. -/
def execHorizonEntry (t handle : Nat) (s : State) : Outcome State Fault Refusal :=
  let s := s.at_ t
  match s.seg handle with
  | none => .next s
  | some g =>
    if g.state == Sg.accepted && g.bound && decide (g.p0 - g.lead ≤ s.pos.hw) then .next (s.enterHorizon handle) else .next s

/-! ## Line boundaries (R249, R251, R265, R371) -/

/-- The start time of a base position by interpolation from the latest count, in ring time (R251). -/
def State.startTime (s : State) (x : Int) : Int :=
  if 0 < s.pos.dp then s.pos.tK + (x * 65536 - s.pos.p) * s.pos.dt / s.pos.dp else s.pos.tK

/-- P has reached a base position: by a count, or between counts by interpolation, which stops within one count and twice
the latest interval of the own encoders, and CAUSE.EXTRAP_MAX after a sample of the ring. -/
def State.reached (s : State) (x : Int) : Bool :=
  decide (x * 65536 ≤ s.pos.p) ||
    (!s.pos.stopped && !s.pos.hold && !s.pos.quiet && decide (0 < s.pos.dp) && decide (s.startTime x ≤ s.ring) &&
      (if s.ownPos then decide (x * 65536 < s.pos.p + s.pos.one) && decide (s.startTime x ≤ s.pos.tK + 2 * s.pos.dt)
        else decide (s.startTime x ≤ s.pos.tK + 1000 * s.par Par.causeExtrapMax)))

/-- FIRE[h].LINE_OFFSET. -/
def State.lineOffset (s : State) (h : Nat) : Nat := s.par (Par.at_ Par.fireULineOffset h)

/-- The segments that a head-line draws on: those with a line at p - 63 to p on the head (R265). -/
def State.drawn (s : State) (h : Nat) (p : Int) : List Seg :=
  s.spool.segs.filter (fun g => g.live && g.bound && bitAt g.heads h && decide (g.p0 ≤ p) && decide (p ≤ g.lastPos + 63))

/-- A base position between the head's latest boundary and another would have drawn on a segment. -/
def State.skipsDrawn (s : State) (h : Nat) (x : Int) : Bool :=
  let off : Int := s.lineOffset h
  s.spool.segs.any (fun g => g.live && g.bound && bitAt g.heads h
    && decide (max (g.p0 + off) ((s.fireHead h).last + 1) ≤ min (g.lastPos + 63 + off) (x - 1)))

/-- The line of a segment that stands for a boundary: the line at the reference row, and past the last line the last. -/
def Seg.lineAt (g : Seg) (p : Int) : Nat := min (p - g.p0).toNat (g.lines - 1)

/-- Lines of a segment whose boundary has passed on a head (R228). -/
def Seg.passed (g : Seg) (h : Nat) : Nat := (lookup h g.next).getD 0

/-- A line read badly on a head (R206). -/
def Seg.badLine (g : Seg) (h i : Nat) : Bool := g.bad.any (fun b => b.1 == h && b.2.1 ≤ i && i < b.2.1 + b.2.2)

/-- Lanes whose hold has ended come back at a line boundary (R313): EV047 once two lanes carry the head, which ends EV048. -/
def State.takeBack (h : Nat) (s : State) : State :=
  let f := s.fireHead h
  if f.back = 0 then s
  else
    let s := s.modFire h (fun f => { f with lanes := f.lanes ||| f.back, lost := f.lost - (f.lost &&& f.back), back := 0, degraded := false })
    (s.raise Ev.laneRestored h []).endCond Ev.laneDepthDegraded h

/-- Whether a sent head-line that carries a segment still waits for its acknowledgement. -/
def State.awaited (s : State) (handle : Nat) : Bool :=
  s.fire.heads.any (fun f => f.sent.any (fun l => l.items.any (fun i => i.1 == handle)))

/-- A segment finishes once every line has passed on every head and no head-line of it is awaited (R186, R187, R228). -/
def State.tryFinish (handle : Nat) (s : State) : State :=
  match s.seg handle with
  | none => s
  | some g =>
    if g.state == Sg.printing && g.headList.all (fun h => g.lines ≤ g.passed h) && !s.awaited handle then s.finishSeg g else s

/-- Whether a firing message of a line on a head, at its reference row or a later one, still waits for its acknowledgement (R186). -/
def State.awaitedLine (s : State) (handle h i : Nat) : Bool :=
  (s.fireHead h).sent.any (fun l => l.items.any (fun e => e.1 == handle && i ≤ e.2.1 && e.2.1 ≤ i + s.omax h))

/-- The pods of strips that have printed return to the free list (R171), but those of a segment kept for repeats. -/
def State.releaseStrips (handle h : Nat) (s : State) : State :=
  match s.seg handle with
  | none => s
  | some g =>
    if g.keep then s
    else
      let gone := g.strips.filter (fun t => t.head == h && !t.released && min g.lines (4096 * (t.k + 1)) ≤ g.passed h)
      s.each gone (fun t s => (s.freePods t.pods).modSeg handle (Seg.modStrip t.head t.k (fun t => { t with released := true })))

/-- Lines pass on a head (R228). -/
def State.progress (h : Nat) (p : Int) (segs : List Seg) (s : State) : State :=
  let om : Int := s.omax h
  s.each segs (fun g s =>
    let n := min g.lines (p - om - g.p0 + 1).toNat
    let s := s.modSeg g.handle (fun g => { g with next := g.next.map (fun e => if e.1 = h then (h, max e.2 n) else e) })
    (s.releaseStrips g.handle h).tryFinish g.handle)

/-- The excursion of R266: EV055 at its first deferred or skipped line; it ends after 1,024 lines without deferral. -/
def State.excursion (h : Nat) (hit : Bool) (s : State) : State :=
  let f := s.fireHead h
  if hit then
    let s := s.modFire h (fun f => { f with excursion := true, clean := 0 })
    if f.excursion then s else s.raise Ev.overspeed h []
  else
    let s := s.modFire h (fun f => { f with excursion := f.excursion && f.clean + 1 < 1024, clean := f.clean + 1 })
    if f.excursion && 1024 ≤ f.clean + 1 then s.endCond Ev.overspeed h else s

/-! ## A head-line (R268, R270, R276, R286) -/

/-- Lane mode and backup depth of a head-line with two lanes: mirror (1) where the codes fit one lane, else covered (2)
with B = F - 1 where they fit, and else with B = 1 (R268). -/
def State.laneMode (s : State) (h f rate : Nat) : Nat × Nat :=
  let room := s.payload h * 1000000
  if s.slots h * f * rate ≤ room then (1, 0)
  else if 1 < f ∧ s.slots h * (2 * f - 1) * rate ≤ 2 * room then (2, f - 1) else (2, 1)

/-- Phase `j` of S slots: its slots ascending. -/
def phaseSlots (n j : Nat) : List Nat :=
  (List.range ((j + 1) * n / 64 - j * n / 64)).map (· + j * n / 64)

/-- Values of given widths packed from bit 0 upward, padded to 4 bytes. -/
def packBits (xs : List (Nat × Nat)) : List Byte :=
  let n := (xs.map Prod.fst).sum
  leBytes (up4 (ceilDiv n 8)) (xs.foldr (fun x acc => x.2 % 2 ^ x.1 + 2 ^ x.1 * acc) 0)

/-- The codes of a LINE message on the lane of primary parity `par`; `both` where every phase is primary. -/
def State.lineCodes (s : State) (h : Nat) (p : Int) (f b par cap : Nat) (both : Bool) : List Byte :=
  packBits ((List.range 64).flatMap (fun j =>
    let w := if both || j % 2 == par then f else b
    if w = 0 then [] else (phaseSlots (s.slots h) j).map (fun x => (w, min cap (s.code h p w x)))))

/-- PERIOD of a head-line from the latest counts, at most 16,777,215 ns. -/
def State.periodNs (s : State) : Nat :=
  if 0 < s.pos.dp then min 16777215 (s.pos.dt * 65536 / s.pos.dp.toNat) else 16777215

/-- The lanes of a port that carry its lines, as LANE units. -/
def FireHead.units (f : FireHead) (h : Nat) : List Nat := (maskUnits 2 f.lanes).map (· + 2 * h)

/-- LANE that the peer named on a lane (R307). -/
def State.peerLane (s : State) (u : Nat) : Nat := ((s.lanes[u]?).bind Lane.peerLane).getD (u % 2)

/-- The depth-3 lines of the head-line in progress at a lane loss, which counts as the first at 2 bits (R272, R312). -/
def State.lossLines (s : State) (h : Nat) : Lines :=
  match (s.fireHead h).lossAt with
  | none => []
  | some d =>
    match (s.fireHead h).recent.reverse.find? (fun l => l.fireAt ≤ d + s.par Par.fireFireDelay && d < l.fireAt + l.period) with
    | some l => (l.items.filter (fun i => i.2.2 == 3)).map (fun i => (i.1, i.2.1))
    | none => []

/-- EV048 once for a lane loss (R312). -/
def State.degrade (h : Nat) (s : State) : State :=
  let f := s.fireHead h
  if f.degraded then s
  else (s.modFire h (fun f => { f with degraded := true })).raise Ev.laneDepthDegraded h [BitVec.ofNat 8 (if f.lanes = 1 then 2 * h + 1 else 2 * h)]

/-- Packs and sends a head-line that starts at `start` (R268, R270, R276, R311). -/
def State.sendLine (h : Nat) (p : Int) (segs : List Seg) (ls : Lines) (start : Nat) (s : State) : State :=
  let rate := (segs.map Seg.rate).foldl max 0
  let depth := (segs.map Seg.depth).foldl max 0
  let fire := s.fireHead h
  let single := fire.lanes == 1 || fire.lanes == 2
  let hd := if s.above h rate then 2 else 3
  let f := min depth hd
  let s := s.when (hd == 2) (State.degrade h)
  let warm := s.par (Par.at_ Par.headUTempStage h) == 1
  let s := s.when warm (fun s => (s.bump (Par.at_ Par.headUWarnLines h) 1).mark h ls 0x80 2 0)
  let cap := if !warm || f == 1 then 7 else if f = 2 then 2 else s.par (Par.at_ Par.headUWarnCap h)
  let (mode, b) := if single then (3, 0) else s.laneMode h f rate
  let preheat := if warm then 0 else s.par (Par.at_ Par.headUPreheat h)
  let fireAt := start + s.par Par.fireFireDelay
  let line : HeadLine := ⟨fire.lseq, ls.map (fun l => (l.1, l.2, ((segs.find? (fun g => g.handle == l.1)).map Seg.depth).getD 0)), fireAt,
    s.periodNs, 0, none, false⟩
  let s := s.each (fire.units h) (fun u s =>
    let vals := [fire.lseq, f, b, s.peerLane u, preheat, s.periodNs, s.slots h]
    let codes := s.lineCodes h p f b (s.peerLane u) cap (mode != 2)
    (s.emit (.theal u 1 vals codes)).frameOut u (headMessage 1 vals codes))
  let s := s.copyLine h p f cap
  let s := s.modFire h (fun x => { x with
    lastStart := some start, lseq := (x.lseq + 1) % 65536, sent := x.sent ++ [line], recent := (x.recent ++ [line]).drop (x.recent.length - 63) })
  (s.setPar (Par.at_ Par.headUDepth h) hd).setPar (Par.at_ Par.headULaneMode h) mode

/-- Counts a head-line in FIRE[h].LINES_BROKEN and LINES_FLAGGED by what its boundary recorded. -/
def State.countLine (h : Nat) (broken flagged : Bool) (s : State) : State :=
  (s.when broken (State.bump (Par.at_ Par.fireULinesBroken h) 1)).when flagged (State.bump (Par.at_ Par.fireULinesFlagged h) 1)

/-- The earliest permitted start of the next head-line of a head (R266). -/
def State.earliest (s : State) (h : Nat) (segs : List Seg) : Nat :=
  max s.now (((s.fireHead h).lastStart).elim 0 (· + ceilDiv 1000000000 (max 1 ((segs.map Seg.rate).foldl max 0))))

/-- Line p does not fire (R266): its earliest permitted start is at or after the time that R251 gives for the next position. -/
def State.skips (s : State) (h : Nat) (x : Int) (segs : List Seg) : Bool :=
  decide (s.now < s.earliest h segs) && decide (0 < s.pos.dp) && decide (s.startTime (x + 1) ≤ (s.earliest h segs : Int) + s.offset)

/-- What breaks the lines of a head-line: cause, kind and lines (R43, R184). A head that a cause holds fires nothing; outside the
operating conditions, and on one lane above T3, it fires (R19, R312). -/
def State.broken (s : State) (h : Nat) (x : Int) (segs : List Seg) (ls : Lines) : List (Nat × Nat × Lines) :=
  let cs := s.causesAt h
  let bad := (0xB, 0, ls.filter (fun l => segs.any (fun g => g.handle == l.1 && g.badLine h l.2)))
  let deep := ls.filter (fun l => segs.any (fun g => g.handle == l.1 && g.depth == 3))
  cs.map (fun c => (c, 0, ls)) ++
    (if cs.any (· != 2) then [bad]
    else if s.skips h x segs then [(9, 0, ls), bad]
    else (if s.above h ((segs.map Seg.rate).foldl max 0) then [(6, 3, s.lossLines h ++ deep)] else []) ++ [bad])

/-- A head-line that may fire: at once, deferred to the earliest permitted start, or skipped (R266). A line that reads badly does not
fire; the slots of the head-line that fire another line do (R206, R227). -/
def State.fireLine (h : Nat) (p x : Int) (segs : List Seg) (ls : Lines) (broke : Bool) (s : State) : State :=
  let start := s.earliest h segs
  let late := decide (s.now < start)
  if s.skips h x segs then ((s.excursion h true).bump (Par.at_ Par.fireULinesSkipped h) 1).countLine h true false
  else
    let s := s.excursion h late
    let s := s.when late (fun s => (s.bump (Par.at_ Par.fireULinesDeferred h) 1).mark h ls 9 2 0)
    let warm := s.par (Par.at_ Par.headUTempStage h) == 1
    let s := (s.sendLine h p segs ls start).countLine h broke (late || warm)
    s.modFire h (fun f => { f with sent := f.sent.map (fun l =>
      if l.lseq = (f.lseq + 65535) % 65536 then { l with broke := broke } else l) })

/-- The line boundary of a head for its base position `x` (R229, R265): the mark follows, a temperature stage, lanes and places take
effect, and the head-line draws on its segments. -/
def State.lineBoundary (h : Nat) (p x : Int) (s : State) : State :=
  let begun := s.startTime x
  let s := s.modFire h (fun f => { f with last := x })
  let s := if s.pos.hw < x then { s with pos := { s.pos with hw := x, hwP := s.pos.p } } else s
  let s := ((((((s.takeStage h).takeTrim 5 (2 * h)).takeTrim 5 (2 * h + 1)).takeBack h).takePlaces h p)).lapseOffers h p
  let entering := (s.drawn h p).filter (fun g => g.state == Sg.accepted)
  let s := s.each entering (fun g s => s.enterHorizon g.handle)
  let segs := s.drawn h p
  let s := s.when (!segs.isEmpty && !s.ownPos && decide (begun < s.cause.posHeard)) (State.bump Par.causeLateLines 1)
  let s := s.each segs (fun g s =>
    s.when (g.state == Sg.inHorizon) (State.modSeg g.handle (fun g => { g with state := Sg.printing, tFirst := s.ring })))
  let ls : Lines := (segs.filter (fun g => g.passed h < g.lines)).map (fun g => (g.handle, g.lineAt p))
  let s := if segs.isEmpty then s
    else
      let cs := s.broken h x segs ls
      let hit := cs.any (fun c => !c.2.2.isEmpty)
      let s := s.each cs (fun c s => s.mark h c.2.2 c.1 c.2.1 0)
      let causes := s.causesAt h
      let s := if causes.all (· == 2) then s.fireLine h p x segs ls hit
        else
          let s := (s.countLine h true false).when (causes.contains 4) (State.bump (Par.at_ Par.headULimitLines h) 1)
          s.when (causes.contains 3) (State.bump (Par.at_ Par.fireUGateBreaks h) 1)
      s.breakLines h (cs.map (fun c => (c.1, c.2.2))) (s.colFirst h)
  let s := s.modFire h (fun f => { f with lossAt := none })
  s.progress h p segs

/-- LINE_BOUNDARY (R249, R265): P first reaches the base position of head line `p`. -/
def execLineBoundary (t head : Nat) (p : Int) (s : State) : Outcome State Fault Refusal :=
  let s := s.at_ t
  let x := p + s.lineOffset head
  if 16 ≤ head ∨ x ≤ (s.fireHead head).last ∨ !s.reached x ∨ s.skipsDrawn head x then .next s
  else .next (s.lineBoundary head p x)

/-! ## GO and acknowledgements -/

/-- GO_LATENCY of the head memory. -/
def State.goLatency (s : State) (h : Nat) : Nat := leAt (s.head h).mem 16 2

/-- The part of a launch time in ns that falls below the word boundary of a lane (R287); the spec does not place the boundaries in time
(log entry 156). -/
def State.goFine (s : State) (lane at_ : Nat) : Nat :=
  let w := s.wordPs lane
  ((1000 * at_ + w - Config.wordPhase lane (s.par (Par.at_ Par.laneUTrainings lane)) % w) % w) / 1000

/-- A GATE falls due with this instant for a head (R280): an activation that waits in the queue. -/
def State.gateDue (s : State) (h : Nat) : Bool :=
  s.pending.any (fun c => match c with
    | .gateActivate t n => decide (t ≤ s.now) && decide (n < 6) && bitAt (s.par (Par.posGate0Heads + 4 * n)) h
        && decide (1 ≤ s.par (Par.posGate0Role + 4 * n)) && decide (s.par (Par.posGate0Role + 4 * n) ≤ 5)
    | _ => false)

/-- The instant at which GO of a head-line leaves on a lane, and its FINE (R287). -/
def State.goTime (s : State) (lane : Nat) (l : HeadLine) : Nat × Nat :=
  let at_ := l.fireAt - s.par (Par.at_ Par.laneULatency lane) - s.goLatency (lane / 2)
  (at_ - s.goFine lane at_, s.goFine lane at_)

/-- GO_LAUNCH (R278, R280, R285, R287): the GO marker of a head-line leaves once on a lane, at its word boundary; none to a gated head, in
the lane word of a GATE, or to a head whose STATUS shows FAULT. -/
def execGoLaunch (t lane lseq : Nat) (_fine : Computed) (s : State) : Outcome State Fault Refusal :=
  let s := s.at_ t
  let h := lane / 2
  match (s.fireHead h).sent.find? (fun l => l.lseq == lseq) with
  | none => .next s
  | some l =>
    if 32 ≤ lane ∨ !s.laneIsUp lane ∨ s.gated h ∨ s.gateDue h ∨ s.power.sag ≠ 0 ∨ (s.head h).fault ∨ bitAt l.gone (lane % 2)
        ∨ s.holding (4 + lane / 4) ∨ s.now ≠ (s.goTime lane l).1 then .next s
    else
      let arg := lseq + 65536 * (s.goTime lane l).2
      let s := ((s.emit (.marker lane 0x4B arg)).lineOut lane (Tx.marker [(2, 0x4B), (2, arg)])).bump (Par.at_ Par.laneUGoTx lane) 1
      .next (s.modFire h (fun f => { f with sent := f.sent.map (fun l => if l.lseq = lseq then { l with gone := l.gone ||| 2 ^ (lane % 2) } else l) }))

/-- A head-line leaves the list of those awaited, and segments that waited for it may finish. -/
def State.dropLine (h : Nat) (l : HeadLine) (s : State) : State :=
  let s := s.modFire h (fun f => { f with sent := f.sent.filter (fun x => x.lseq != l.lseq) })
  s.each (l.items.map Prod.fst) State.tryFinish

/-- The lines of a head-line. -/
def HeadLine.lines (l : HeadLine) : Lines := l.items.map (fun i => (i.1, i.2.1))

/-- Records a sent head-line as broken by a cause (R279, R285): kind and column. -/
def State.markSent (h : Nat) (l : HeadLine) (cause kind column : Nat) (s : State) : State :=
  (s.mark h l.lines cause kind column).when (!l.broke) (State.bump (Par.at_ Par.fireULinesBroken h) 1)

/-- A sent head-line is broken by a cause, and the promise of its segments (R44, R285). -/
def State.breakSent (h : Nat) (l : HeadLine) (cause kind column : Nat) (s : State) : State :=
  (s.markSent h l cause kind column).breakLines h [(cause, l.lines)] column

/-- COLUMN of R279: COL_FIRST plus the lowest local column that has a slot in a phase of a mask. -/
def State.phaseColumn (s : State) (h mask : Nat) : Nat :=
  let cols := (maskUnits 64 mask).flatMap (fun j => (phaseSlots (s.slots h) j).filterMap (s.colOf h))
  s.colFirst h + match cols with
    | [] => 0
    | c :: r => r.foldl min c

/-- How long a message taken from one lane may be followed by its copy on the other: one STATUS interval (log entry 157). -/
abbrev copyNs : Nat := 50000

/-- A message of a head on one lane of its port (R28, R286): the first valid copy acts, and the copy that the other lane took before is
ignored; the other lane's copy of it is expected while that lane is UP. -/
def State.firstCopy (lane : Nat) (key : List Nat) (s : State) : Option State :=
  let h := lane / 2
  let b := lane % 2
  if 32 ≤ lane ∨ !s.laneIsUp lane ∨ s.holding (4 + lane / 4) then none
  else
    let ahead := (s.head h).ahead.filter (fun a => s.now < a.2.1 + copyNs)
    match ahead.find? (fun a => a.1 == b && a.2.2 == key) with
    | some _ => none
    | none => some (s.modHead h (fun x => { x with
        ahead := if s.laneIsUp (2 * h + (1 - b)) then ahead ++ [(1 - b, s.now, key)] else ahead }))

/-- A copy that was expected has come. -/
def State.copyTaken (lane : Nat) (key : List Nat) (s : State) : State :=
  if 32 ≤ lane ∨ !s.laneIsUp lane then s
  else s.modHead (lane / 2) (fun x => { x with ahead := x.ahead.eraseP (fun a => a.1 == lane % 2 && a.2.2 == key) })

/-- Runs what a head message does on its first valid copy (R286). -/
def State.onCopy (lane : Nat) (key : List Nat) (f : State → State) (s : State) : State :=
  match s.firstCopy lane key with
  | some s => f s
  | none => s.copyTaken lane key

/-- What a LINE_ACK does (R186, R285): the head-line is acknowledged; missing phases are recorded as kind 1 with cause 0x05. A line that
met a GATE and completed is acknowledged too, and one that did not waits for its report (R279). -/
def State.lineAck (head lseq flag mask : Nat) (s : State) : State :=
  match (s.fireHead head).sent.find? (fun l => l.lseq == lseq) with
  | none => s
  | some l =>
    let s := s.modFire head (fun f => { f with acked := lseq })
    let s := s.bump (Par.at_ Par.fireULinesFired head) 1
    let s := if flag % 2 = 1 ∧ l.gated.isNone then
        let s := s.bump (Par.at_ Par.fireUPhasesMissing head) (popcount 64 mask)
        let s := s.raiseLimited Ev.linePhaseMissing head head (leBytes 2 lseq)
        s.breakSent head l 5 1 (s.phaseColumn head mask)
      else s
    if flag % 2 = 1 ∧ l.gated.isSome then s else s.dropLine head l

/-- LINE_ACK (R186, R285, R286). -/
def execLineAck (t lane lseq flag mask : Nat) (s : State) : Outcome State Fault Refusal :=
  .next ((s.at_ t).onCopy lane [0x83, lseq, flag, mask] (State.lineAck (lane / 2) lseq flag mask))

/-- LINE_ACK_TIMEOUT (R285): 100 µs after the head's limit a line without acknowledgement counts as not printed. -/
def execLineAckTimeout (t head lseq : Nat) (s : State) : Outcome State Fault Refusal :=
  let s := s.at_ t
  match (s.fireHead head).sent.find? (fun l => l.lseq == lseq) with
  | none => .next s
  | some l =>
    if s.now < l.fireAt + l.period * 126 / 64 + 120000 ∨ l.gated.isSome then .next s
    else .next ((s.breakSent head l 5 0 0).dropLine head l)

/-- FIRE_STATUS (R110). -/
def effFireStatus : Effect := fun c s =>
  needLen c 0 s <|
  let full := match learnRight c.role .counters with
    | .none | .summary => false
    | _ => true
  okay 0 ((List.range 16).flatMap (fun h =>
    leBytes 8 (if full then s.par (Par.at_ Par.fireULinesFired h) else 0) ++ leBytes 2 (s.fireHead h).acked
      ++ leBytes 1 (s.headState h + 8 * s.par (Par.at_ Par.headUTempStage h) + bit (s.gated h) 5 + 64 * s.par (Par.at_ Par.headULaneMode h))
      ++ leBytes 1 (s.par (Par.at_ Par.headUDepth h)) ++ [0, 0, 0, 0])) s

def execFireStatus (t : Nat) (h : Hdr) (b : List Byte) (s : State) : Outcome State Fault Refusal :=
  .next (hostRow (.fireStatus t h b) 0x0A01 t h b effFireStatus s)

end Sys2Proof.Machine
end

