-- ==== Sys2Proof/Machine/Cam.lean ====
section
/-! DEFINITION. Cameras (13_camera_pipeline.md): triggers and stamps, lines and frames, parameter sets, the pipeline and
its statistics, links and control commands. -/
namespace Sys2Proof.Machine
open Host

/-- A camera port. -/
def State.cam (s : State) (c : Nat) : Cam :=
  nth s.cams ⟨0, 0, 0, 0, 0, none, false, [], ⟨0, []⟩, [], none, 0, (0, 0), none, none, [], [], [], none⟩ c

/-- Changes one port. -/
def State.modCam (c : Nat) (f : Cam → Cam) (s : State) : State := { s with cams := modNth f c s.cams }

/-- A CAM[c] parameter. -/
def State.camPar (s : State) (id c : Nat) : Nat := s.par (Par.at_ id c)

/-- The leader of a port's device (R318). -/
def State.camLeader (s : State) (c : Nat) : Nat :=
  ((List.range c).find? (fun l => decide (c < l + s.camPar Par.camUAggregate l))).getD c

/-- The port leads a device. -/
def State.camLeads (s : State) (c : Nat) : Bool := c < 4 && s.camLeader c == c

/-! ## Parameter sets (R327, R328) -/

/-- A parameter of a set, by its unit-0 ID. -/
def CamSet.par (v : CamSet) (id c : Nat) : Nat := mget resetVal v.vals (Par.at_ id c)

/-- The stored parameters of a device that belong to its set. -/
def State.camSetNow (s : State) (c : Nat) : List (Nat × Nat) :=
  s.params.filter (fun e => idSvc e.1 == 0x0D && idUnit e.1 == c && 0x30 ≤ idIdx e.1 && idIdx e.1 < 0x64)

/-- Lines of a frame on the trigger side: H. -/
def CamSet.height (v : CamSet) (c : Nat) : Nat := v.par Par.camUFrameLines c * (if v.par Par.camUExposureB c = 0 then 1 else 2)

/-- A commit writes the shadow copy (R327). -/
def State.camShadow (c seq : Nat) (s : State) : State :=
  s.modCam c (fun x => { x with shadow := some ⟨seq, s.camSetNow c⟩ })

/-- The set of a sequence number: the one in force or one that stamps still name. -/
def Cam.setOf (x : Cam) (seq : Nat) : CamSet := (x.old.find? (fun v => v.seq == seq)).getD x.cur

/-! ## Triggers (R320-R322) -/

/-- P has reached a position in 1/65,536 line, by a count or by the interpolation of R251. -/
def State.reachedAt (s : State) (q : Int) : Bool :=
  decide (q ≤ s.pos.p) ||
    (!s.pos.stopped && !s.pos.quiet && decide (0 < s.pos.dp) && decide (s.pos.tK + (q - s.pos.p) * s.pos.dt / s.pos.dp ≤ s.ring) &&
      (if s.ownPos then decide (q < s.pos.p + s.pos.one) && decide ((q - s.pos.p) * s.pos.dt / s.pos.dp ≤ 2 * s.pos.dt) else decide (s.pos.tK + (q - s.pos.p) * s.pos.dt / s.pos.dp ≤ s.pos.tK + 1000 * s.par Par.causeExtrapMax)))

/-- Position of one trigger pitch in 1/65,536 line. -/
def CamSet.step (v : CamSet) (c : Nat) : Nat := 1024 * v.par Par.camUTrigPitch c

/-- Positions that passed while firing was held or position lost are not triggered (R320). -/
def Cam.resume (c : Nat) (hw : Int) (x : Cam) : Cam :=
  if !x.stalled || hw * 65536 < x.next then { x with stalled := false }
  else
    let n := ((hw * 65536 - x.next) / (max 1 (x.cur.step c) : Nat) + 1).toNat
    { x with stalled := false, k := x.k + n, next := x.next + n * x.cur.step c }

/-- The next designated start at or after a trigger. -/
def nextStart (start h k : Nat) : Nat := if k ≤ start then start else start + ceilDiv (k - start) (max 1 h) * h

/-- Position that a camera line of a view sees (R335): its stamp to the nearest line, less VIEWd_DISTANCE. -/
def State.viewedAt (s : State) (d : Nat) (x : Int) : Int := (x + 32768) / 65536 - s.par (Par.inspView0Distance + 16 * d)

/-- A triggered line waits for its defect analysis (R352); lines far behind the web are forgotten. -/
def State.noteViewed (c : Nat) (x : Int) (stamped : Bool) (s : State) : State :=
  { s with insp := { s.insp with
    viewed := ⟨c, x, s.viewedAt c x, false, stamped⟩ :: s.insp.viewed.filter (fun v => decide (s.pos.hw < v.y + 16384)) } }

/-- Closes the open frame (R325). -/
def Cam.close (short : Bool) (x : Cam) : Cam :=
  match x.opened with
  | none => x
  | some f => { x with opened := none, closing := x.closing ++ [{ f with short := f.short || short }] }

/-- The open frame consumes a stamp; after H of them it closes and further lines of the image are in excess. -/
def Cam.consume (c : Nat) (upd : CamFrame → CamFrame) (x : Cam) : Cam :=
  match x.opened with
  | none => x
  | some f =>
    let g := { upd f with consumed := f.consumed + 1 }
    if g.set.height c ≤ g.consumed then { ({ x with opened := some g }).close false with excess := some g.num } else { x with opened := some g }

/-- The oldest stamp is lost (R323). -/
def Cam.loseStamp (c : Nat) (x : Cam) : Cam :=
  ({ x with stamps := x.stamps.drop 1 }).consume c (fun f => { f with lost := f.lost + 1, gap := true })

/-- CAMERA_TRIGGER (R320-R322, R327): P first reaches x_k. A port that holds 4,096 stamps loses the oldest (DESIGN CHOICE, log entry 170). -/
def execCameraTrigger (t port : Nat) (s : State) : Outcome State Fault Refusal :=
  let s := s.at_ t
  if !s.camLeads port || (s.cam port).state == 0 then .next s
  else if s.pos.hold || s.pos.lost.isSome then .next (s.modCam port (fun x => { x with stalled := true }))
  else
    let s := s.modCam port (Cam.resume port s.pos.hw)
    let x := s.cam port
    if !s.reachedAt x.next then .next s
    else
      let gap := ceilDiv 1000000000 (max 1 (s.camPar Par.camUTrigMaxRate port))
      let soon := match x.last with
        | some l => decide (s.now < l + gap)
        | none => false
      let start := nextStart x.start (x.cur.height port) x.k
      let s := s.noteViewed port x.next (!soon)
      if soon then
        let s := s.modCam port (fun x => { x with k := x.k + 1, next := x.next + x.cur.step port, start := start })
        .next (((s.bump (Par.at_ Par.camUTrigSkipped port) 1).bump (Par.at_ Par.camULinesLost port) 1).raiseLimited Ev.camTriggerSkipped port port [])
      else
        let first := x.k == start
        let cur := if first then x.shadow.getD x.cur else x.cur
        let swapped := first && x.shadow.isSome
        let stamp : Stamp := ⟨x.k, x.next, s.ring, s.now, cur.seq, first⟩
        let full := decide (4096 ≤ x.stamps.length)
        let s := s.when full (State.modCam port (Cam.loseStamp port))
        let s := s.modCam port (fun x => { x with
          k := x.k + 1, next := x.next + cur.step port, last := some s.now
          start := if first then x.k + cur.height port else start
          stamps := x.stamps ++ [stamp]
          cur := cur, shadow := if first then none else x.shadow
          old := if swapped then (x.cur :: x.old).filter (fun v => x.stamps.any (fun st => st.seq == v.seq)) else x.old })
        let s := s.when full (State.bump (Par.at_ Par.camULinesLost port) 1)
        let width := if cur.par Par.camUExposureB port ≠ 0 ∧ x.k % 2 = 1 then cur.par Par.camUExposureB port else cur.par Par.camUExposureA port
        .next ((s.takeTrim 4 (s.camPar Par.camUTrigOut port)).emit (.camera port 0 [s.camPar Par.camUTrigOut port, s.camPar Par.camUTrigPolarity port, width]))

/-! ## Lines and frames (R323-R326) -/

/-- Discards the stamps whose edge lies more than CAM[c].LINE_WINDOW before now (R323). -/
def State.loseOld (c : Nat) : Nat → State → State
  | 0, s => s
  | fuel + 1, s =>
    match (s.cam c).stamps.head? with
    | none => s
    | some st =>
      if st.edge + s.camPar Par.camULineWindow c < s.now then
        State.loseOld c fuel ((s.modCam c (Cam.loseStamp c)).bump (Par.at_ Par.camULinesLost c) 1)
      else s

/-- Filter codes of a set's pattern, ascending: C alone for a mono device (R329, R332). -/
def CamSet.pattern (v : CamSet) (c : Nat) : List Nat :=
  let n := v.par Par.camUMosaicSize c
  let cells := if n = 0 then [3] else (List.range (2 * n)).flatMap (fun y => (List.range (2 * n)).map (fun x =>
    bitsAt (v.par Par.camUMosaic c) (16 * y + 4 * x) 4))
  (List.range 5).filter cells.contains

/-- Channels of a frame's output by code (*Output channels*). -/
def CamSet.channels (v : CamSet) (c : Nat) : List Nat :=
  if v.par Par.camUMosaicSize c = 0 then [3] else if v.par Par.camUSepEnable c = 1 then [5, 6, 7, 8] else v.pattern c

/-- Pods of a frame (*Frame buffers and statistics*). -/
def CamSet.podsNeeded (v : CamSet) (c : Nat) : Nat :=
  ceilDiv (v.par Par.camUWidth c * (v.channels c).length * 2 * v.par Par.camUFrameLines c) 1048576

/-- Frame-buffer pods in use. -/
def State.bufferPods (s : State) : Nat :=
  (s.insp.images.map (fun (i : Image) => i.pods.length)).sum
    + (s.cams.map (fun (x : Cam) => (x.opened.elim 0 (fun f => f.pods.length)) + (x.closing.map (fun (f : CamFrame) => f.pods.length)).sum)).sum

/-- The flag byte of a frame's statistics record. -/
def CamFrame.flags (f : CamFrame) (c : Nat) : Nat :=
  bit f.short 0 + bit f.long 1 + bit f.gap 2 + bit f.realigned 3 + bit f.unbuffered 4 + bit (f.set.par Par.camUExposureB c != 0) 5 + bit f.format 6

/-- EV062 for a frame that is irregular (R326). -/
def State.irregular (c num flags : Nat) (s : State) : State :=
  s.when (flags % 16 != 0 || bitAt flags 6) (State.raiseLimited Ev.camFrameIrregular c c (leBytes 4 num ++ leBytes 1 flags))

/-- A line after the H stamps of its frame (R325): discarded, and the frame carries LONG. -/
def State.excessLine (c : Nat) (s : State) : State :=
  let s := s.bump (Par.at_ Par.camULinesDiscarded c) 1
  match (s.cam c).excess with
  | none => s
  | some n =>
    let seen := (s.cam c).stats.find? (fun r => r.num == n)
    let s := s.modCam c (fun x => { x with
      closing := x.closing.map (fun (f : CamFrame) => if f.num == n then { f with long := true, discarded := f.discarded + 1 } else f)
      stats := x.stats.map (fun (r : FrameStat) => if r.num == n then { r with flags := r.flags ||| 2, discarded := min 65535 (r.discarded + 1) } else r) })
    match seen with
    | some r => if bitAt r.flags 1 then s else s.irregular c n (r.flags ||| 2)
    | none => s

/-- A view, renderer or class parameter of INSP, which applies from the first frame that opens after its commit (*Inspection
parameters*). -/
def frameParam (id : Nat) : Bool :=
  idSvc id == 0x0E && idUnit id == 0 &&
    (idIdx id == 0x10 || idIdx id == 0x11 || (0x20 ≤ idIdx id && idIdx id ≤ 0x5F) || (0x70 ≤ idIdx id && idIdx id ≤ 0x75))

/-- The values of these parameters in force that are not their reset values. -/
def State.frameNow (s : State) : List (Nat × Nat) := s.params.filter (fun e => frameParam e.1)

/-- Puts the values of a frame in force. -/
def State.frameTake (snap : List (Nat × Nat)) (s : State) : State :=
  (s.each s.frameNow (fun e s => s.setPar e.1 (resetVal e.1))).each snap (fun e s => s.setPar e.1 e.2)

/-- Works on a frame under the values that held when it opened. -/
def State.underFrame (snap : List (Nat × Nat)) (f : State → State) (s : State) : State :=
  if snap = s.frameNow then f s else (f (s.frameTake snap)).frameTake s.frameNow

/-- The first line of an image opens a frame (R325, R326, R333), or is discarded where a merging pair would start odd. -/
def State.openFrame (c : Nat) (st : Stamp) (samples : List Nat) (s : State) : State :=
  let x := s.cam c
  let set := x.setOf st.seq
  let moved := !st.start && x.fresh == 1
  let odd := moved && set.par Par.camUExposureB c != 0 && st.k % 2 == 1
  let s := s.when moved (fun s => (s.modCam c (fun x => { x with
    start := nextStart (st.k + x.cur.height c) (x.cur.height c) x.k })).bump (Par.at_ Par.camURealigns c) 1)
  if odd then (s.modCam c (fun x => { x with fresh := 2 })).bump (Par.at_ Par.camULinesDiscarded c) 1
  else
    let num := s.camPar Par.camUFrames c
    let wrong := x.hdr != (set.par Par.camUWidth c, set.par Par.camUPixelBits c)
    let pods := set.podsNeeded c
    let room := decide (pods ≤ runTotal s.spool.bufs)
    let (s, got) := if room then State.allocPods 1 pods s else (s, [])
    let room := room && got.length == pods
    let s := s.when (!room) (State.freePods got)
    let f : CamFrame := ⟨num, set, st.t, st.x, st.x, if wrong then [] else [⟨st.k, st.x, samples⟩], 0, 0, (if x.fresh = 2 then 1 else 0) + (if wrong then 1 else 0),
      false, false, false, moved || x.fresh == 2, wrong, !room, if room then got else [], s.frameNow⟩
    let s := s.setPar (Par.at_ Par.camUFrames c) ((num + 1) % 2 ^ 32)
    let s := s.when (!room) (State.bump (Par.at_ Par.camUFramesUnbuffered c) 1)
    let s := s.when wrong (fun s => (s.bump (Par.at_ Par.camULinesDiscarded c) 1).raiseLimited Ev.camFormatMismatch c c [])
    s.modCam c (fun x => ({ x with fresh := 0, excess := none, opened := some f }).consume c id)

/-- CAMERA_LINE (R323-R326): a line of the stream with its samples, the header where it begins a camera image, and whether
the image ends with it. -/
def execCameraLine (t port : Nat) (header : Option (Nat × Nat)) (samples : List Nat) (stop : Bool) (s : State) :
    Outcome State Fault Refusal :=
  let s := s.at_ t
  if !s.camLeads port || (s.cam port).state != 3 || s.holding 14 then .next s
  else
    let s := s.loseOld port 4096
    let s := match header with
      | some h => s.modCam port (fun x => { (x.close (match x.opened with | some f => decide (f.consumed < f.set.height port) | none => false)) with
          fresh := 1, hdr := h, excess := none })
      | none => s
    let s := match (s.cam port).stamps with
      | [] => s.bump (Par.at_ Par.camULinesExtra port) 1
      | st :: _ =>
        let s := s.modCam port (fun x => { x with stamps := x.stamps.drop 1 })
        if (s.cam port).fresh ≠ 0 then s.openFrame port st samples
        else match (s.cam port).opened with
          | none => s.excessLine port
          | some f =>
            if f.format then
              (s.bump (Par.at_ Par.camULinesDiscarded port) 1).modCam port (Cam.consume port (fun f => { f with pLast := st.x, discarded := f.discarded + 1 }))
            else s.modCam port (Cam.consume port (fun f => { f with pLast := st.x, lines := f.lines ++ [⟨st.k, st.x, samples⟩] }))
    .next (if stop then s.modCam port (fun x => { (x.close (match x.opened with | some f => decide (f.consumed < f.set.height port) | none => false)) with excess := none })
      else s)

/-- CAM_PACKET_ERROR (R324): a packet that fails its check, or of a kind that is not supported. -/
def execCamPacketError (t port : Nat) (s : State) : Outcome State Fault Refusal :=
  let s := s.at_ t
  if 4 ≤ port then .next s else .next (s.bump (Par.at_ Par.camUPacketErr port) 1)

/-! ## The pipeline (R329-R331) -/

/-- A quotient that the spec does not say how to round. -/
def roundFree (stage num den : Nat) : Nat :=
  if den = 0 ∨ num % den = 0 then num / den else num / den + (Config.roundUp stage num den).toNat

/-- A quotient rounded to the nearest whole number; a tie is left open. -/
def roundNear (stage num den : Nat) : Nat :=
  if 2 * (num % den) < den then num / den else if den < 2 * (num % den) then num / den + 1 else roundFree stage num den

/-- A sample in the pipeline: its value and its saturated mark. -/
abbrev Px := Nat × Bool

/-- Side of the mosaic pattern: 1 for a mono device. -/
def CamSet.side (v : CamSet) (c : Nat) : Nat := if v.par Par.camUMosaicSize c = 0 then 1 else 2 * v.par Par.camUMosaicSize c

/-- Trigger numbers per output line: 2 when merging. -/
def CamSet.merge (v : CamSet) (c : Nat) : Nat := if v.par Par.camUExposureB c = 0 then 1 else 2

/-- The filter code of a pixel on the line of a trigger number. -/
def CamSet.codeAt (v : CamSet) (c k x : Nat) : Nat :=
  let n := v.side c
  if n = 1 then 3 else bitsAt (v.par Par.camUMosaic c) (16 * (k / v.merge c % n) + 4 * (x % n)) 4

/-- Stage 1: linearisation between knots. -/
def CamSet.linear (v : CamSet) (c raw : Nat) : Px :=
  let w := 2 ^ (8 + 2 * v.par Par.camUPixelBits c)
  let raw := min raw (w - 1)
  let kn := v.par Par.camULinKnots c
  let j := raw * 32 / w
  let f := raw * 32 % w
  (roundNear 1 (tWord kn j * (w - f) + tWord kn (j + 1) * f) w, raw == w - 1)

/-- Stage 2: black level. -/
def CamSet.black (v : CamSet) (c k x : Nat) (p : Px) : Px := (p.1 - tWord (v.par Par.camUBlack c) (v.codeAt c k x), p.2)

/-- Stage 3: the columns listed in CAM[c].DEFECTS take the mean of the nearest columns of their code on each side. -/
def CamSet.repair (v : CamSet) (c k : Nat) (row : List Px) : List Px :=
  let n := v.side c
  let bad := (List.range (v.par Par.camUDefectCount c)).map (fun i => tWord (v.par Par.camUDefects c) i % 32768)
  row.zipIdx.map (fun (p, x) =>
    if !bad.contains x then p
    else
      let like := fun y => v.codeAt c k y == v.codeAt c k x
      let left := ((List.range (2 * n)).map (fun d => d + 1)).find? (fun d => d ≤ x && like (x - d)) |>.bind (fun d => row[x - d]?)
      let right := ((List.range (2 * n)).map (fun d => d + 1)).find? (fun d => x + d < row.length && like (x + d)) |>.bind (fun d => row[x + d]?)
      match left, right with
      | some a, some b => (roundFree 3 (a.1 + b.1) 2, a.2 || b.2)
      | some a, none => a
      | none, some b => b
      | none, none => (0, false))

/-- Stages 1 to 3 of a line. -/
def CamSet.first (v : CamSet) (c : Nat) (l : CamLine) : Nat × Int × List Px :=
  (l.k, l.x, v.repair c l.k ((l.data.zipIdx).map (fun (raw, x) => v.black c l.k x (v.linear c raw))))

/-- Stage 4: the merge of a line of even trigger number with the next; a pair of which a line is lost is lost. -/
def CamSet.join (v : CamSet) (c : Nat) (rows : List (Nat × Int × List Px)) : List (Nat × Int × List Px) :=
  if v.merge c = 1 then rows
  else
    (rows.filter (fun r => r.1 % 2 == 0)).filterMap (fun a =>
      (rows.find? (fun b => b.1 == a.1 + 1)).map (fun b =>
        (a.1, a.2.1, (a.2.2.zip b.2.2).map (fun (p, q) =>
          let x : Px := if p.1 < v.par Par.camUMergeKnee c then p
            else (roundFree 4 (q.1 * v.par Par.camUExposureA c) (v.par Par.camUExposureB c), q.2)
          (min 65535 (x.1 / 2 ^ v.par Par.camUMergeShift c), x.2)))))

/-- Stage 5: shading gains. -/
def CamSet.shade (v : CamSet) (c : Nat) (row : List Px) : List Px :=
  row.zipIdx.map (fun (p, x) =>
    (min 65535 (roundFree 5 (p.1 * tWord (v.par (Par.camUShade0 + x / 2048) c) (x % 2048)) 16384), p.2))

/-- Stage 6: the samples of every code of the pattern at a pixel. -/
def CamSet.mosaic (v : CamSet) (c : Nat) (rows : List (Nat × Int × List Px)) (r : Nat × Int × List Px) (x : Nat) (p : Px) : List Px :=
  let n := v.side c
  let m := v.merge c
  let reach := n / 2
  let near := rows.filter (fun q => q.1 ≤ r.1 + m * reach && r.1 ≤ q.1 + m * reach)
  (v.pattern c).map (fun code =>
    if v.codeAt c r.1 x == code then p
    else
      let xs := near.flatMap (fun q => ((List.range (2 * reach + 1)).filterMap (fun d =>
        if reach ≤ x + d ∧ v.codeAt c q.1 (x + d - reach) = code then q.2.2[x + d - reach]? else none)))
      if xs.isEmpty then ((Config.missingSample r.1 x code).toNat, false)
      else (roundFree 6 (xs.map Prod.fst).sum xs.length, xs.any Prod.snd))

/-- Stage 7: the separation matrix. -/
def CamSet.separate (v : CamSet) (c : Nat) (px : List Px) : List Px :=
  if v.par Par.camUMosaicSize c = 0 ∨ v.par Par.camUSepEnable c = 0 then px
  else
    let input := fun j => ((v.pattern c).zip px).find? (fun e => e.1 == j)
    (List.range 4).map (fun i =>
      let terms := (List.range 5).map (fun j => signed 16 (tWord (v.par Par.camUSepMatrix c) (5 * i + j)) * (((input j).elim 0 (fun e => e.2.1) : Nat) : Int))
      let sum := terms.sum
      (if sum < 0 then 0 else min 65535 (roundFree 7 sum.toNat 4096), (List.range 5).any (fun j => (input j).elim false (fun e => e.2.2))))

/-- The output lines of a frame: trigger position and every pixel's channels. -/
def CamSet.pipeline (v : CamSet) (c : Nat) (ls : List CamLine) : List (Int × List (List Px)) :=
  let rows := (v.join c (ls.map (v.first c))).map (fun r => (r.1, r.2.1, v.shade c r.2.2))
  rows.map (fun r => (r.2.1, r.2.2.zipIdx.map (fun (p, x) => v.separate c (v.mosaic c rows r x p))))

/-- Statistics of channel `i` over the output lines. -/
def chanStat (out : List (Int × List (List Px))) (i code : Nat) : ChanStat :=
  let xs : List Px := out.flatMap (fun l => l.2.map (fun px => nth px (0, false) i))
  ⟨roundFree 8 ((xs.map Prod.fst).sum * 65536) xs.length, (xs.map Prod.fst).foldl min ((xs.head?).elim 0 Prod.fst), (xs.map Prod.fst).foldl max 0,
    (xs.filter Prod.snd).length, code⟩

/-- The statistics record of a closed frame (R328, R334); a FORMAT frame has none of an image. -/
def CamFrame.stat (f : CamFrame) (c : Nat) (out : List (Int × List (List Px))) : FrameStat :=
  let chans := if f.format then [⟨0, 0, 0, 0, 0⟩] else (f.set.channels c).zipIdx.map (fun (code, i) => chanStat out i code)
  ⟨f.num, f.set.seq, f.pFirst, f.pLast, f.tFirst, if f.format then 0 else min 65535 out.length,
    min 65535 f.lost, min 65535 f.discarded, f.flags c, chans⟩

/-- A record as CAM_STATS_READ returns it. -/
def FrameStat.bytes (r : FrameStat) : List Byte :=
  leBytes 4 r.num ++ leBytes 4 r.seq ++ leBytes 8 (twos 64 r.pFirst) ++ leBytes 8 (twos 64 r.pLast) ++ leBytes 8 r.tFirst ++ leBytes 2 r.lines
    ++ leBytes 2 r.lost ++ leBytes 2 r.discarded ++ leBytes 1 r.flags ++ leBytes 1 r.chans.length ++ List.replicate 8 0
    ++ r.chans.flatMap (fun k => leBytes 4 k.mean ++ leBytes 2 k.min ++ leBytes 2 k.max ++ leBytes 4 k.sat ++ leBytes 4 k.code)

/-! ## Links and control commands (R317-R319) -/

/-- Sends the first control command that waits. -/
def State.sendCam (c : Nat) (s : State) : State :=
  match (s.cam c).cmds with
  | [] => s
  | q :: rest =>
    if q.sentAt.isSome then s
    else (s.modCam c (fun x => { x with cmds := { q with sentAt := some s.now } :: rest })).emit
      (.camera c 1 ([if q.write then 1 else 0, q.addr, q.count] ++ q.data.map BitVec.toNat))

/-- The control command in work ends. -/
def State.endCam (c st detail : Nat) (body : List Byte) (s : State) : State :=
  match (s.cam c).cmds with
  | [] => s
  | q :: rest => ((s.modCam c (fun x => { x with cmds := rest })).finish q.cid st detail (.bytes body)).sendCam c

/-- The ports of a device. -/
def State.camGroup (s : State) (c : Nat) : List Nat := (List.range (max 1 (s.camPar Par.camUAggregate c))).map (· + c)

/-- The link of a device goes down (R317-R319): EV060 where it was up, and its control commands end. -/
def State.camDown (c : Nat) (s : State) : State :=
  if (s.cam c).state ≤ 1 then s
  else if (s.cam c).state = 2 then s.modCam c (fun x => { x with state := 1 })
  else
    let waiting := (s.cam c).cmds
    let s := s.modCam c (fun x => { x with state := 1, cmds := [] })
    let s := (s.bump (Par.at_ Par.camULinkDowns c) 1).raise Ev.camLinkDown c []
    s.each waiting (fun q s => s.finish q.cid St.unitFault (0x0D00 + c) (.bytes []))

/-- CAM_LINK_DOWN (R318, R319): a connection loses lock and the whole device goes down. -/
def execCamLinkDown (t port : Nat) (s : State) : Outcome State Fault Refusal :=
  let s := s.at_ t
  if 4 ≤ port then .next s else .next ((s.modCam port (fun x => { x with lock := none })).camDown (s.camLeader port))

/-- CAM_LINK_UP (R317, R318): the connection of a port is locked, and the camera admits `speed` on it. Once every connection of the device is,
discovery and the connection test set the speed and the identities of its connections in port order; until then it is discovering
(DESIGN CHOICE, log entry 169). -/
def execCamLinkUp (t port speed : Nat) (s : State) : Outcome State Fault Refusal :=
  let s := s.at_ t
  let l := s.camLeader port
  if 4 ≤ port ∨ (s.cam l).state = 0 ∨ (s.cam l).state = 3 then .next s
  else
    let s := s.modCam port (fun x => { x with lock := some speed })
    let locks := (s.camGroup l).map (fun p => (s.cam p).lock)
    if locks.any Option.isNone then .next (s.modCam l (fun x => { x with state := 2 }))
    else
      let v := (locks.filterMap id).foldl min (s.camPar Par.camUCxpSpeed l)
      let s := s.modCam l (fun x => { x with state := 3, speed := v })
      let s := s.each (s.camGroup l).zipIdx (fun p s => s.emit (.camera p.1 2 [v, (s.camGroup l).length, p.2]))
      .next ((s.endCond Ev.camLinkDown l).raise Ev.camLinkUp l [])

/-- CAM_CONTROL_ACK (R319): the camera's acknowledgement, or a wait extension (`more`). -/
def execCamControlAck (t port code : Nat) (more : Bool) (data : List Byte) (s : State) : Outcome State Fault Refusal :=
  let s := s.at_ t
  match (s.cam port).cmds with
  | [] => .next s
  | q :: _ =>
    if more ∨ q.sentAt.isNone ∨ s.holding 14 then .next s
    else .next (s.endCam port St.ok 0 (leBytes 1 code ++ [0, 0, 0] ++ (if q.write then [] else data.take q.count)))

/-- CAM_ACK_TIMEOUT (R319): 40 ms without an acknowledgement. -/
def execCamAckTimeout (t port : Nat) (s : State) : Outcome State Fault Refusal :=
  let s := s.at_ t
  match (s.cam port).cmds with
  | [] => .next s
  | q :: _ =>
    let late := match q.sentAt with
      | some l => decide (l + 40000000 ≤ s.now)
      | none => false
    if late then .next (s.endCam port St.unitFault (0x0D00 + port) []) else .next s

/-- CAM_REG_ACCESS (R319). -/
def effCamRegAccess : Effect := fun c s =>
  let b := c.body
  let port := leAt b 0 1 % 4
  let write := bitAt (leAt b 1 1) 0
  let count := leAt b 8 2
  let want := 12 + if write then count else 0
  if b.length < 12 then refuse St.badLength 12 s
  else if 4 ≤ leAt b 0 1 then refuse St.reservedNonzero 8 s
  else if 2 ≤ leAt b 1 1 then refuse St.reservedNonzero 9 s
  else needZero c 2 2 s <|
  if count < 4 ∨ 512 < count ∨ count % 4 ≠ 0 then refuse St.valueRange 16 s
  else needZero c 10 2 s <| needLen c want s <|
  if !s.camLeads port then refuse St.valueRange 8 s
  else if write && (List.range count).any (fun i => Config.bootstrapRegister (leAt b 4 4 + i) == 1) then refuse St.valueRange 12 s
  else needChange c .oper s <| needOwner c s <|
  if (s.cam port).state ≠ 3 then refuse St.unitFault (0x0D00 + port) s
  else
    let q : CamCmd := ⟨c.cid, write, leAt b 4 4, count, if write then b.drop 12 else [], none⟩
    ((s.modCam port (fun x => { x with cmds := x.cmds ++ [q] })).sendCam port, .later)

/-- CAM_STATUS (*CAM_STATUS reply entry*). -/
def effCamStatus : Effect := fun c s =>
  needLen c 0 s <| needLearn c .oper s <|
  okay 0 ((List.range 4).flatMap (fun p =>
    let l := s.camLeader p
    let x := s.cam l
    let role := if l ≠ p then 2 else if s.camPar Par.camUAggregate p = 1 then 0 else 1
    let set := x.shadow.getD x.cur
    let newest := match x.closing.getLast? with
      | some f => f.num
      | none => (x.stats.getLast?).elim 0 FrameStat.num
    leBytes 1 (x.state + 4 * role) ++ leBytes 1 x.speed ++ [0, 0] ++ leBytes 4 newest ++ leBytes 4 set.seq
      ++ [0, 0, 0, 0])) s

/-- CAM_STATS_READ (R334). -/
def effCamStatsRead : Effect := fun c s =>
  needLen c 8 s <|
  let port := leAt c.body 0 1
  let n := leAt c.body 2 2
  let first := leAt c.body 4 4
  if 4 ≤ port then refuse St.valueRange 8 s
  else needZero c 1 1 s <|
  if n = 0 ∨ 64 < n then refuse St.valueRange 10 s
  else needLearn c .inspStats s <|
  let rs := (s.cam port).stats.filter (fun r => (r.num + 2 ^ 32 - first) % 2 ^ 32 < n)
  okay 0 (leBytes 2 rs.length ++ [0, 0] ++ rs.flatMap FrameStat.bytes) s

def execCamStatus (t : Nat) (h : Hdr) (b : List Byte) (s : State) : Outcome State Fault Refusal :=
  .next (hostRow (.camStatus t h b) 0x0D01 t h b effCamStatus s)

def execCamRegRead (t : Nat) (h : Hdr) (b : List Byte) (s : State) : Outcome State Fault Refusal :=
  .next (hostRow (.camRegRead t h b) 0x0D02 t h b effCamRegAccess s)

def execCamRegWrite (t : Nat) (h : Hdr) (b : List Byte) (s : State) : Outcome State Fault Refusal :=
  .next (hostRow (.camRegWrite t h b) 0x0D02 t h b effCamRegAccess s)

def execCamStatsRead (t : Nat) (h : Hdr) (b : List Byte) (s : State) : Outcome State Fault Refusal :=
  .next (hostRow (.camStatsRead t h b) 0x0D03 t h b effCamStatsRead s)

end Sys2Proof.Machine
end

