-- ==== Sys2Proof/Machine/Shell.lean ====
section
/-! DEFINITION. The Shell: job keys, rekeying, commissioning, certificates, attestation, the UTC floor, anti-rollback,
tamper and entropy faults (06_secrecy.md). -/
namespace Sys2Proof.Machine
open Host

/-- Refuses every Shell operation after a tamper response (R158). -/
def needShell (s : State) (k : State × Verdict) : State × Verdict :=
  if s.shell.tampered then refuse St.shellFault 0 s else k

/-- Refuses an operation that needs fresh randomness when there is none (R138, R158). -/
def needRandom (s : State) (k : State × Verdict) : State × Verdict :=
  if s.noRandom then refuse St.shellFault 0 s else k

/-- Whether a role may hold job keys (R141): learn right K on job content. -/
def mayHoldKeys (role : Nat) : Bool := learnRight role .jobContent == .key

/-- The key of a job in the store. -/
def State.keyOf (s : State) (job : Nat) : Option JobKey := s.shell.keys.find? (fun k => k.job == job)

/-- Gives a session the hold on a key; a mark for erasure is lifted and its drops end with DETAIL 1 (R507). -/
def State.holdKey (n job key : Nat) (s : State) : State :=
  match s.keyOf job with
  | none => { s with shell := { s.shell with keys := s.shell.keys ++ [⟨job, key, [n], false, []⟩] } }
  | some k =>
    let s := { s with shell := { s.shell with keys := s.shell.keys.map (fun (j : JobKey) =>
      if j.job == job then { j with holders := j.holders ++ [n], marked := false, drops := [] } else j) } }
    s.each k.drops (fun c s => s.finish c St.ok 1 (.bytes []))

/-- The job key that a body of SHELL_JOB_KEY_LOAD wraps (R141); none where its tag fails or its key is no point of the curve. -/
def State.unwrapJob (s : State) (body : List Byte) : Option Nat :=
  match ecdh s.wrapKey ((body.drop 12).take 97) with
  | none => none
  | some z =>
    (gcmOpen (hkdfExpand (hkdfExtract (body.take 8) z) (ascii "alaten job wrap") 32) (List.replicate 12 0) (body.take 112)
      ((body.drop 112).take 32) ((body.drop 144).take 16)).map beNat

/-- SHELL_JOB_KEY_LOAD (R141, R507). -/
def effShellJobKeyLoad : Effect := fun c s =>
  needLen c 160 s <|
  let job := leAt c.body 0 8
  if job = 0 then refuse St.valueRange 8 s
  else if leAt c.body 8 1 ≠ 1 then refuse St.badEnum 16 s
  else needZero c 9 3 s <| needZero c 109 3 s <|
  if !s.holdsKey c.sn job && 256 ≤ (s.shell.keys.filter (fun k => k.holders.contains c.sn)).length then
    refuse St.badCount 0 s
  else if !mayHoldKeys c.role then refuse St.classForbidden 0 s
  else needShell s <|
  match s.unwrapJob c.body with
  | none => refuse St.signatureInvalid 0 s
  | some k =>
    match s.keyOf job with
    | some j =>
      if j.key ≠ k then refuse St.valueRange 8 s
      else if j.holders.contains c.sn then okay 0 [] s
      else okay 0 [] (s.holdKey c.sn job k)
    | none => if 8192 ≤ s.shell.keys.length then refuse St.keyStoreFull 0 s else okay 0 [] (s.holdKey c.sn job k)

/-- SHELL_JOB_KEY_DROP (R143): every hold ends at once; the FINAL reply waits for the erasure. -/
def effShellJobKeyDrop : Effect := fun c s =>
  needLen c 8 s <|
  let job := leAt c.body 0 8
  if job = 0 then refuse St.valueRange 8 s
  else if !s.holdsKey c.sn job then refuse St.noJobKey 0 s
  else needShell s <|
    let s := { s with shell := { s.shell with keys := s.shell.keys.map (fun (j : JobKey) =>
      if j.job == job then { j with holders := [], marked := true, drops := j.drops ++ [c.cid] } else j) } }
    (s.eraseKeys, .later)

/-- Whether the 64 ms of the latest transmit epoch still run (R56). -/
def Session.txRuns (now : Nat) (x : Session) : Bool := match x.txWindow with
  | some e => decide (now < e)
  | none => false

/-- SHELL_REKEY (R140): the next AL716-to-host epoch from the next frame on, or one held until the 64 ms have ended; an epoch of which
no frame has left yet starts with that frame anyway. -/
def effShellRekey : Effect := fun c s =>
  needLen c 0 s <| needShell s <|
  okay 0 [] (s.modSession c.sn (fun x =>
    if x.txNew then x else if x.txRuns s.now then { x with rekeyHeld := true } else x.startEpoch))

/-- A commissioning slot. -/
def State.slot (s : State) (i : Nat) : Slot := nth s.shell.slots ⟨0, false, 0⟩ i

/-- Whether a session's chain roots in an unrevoked Integrator slot (R135). -/
def State.rootsInSlot (s : State) (x : Session) : Bool :=
  x.role == roleIntegrator && s.shell.slots.any (fun t => t.kind == 1 && !t.revoked && t.digest == x.root)

/-- Whether a slot stays an unrevoked Integrator slot whatever programming is under way (R135). -/
def State.keepsIntegrator (s : State) (i : Nat) : Bool :=
  (s.slot i).kind == 1 && !(s.slot i).revoked && !s.shell.fuses.any (fun j => j.slot == i && j.revoke)

/-- SHELL_COMMISSION (R134-R136), for both of its actions. The session of R136 draws 0x0304 for any act but the burn that R136 allows it
(DESIGN CHOICE, log entry 140). -/
def effShellCommission : Effect := fun c s =>
  let b0 := leAt c.body 0 1
  let b1 := leAt c.body 1 1
  let b2 := leAt c.body 2 1
  let clen := leAt c.body 4 2
  let burn := b1 % 4 = 1
  let slot := b0 % 4
  let kind := b2 % 4
  let t := s.slot slot
  let busy := s.shell.fuses.any (fun j => j.slot == slot)
  let digest := leNat (sha384 ((c.body.drop 8).take clen))
  if c.body.length < 8 then refuse St.badLength 8 s
  else if 4 ≤ b0 then refuse St.reservedNonzero 8 s
  else if b1 % 4 = 0 ∨ b1 % 4 = 3 then refuse St.badEnum 9 s
  else if 4 ≤ b1 then refuse St.reservedNonzero 9 s
  else if (if burn then kind = 0 ∨ kind = 3 else kind ≠ 0) then refuse St.badEnum 10 s
  else if 4 ≤ b2 then refuse St.reservedNonzero 10 s
  else needZero c 3 1 s <|
  if (if burn then clen = 0 ∨ 2048 < clen else clen ≠ 0) then refuse St.valueRange 12 s
  else needZero c 6 2 s <| needLen c (8 + up4 clen) s <|
  if burn && (t.kind != 0 || busy) then refuse St.valueRange 8 s
  else if !burn && (t.kind == 0 || t.revoked || busy) then refuse St.valueRange 8 s
  else if !burn && t.kind == 1 && !(List.range 4).any (fun i => i != slot && s.keepsIntegrator i) then refuse St.valueRange 8 s
  else if s.par Par.shellCommissionState ≠ 1 then refuse St.classForbidden 0 s
  else
    match s.session c.sn with
    | none => refuse St.classForbidden 0 s
    | some x =>
      if x.commissioning && !(burn && slot == 0 && kind == 1 && digest == x.root) then refuse St.classForbidden 0 s
      else if !x.commissioning && !s.rootsInSlot x then refuse St.classForbidden 0 s
      else needShell s <|
        ({ s with shell := { s.shell with fuses := s.shell.fuses ++ [⟨c.cid, slot, !burn, kind, digest⟩] } }, .pending)

/-- SHELL_CERT_READ (R133): a slice of the device chain. -/
def effShellCertRead (offset count : Nat) : Effect := fun c s =>
  needLearn c .identity s <|
  let n := min count (ownChain.length - offset)
  if 9120 < 16 + up4 n then refuse St.replyTooLarge (16 + up4 n) s
  else okay 0 ((ownChain.drop offset).take n) s

/-- SHELL_ATTEST: a statement of identity and firmware over the host's nonce, signed by the identity key. -/
def effShellAttest : Effect := fun c s =>
  needLen c 32 s <| needShell s <| needRandom s <|
  let d := s.draws
  okayF ([("nonce", leNat c.body), ("part", s.par Par.devPart), ("stepping", s.par Par.devStepping), ("serial", s.par Par.devSerial),
    ("version", s.par Par.devFwVersion), ("svn", s.par Par.powerRunningSvn)]
    ++ (List.range 96).map (fun i => ("signature", (Config.signature d i).toNat))) s.draw

/-! ## UTC and anti-rollback -/

/-- The UTC estimate in seconds (R132). -/
def State.utcEstimate (s : State) : Nat := s.par Par.shellUtcFloor + (s.ring - s.shell.utcBase) / 1000000000

/-- Writes the UTC floor to the save store (R446), or leaves it due while a write that failed is to be retried. -/
def State.storeUtc (s : State) : State :=
  if s.power.retryAt.isSome then { s with shell := { s.shell with utcStoreDue := true } }
  else
    let v := s.par Par.shellUtcFloor
    ({ s with
      shell := { s.shell with utcStoreDue := false }
      power := { s.power with store := s.power.store.ctrlWrite (fun st => { st with utcFloor := v, counter := st.counter + 1 }) } }).emit (.store "UTC" [v])

/-- Sets the UTC floor at the commit instant (R132): the elapsed time restarts, and the save store follows (R446). -/
def State.setUtc (v : Nat) (s : State) : State :=
  ({ s.setPar Par.shellUtcFloor v with shell := { s.shell with utcBase := s.ring } }).storeUtc

/-- Whether a bank's image is acceptable (R154). -/
def State.acceptable (s : State) (i : ImageEv) : Bool :=
  i.krovpor && i.integrator && s.par Par.shellSvnFuse ≤ i.svn && i.svn ≤ 64

/-- The largest value that SHELL.SVN_COMMIT may take (R155). -/
def State.svnBound (s : State) : Nat :=
  let run := s.par Par.powerRunningSvn
  match (nth s.power.banks ⟨none, 0, 0, []⟩ (1 - s.par Par.powerRunningBank)).image with
  | some i => if s.acceptable i then min run i.svn else run
  | none => run

/-- Whether a value of SHELL.SVN_COMMIT is refused with 0x0101 (R155). -/
def State.svnRefused (s : State) (v : Nat) : Bool := s.par Par.shellSvnFuse < v && s.svnBound < v

/-- Burns the anti-rollback fuses up to a value; a value at or below the count changes nothing (R155). -/
def State.burnSvn (v : Nat) (s : State) : State := s.setIf (s.par Par.shellSvnFuse < v) Par.shellSvnFuse v

/-- Whether a session may commit a parameter now: it owns, and its role may change it (R101). -/
def State.mayCommit (s : State) (n id : Nat) : Bool := s.owns n && mayWrite (s.role n) id

/-- UTC_FLOOR_WRITE (R132): the commit of SHELL.UTC_FLOOR by a session; below the estimate it is refused. -/
def execUtcFloorWrite (t session value : Nat) (s : State) : Outcome State Fault Refusal :=
  let s := s.at_ t
  if s.mayCommit session Par.shellUtcFloor && s.utcEstimate ≤ value && value < 2 ^ 64 then
    let s := s.setUtc value
    .next (s.setPar Par.devCommitSeq ((s.par Par.devCommitSeq + 1) % 2 ^ 32))
  else .next s

/-- SVN_COMMIT_WRITE (R155): the commit of SHELL.SVN_COMMIT by a session; above the bound it is refused. -/
def execSvnCommitWrite (t session value : Nat) (s : State) : Outcome State Fault Refusal :=
  let s := s.at_ t
  if s.mayCommit session Par.shellSvnCommit && !s.svnRefused value && value ≤ 64 then
    let s := s.burnSvn value
    .next (s.setPar Par.devCommitSeq ((s.par Par.devCommitSeq + 1) % 2 ^ 32))
  else .next s

/-- SHELL_TAMPER (R158): every traffic secret and job key is erased, EV004, every session ends with cause 0x04, and no Shell operation
runs. What the Shell had under way ends with 0x0504: drops that wait for an erasure, and fuse programming, which leaves the slot it was
writing as after a read-back that disagrees (DESIGN CHOICE, log entry 141). A handshake in progress meets REJECT 0x0504 at its PROVE. -/
def execShellTamper (t : Nat) (s : State) : Outcome State Fault Refusal :=
  let s := s.at_ t
  let ended := s.shell.keys.flatMap JobKey.drops ++ s.shell.fuses.map FuseJob.cid
  let slots := match s.shell.fuses with
    | j :: _ => modNth (fun t => if j.revoke then { t with revoked := true } else ⟨j.kind, true, j.digest⟩) j.slot s.shell.slots
    | [] => s.shell.slots
  let s := { s with
    shell := { s.shell with tampered := true, keys := [], fuses := [], slots := slots }
    shakes := s.shakes.map (fun (h : Handshake) => { h with eph := 0 }) }
  let s := (s.bump Par.shellTamperCount 1).raise Ev.shellTamper 0 []
  let s := s.each ended (fun c s => s.finish c St.shellFault 0 (.bytes []))
  .next (s.each (s.sessions.map Session.num) (fun n s => s.endSession n 4))

/-- ENTROPY_FAIL (R138). -/
def execEntropyFail (t test : Nat) (s : State) : Outcome State Fault Refusal :=
  let s := s.at_ t
  let s := { s with shell := { s.shell with entropyFailed := true } }
  .next ((s.setPar Par.shellEntropyState 2).raise Ev.entropyFail 0 [BitVec.ofNat 8 test])

/-- FUSE_PROGRAM_DONE (R135): the fuses are read back. `agree` is what the read-back finds. -/
def execFuseProgramDone (t : Nat) (agree : Bool) (s : State) : Outcome State Fault Refusal :=
  let s := s.at_ t
  match s.shell.fuses with
  | [] => .next s
  | j :: rest =>
    let s := { s with shell := { s.shell with
      fuses := rest
      slots := modNth (fun t => if j.revoke then { t with revoked := true }
        else { kind := j.kind, revoked := !agree, digest := j.digest }) j.slot s.shell.slots } }
    if agree then
      let s := s.raise Ev.commissionChanged 0 [BitVec.ofNat 8 j.slot]
      let s := { s with sessions := s.sessions.map (fun (x : Session) => { x with commissioning := x.commissioning && j.revoke }) }
      .next (s.finish j.cid St.ok 0 (.bytes []))
    else .next (s.finish j.cid St.shellFault 0 (.bytes []))

def execShellJobKeyLoad (t : Nat) (h : Hdr) (b : List Byte) (key : Computed) (s : State) : Outcome State Fault Refusal :=
  .next (hostRow (.shellJobKeyLoad t h b key) 0x0201 t h b effShellJobKeyLoad s)

def execShellJobKeyDrop (t : Nat) (h : Hdr) (b : List Byte) (s : State) : Outcome State Fault Refusal :=
  .next (hostRow (.shellJobKeyDrop t h b) 0x0202 t h b effShellJobKeyDrop s)

def execShellRekey (t : Nat) (h : Hdr) (b : List Byte) (s : State) : Outcome State Fault Refusal :=
  .next (hostRow (.shellRekey t h b) 0x0203 t h b effShellRekey s)

def execShellCommissionBurn (t : Nat) (h : Hdr) (b : List Byte) (digest : Computed) (s : State) : Outcome State Fault Refusal :=
  .next (hostRow (.shellCommissionBurn t h b digest) 0x0204 t h b effShellCommission s)

def execShellCommissionRevoke (t : Nat) (h : Hdr) (b : List Byte) (s : State) : Outcome State Fault Refusal :=
  .next (hostRow (.shellCommissionRevoke t h b) 0x0204 t h b effShellCommission s)

def execShellCertRead (t : Nat) (h : Hdr) (b : List Byte) (offset count : Nat) (s : State) : Outcome State Fault Refusal :=
  .next (hostRow (.shellCertRead t h b offset count) 0x0205 t h b (effShellCertRead offset count) s)

def execShellAttest (t : Nat) (h : Hdr) (b : List Byte) (s : State) : Outcome State Fault Refusal :=
  .next (hostRow (.shellAttest t h b) 0x0206 t h b effShellAttest s)

end Sys2Proof.Machine
end

