-- ==== Sys2Proof/Machine/Enum.lean ====
section
/-! DEFINITION. Ring time (R366-R368) and the enumeration of the ring (R361-R365) with the key that it installs (R153). -/
namespace Sys2Proof.Machine
open Host

/-! ## Ring time -/

/-- Ring time is valid (R368). -/
def State.timeValid (s : State) : Bool := !s.cause.timeLost

/-- A Causeway lane as a source of time, by 0 East A to 3 West B. -/
def State.timeLane (s : State) (i : Nat) : TimeLane := nth s.cause.time ⟨none, 0x7FF, none, 0⟩ i

/-- Changes one of them. -/
def State.modTime (i : Nat) (f : TimeLane → TimeLane) (s : State) : State := { s with cause := { s.cause with time := modNth f i s.cause.time } }

/-- A lane is UP and its latest valid TIME no older than 50 µs (R367). -/
def State.carriesTime (s : State) (i : Nat) : Bool :=
  s.laneIsUp (eastA + i) && match (s.timeLane i).last with
    | some l => decide (s.now < l + 50000)
    | none => false

/-- A lane may be the time source: it carries valid TIME, and its DIST is other than 0x7FF (R366). -/
def State.eligible (s : State) (i : Nat) : Bool := s.carriesTime i && (s.timeLane i).dist != 0x7FF

/-- The lane with the smallest DIST, the West side and then lane A on a tie (R366). -/
def State.bestTime (s : State) : Option Nat :=
  ([2, 3, 0, 1].filter s.eligible).foldl (fun b i => match b with
    | none => some i
    | some j => if (s.timeLane i).dist < (s.timeLane j).dist then some i else some j) none

/-- The DIST that the member advertises: its source's plus 1, 0x7FF in holdover and without ring time (R366, R367). -/
def State.ownDist (i : Nat) (s : State) : State :=
  s.setPar Par.causeTimeDist (if s.cause.timeLost then 0x7FF else min 0x7FF ((s.timeLane i).dist + 1))

/-- A lane becomes the time source. -/
def State.takeSource (i : Nat) (s : State) : State :=
  let s := { s with cause := { s.cause with holdover := none } }
  (((s.setPar Par.causeTimeSource i).modTime i (fun x => { x with better := none })).ownDist i)

/-- The time source changes, or holdover starts (R367). -/
def State.changeSource (s : State) : State :=
  match s.bestTime with
  | some i => (s.takeSource i).bump Par.causeTimeSwitches 1
  | none => ({ s with cause := { s.cause with holdover := some s.now } }.setPar Par.causeTimeSource 5).setPar Par.causeTimeDist 0x7FF

/-- Ring time follows a sample of the source: one step, then slews of at most 50 ns per ms, here 1 ns per 20 µs, none of
which lowers ring time (R368). `later` says that the count has moved since the state before. -/
def State.follow (sample : Int) (later : Bool) (s : State) : State :=
  if !s.cause.stepped then { s with offset := s.offset + sample, cause := { s.cause with stepped := true, slewAt := s.now } }
  else if sample = 0 ∨ s.now < s.cause.slewAt + 20000 then s
  else if 0 < sample then { s with offset := s.offset + 1, cause := { s.cause with slewAt := s.now } }
  else if later then { s with offset := s.offset - 1, cause := { s.cause with slewAt := s.now } }
  else s

/-- Ring time is valid again once the offset lies within 8 ns (R368). -/
def State.regainTime (i : Nat) (sample : Int) (s : State) : State :=
  if !s.cause.timeLost || 8 < sample.natAbs then s
  else
    let s := { s with cause := { s.cause with timeLost := false } }.ownDist i
    s.when (s.pos.lost != some 0xA) (State.endCond Ev.ringTimeLost 0)

/-- TIME (R366-R368): a sample of ring time from a neighbour; `rx` is the count at the SOF word. -/
def execTime (t : Nat) (f : CFrame) (rx : Nat) (s : State) : Outcome State Fault Refusal :=
  let later := decide (s.now < t)
  let (s, acts) := (s.at_ t).takeRing 1 f
  let dist := cfAt f 28 2 % 2048
  if !acts || f.lane < eastA || westB < f.lane || !s.laneIsUp f.lane then .next s
  else
    let i := f.lane - eastA
    let sample : Int := cfAt f 20 8 + s.par (Par.at_ Par.laneULatency f.lane) - (rx + s.offset)
    let src := s.par Par.causeTimeSource
    let better := src < 4 && src != i && decide (dist + 2 ≤ (s.timeLane src).dist)
    let goes := s.carriesTime i
    let s := s.modTime i (fun x => { x with
      last := if dist = 0x7FF then x.last else some s.now, dist := dist, offset := sample
      better := if better then some (if goes then x.better.getD s.now else s.now) else none })
    if dist = 0x7FF ∨ s.address = 0 then .next s
    else
      let s := if 4 ≤ src then
          s.when s.cause.stepped (State.bump Par.causeTimeSwitches 1) |>.takeSource (s.bestTime.getD i)
        else s
      if s.par Par.causeTimeSource = i then .next (((s.ownDist i).follow sample later).regainTime i sample) else .next s

/-- TIME_SEND (R356, R366): TIME leaves on one Causeway lane, under the ring key, every 10 µs. -/
def execTimeSend (t lane : Nat) (s : State) : Outcome State Fault Refusal :=
  let s := s.at_ t
  if lane < eastA ∨ westB < lane ∨ s.par Par.causeGeneration = 0 ∨ !s.sendDue (64 + lane) 10000 then .next s
  else .next ((s.noteSent (64 + lane)).sendFrameGen [lane] (s.par Par.causeGeneration) 1 0x7FF (leBytes 8 s.ring ++ leBytes 2 (s.par Par.causeTimeDist) ++ [0, 0]))

/-- TIME_SOURCE_SILENCE (R367): the source lane is down or has carried no valid TIME for 50 µs. -/
def execTimeSourceSilence (t : Nat) (s : State) : Outcome State Fault Refusal :=
  let s := s.at_ t
  let src := s.par Par.causeTimeSource
  if 4 ≤ src ∨ s.carriesTime src then .next s else .next s.changeSource

/-- TIME_SOURCE_BETTER (R367): a lane has offered a DIST at least 2 smaller for 100 ms. -/
def execTimeSourceBetter (t lane : Nat) (s : State) : Outcome State Fault Refusal :=
  let s := s.at_ t
  let src := s.par Par.causeTimeSource
  let i := lane - eastA
  let held := match (s.timeLane i).better with
    | some b => decide (b + 100000000 ≤ s.now)
    | none => false
  if lane < eastA ∨ westB < lane ∨ 4 ≤ src ∨ src = i ∨ !held ∨ !s.eligible i ∨ (s.timeLane src).dist < (s.timeLane i).dist + 2 then .next s
  else .next ((s.takeSource i).bump Par.causeTimeSwitches 1)

/-- Position is lost for want of ring time or of POSITION frames (R373): EV070 reason 2, cause 0x0A. -/
def State.losePosRing (s : State) : State :=
  if s.ownPos || s.pos.lost.isSome then s
  else ({ s with pos := { s.pos with lost := some 0xA, agrees := 0 } }.stallCams.bump Par.causePosTimeouts 1).raise Ev.ringTimeLost 0 [2]

/-- HOLDOVER_EXPIRY (R368, R373): ring time is lost. -/
def execHoldoverExpiry (t : Nat) (s : State) : Outcome State Fault Refusal :=
  let s := s.at_ t
  match s.cause.holdover with
  | none => .next s
  | some h =>
    if s.now < h + 1000 * s.par Par.causeTimeHoldover ∨ s.cause.timeLost then .next s
    else
      let s := { s with cause := { s.cause with timeLost := true } }
      .next (((s.setPar Par.causeTimeSource 6).raise Ev.ringTimeLost 0 [1]).losePosRing)

/-! ## Enumeration -/

/-- The identity of this member as its frames carry it. -/
def ownIdent : Nat := Config.ident.toNat

/-- The address that the rules of R361 give a member that answered, `n` members being on the ring. -/
def EnumReply.place (ringA : Bool) (n : Nat) (r : EnumReply) : Option Nat :=
  if r.hopsA != 0x7FF then some (r.hopsA + 1)
  else if ringA || r.hopsB == 0x7FF || n < r.hopsB + 2 then none
  else some (n - 1 - r.hopsB)

/-- Starts a run (R361): DISCOVER to all, under a new run number. -/
def State.startEnum (cids : List Nat) (s : State) : State :=
  let run := (Config.random s.draws).toNat % 2 ^ 32
  let s := { s.draw with cause := { s.cause with run := some ⟨run, s.now, [], cids, false⟩, wait := none, join := none } }
  s.sendFrameGen [eastA, westB] 0 8 0x7FF (leBytes 4 run)

/-- A run ends without an address or a key changed (R363, R364). -/
def State.failEnum (reason st detail : Nat) (s : State) : State :=
  let cids := s.cause.run.elim [] EnumRun.cids
  let s := { s with cause := { s.cause with run := none } }
  let s := s.raise Ev.causeEnumFailed 0 [BitVec.ofNat 8 reason]
  s.each cids (fun c s => s.finish c st detail (.bytes []))

/-- BUSY of a reply (R363): this member's address would change and it holds a segment that is accepted, runs or is kept. -/
def State.enumBusy (s : State) (hopsA hopsB : Nat) : Bool :=
  let new := if hopsA = 0x7FF then s.par Par.causeMembers - 1 - hopsB else hopsA + 1
  new != s.address && s.spool.segs.any (fun g => g.live || g.state == Sg.retained)

/-- Answers a DISCOVER with what is known of the run (R361). -/
def State.answerEnum (f : CFrame) (s : State) : State :=
  let run := cfAt f 20 4
  let (a, b) : Nat × Nat := match s.cause.heard with
    | some (r, a, b) => if r = run then (a, b) else (0x7FF, 0x7FF)
    | none => (0x7FF, 0x7FF)
  let a := if f.lane = westA then cfHops f else a
  let b := if f.lane = eastB then cfHops f else b
  let frags := if s.cause.heard.elim false (fun h => h.1 == run) then s.cause.frags else []
  let s := { s with cause := { s.cause with heard := some (run, a, b), frags := frags } }
  s.sendFrameGen [eastA, westB] 0 9 (cfSrc f) (leBytes 4 run ++ leBytes 16 ownIdent ++ leBytes 2 a ++ leBytes 2 b ++ leBytes 2 s.address
    ++ leBytes 1 (bit (s.enumBusy a b) 0) ++ [0])

/-- DISCOVER (R361, R364): answered; the own one shows that ring A returns it; another enumerator's during a run stops
this run when that enumerator's ID is the lower (`lower`). -/
def execDiscover (t : Nat) (f : CFrame) (lower : Bool) (s : State) : Outcome State Fault Refusal :=
  let s := s.at_ t
  let good := cfType f == 8 && s.checkFrame f != .bad && !s.holding 12
  let run := s.cause.run
  if good && run.elim false (fun r => r.run == cfAt f 20 4) then
    if f.lane = westA then .next { s with cause := { s.cause with run := run.map (fun r => { r with ringA := true }) } } else .next s
  else
    let (s, _) := s.takeRing 8 f
    if !good || (cfSrc f == s.address && s.address != 0x7FF) then .next s
    else if run.isSome && s.cause.wait.isNone then
      if lower then .next ((s.failEnum 3 St.unitFault 0x0F00).answerEnum f) else .next s
    else .next (s.answerEnum f)

/-- DISCOVER_REPLY (R361): collected by the enumerator, the later copy of a member's answer in place of the earlier. -/
def execDiscoverReply (t : Nat) (f : CFrame) (s : State) : Outcome State Fault Refusal :=
  let (s, acts) := (s.at_ t).takeRing 9 f
  match s.cause.run with
  | none => .next s
  | some r =>
    if !acts || cfAt f 20 4 != r.run || s.cause.wait.isSome then .next s
    else
      let e : EnumReply := ⟨cfAt f 24 16, cfAt f 40 2 % 2048, cfAt f 42 2 % 2048, cfAt f 44 2 % 2048, bitAt (cfAt f 46 1) 0⟩
      let r := { r with replies := r.replies.filter (fun x => x.ident != e.ident) ++ [e] }
      .next { s with cause := { s.cause with run := some r } }

/-- Sends a record in KEY fragments of at most 488 bytes (R362). -/
def State.sendKey (run dst : Nat) (rec_ : List Byte) (s : State) : State :=
  let n := ceilDiv rec_.length 488
  s.each (List.range n) (fun i s =>
    s.sendFrameGen [eastA, westB] 0 0x0A dst (leBytes 4 run ++ leBytes 1 i ++ leBytes 1 n ++ [0, 0] ++ pad4 ((rec_.drop (488 * i)).take 488)))

/-- The key that wraps the ring key for one member (R153): HKDF-Expand over the ECDH secret. -/
def ringWrap (secret : Option (List Byte)) : List Byte := hkdfExpand (secret.getD []) (ascii "alaten ring") 32

/-- The record of R362 for one member, what follows its first 16 bytes being R153's in the order of log entry 139: the chain length and
the identity certificate chain, the slot digests with their signature, the ephemeral key, the ring key encrypted with its tag, and the
signature over all of it. The draws from `d` on make the ephemeral key and the signatures. -/
def State.keyRecord (s : State) (d ident addr n gen install key : Nat) : List Byte :=
  let eph := ecScalar (randomBytes d 48)
  let digests := s.shell.slots.flatMap (fun t => leBytes 48 t.digest)
  let wrapped := gcmSeal 16 (ringWrap (ecdh eph (beBytes 97 (Config.memberWrap ident).toNat))) (List.replicate 12 0) [] (beBytes 32 key)
  let rec_ := leBytes 2 addr ++ leBytes 2 n ++ leBytes 1 gen ++ [0, 0, 0] ++ leBytes 8 install ++ leBytes 2 ownChain.length ++ ownChain
    ++ digests ++ ecdsaSign s.identityKey (ecScalar (randomBytes (d + 1) 48)) digests ++ ecPublic eph ++ wrapped.1 ++ wrapped.2
  rec_ ++ ecdsaSign s.identityKey (ecScalar (randomBytes (d + 2) 48)) rec_

/-- ENUM_COLLECT_END (R361-R364): 2 ms after DISCOVER the run fails, or every member gets its key record. -/
def execEnumCollectEnd (t : Nat) (s : State) : Outcome State Fault Refusal :=
  let s := s.at_ t
  match s.cause.run with
  | none => .next s
  | some r =>
    let n := r.replies.length + 1
    let placed := r.replies.map (fun e => (e.place r.ringA n, e))
    let addrs := placed.filterMap Prod.fst
    if s.now < r.startAt + 2000000 ∨ s.cause.wait.isSome then .next s
    else if s.noRandom then
      .next (({ s with cause := { s.cause with run := none } }).each r.cids (fun c s => s.finish c St.shellFault 0 (.bytes [])))
    else if 1024 < n then .next (s.failEnum 2 St.unitFault 0x0F00)
    else match r.replies.find? EnumReply.busy with
    | some e => .next (s.failEnum 4 St.segmentState e.old)
    | none =>
      if addrs.length < r.replies.length ∨ !addrs.Nodup then .next (s.failEnum 1 St.unitFault 0x0F00)
      else
        let g := s.par Par.causeGeneration
        let gen := if g = 255 then 1 else g + 1
        let install := s.ring + 10000000
        let key := (Config.random s.draws).toNat % 2 ^ 256
        let s := s.draw
        let s := s.each (sortBy (fun p => p.1.getD 0) placed) (fun p s =>
          { s with draws := s.draws + 3 }.sendKey r.run p.2.old (s.keyRecord s.draws p.2.ident (p.1.getD 0) n gen install key))
        .next { s with cause := { s.cause with wait := some ⟨0, n, gen, install, key⟩ } }

/-- A member refuses the key (R153): EV072, and it takes no part in the ring: it holds no address and no generation any more (log entry
139). -/
def State.refuseKey (s : State) : State :=
  let s := { s with cause := { s.cause with wait := none } }
  ((s.setPar Par.causeAddress 0x7FF).setPar Par.causeGeneration 0).raiseLimited Ev.causeAuthFail 0 0 []

/-- What a member makes of a whole record (R153, R362): a record for another member that holds no address either does not decrypt and is
ignored; the key waits for T_INSTALL when the chain verifies to the Krovpor device root (`device`), the signatures of the identity key
`pub` hold, and the signed slot 0 digest is the member's own. -/
def State.takeRecord (own device : Bool) (pub d : List Byte) (s : State) : State :=
  let o := 18 + leAt d 16 2
  let at_ := fun i n => (d.drop (o + i)).take n
  match gcmOpen (ringWrap (ecdh s.wrapKey (at_ 288 97))) (List.replicate 12 0) [] (at_ 385 32) (at_ 417 16) with
  | none => s.when own State.refuseKey
  | some key =>
    if device && ecdsaVerify pub (at_ 0 192) (at_ 192 96) && ecdsaVerify pub (d.take (o + 433)) (at_ 433 96)
      && at_ 0 48 == leBytes 48 (nth s.shell.slots ⟨0, false, 0⟩ 0).digest then
      { s with cause := { s.cause with wait := some ⟨leAt d 0 2, leAt d 2 2, leAt d 4 1, leAt d 8 8, beNat key⟩ } }
    else s.refuseKey

/-- KEY (R153, R362): a fragment of a record; `device` and `pub` are what the check of its chain finds. -/
def execKey (t : Nat) (f : CFrame) (device : Bool) (pub : List Byte) (_ring : Computed) (s : State) : Outcome State Fault Refusal :=
  let (s, acts) := (s.at_ t).takeRing 0x0A f
  let run := cfAt f 20 4
  if !acts || !s.cause.heard.elim false (fun h => h.1 == run) then .next s
  else
    let i := cfAt f 24 1 % 32
    let n := cfAt f 25 1 % 64
    let frags := assoc i ((f.bytes.drop 28).take (cfLen f - 8)) s.cause.frags
    if n = 0 ∨ 32 < n ∨ n ≤ i then .next s
    else if !(List.range n).all (fun j => frags.any (fun e => e.1 == j)) then .next { s with cause := { s.cause with frags := frags } }
    else .next ({ s with cause := { s.cause with frags := [] } }.takeRecord (cfDst f != 0x7FF) device pub
      ((List.range n).flatMap (fun j => (lookup j frags).getD [])))

/-- The key and address of an enumeration come into force (R151, R362): EV074, and each zone's state goes to its peer
(R223). -/
def State.install (w : KeyWait) (s : State) : State :=
  let cids := s.cause.run.elim [] EnumRun.cids
  let old := s.par Par.causeGeneration
  let answers := (s.cause.run.elim [] (fun r => r.replies.filterMap (fun e => (e.place r.ringA w.members).map (fun a => (a, e.ident)))))
  let s := { s with cause := { s.cause with
    key := w.key, ctr := 0, wait := none, run := none, join := none, beacon := false, anon := []
    oldGen := if old = 0 then none else some ⟨old, s.cause.key, w.install + 1000000⟩
    backA := s.ring, backB := s.ring, openA := false, openB := false
    members := (s.cause.members.filter (fun (m : Member) => m.addr < w.members)).map (fun (m : Member) => { m with
      lost := false, seen := m.seen.filter (fun e => e.1 != w.gen && e.1 != 0) }) } }
  let s := ((s.setPar Par.causeAddress w.addr).setPar Par.causeMembers w.members).setPar Par.causeGeneration w.gen
  let s := s.each answers (fun a s => s.modMember a.1 (fun m => { m with ident := a.2 }))
  let s : State := if w.addr = 0 then
      { (s.setPar Par.causeTimeSource 4).setPar Par.causeTimeDist 0 with cause := { s.cause with timeLost := false, holdover := none } }
    else if s.par Par.causeTimeSource = 4 then s.setPar Par.causeTimeDist 0x7FF
    else s
  let s := ((s.endCond Ev.ringOpen 0).endCond Ev.ringOpen 1).bump Par.causeEnumerations 1
  let s := s.raise Ev.causeEnumerated 0 (leBytes 2 w.addr ++ leBytes 2 w.members)
  let s := s.sendZones
  s.each cids (fun c s => s.finish c St.ok w.members (.bytes []))

/-- KEY_INSTALL (R362): T_INSTALL comes. -/
def execKeyInstall (t : Nat) (s : State) : Outcome State Fault Refusal :=
  let s := s.at_ t
  match s.cause.wait with
  | none => .next s
  | some w => if s.ring < w.install then .next s else .next (s.install w)

/-- OLD_GENERATION_WINDOW_END (R362): 1 ms after T_INSTALL the old generation is no longer accepted. -/
def execOldGenerationWindowEnd (t : Nat) (s : State) : Outcome State Fault Refusal :=
  let s := s.at_ t
  match s.cause.oldGen with
  | none => .next s
  | some o =>
    if s.ring < o.stop then .next s
    else .next { s with cause := { s.cause with
      oldGen := none
      members := s.cause.members.map (fun (m : Member) => { m with seen := m.seen.filter (fun e => e.1 != o.gen) }) } }

/-- STARTUP_ENUMERATE (R361): once, when the four Causeway lanes are UP or CAUSE.ENUM_WAIT has passed. -/
def execStartupEnumerate (t : Nat) (s : State) : Outcome State Fault Refusal :=
  let s := s.at_ t
  let due := [eastA, eastB, westA, westB].all s.laneIsUp || decide (1000000 * s.par Par.causeEnumWait ≤ s.now)
  if s.par Par.causeEnumerator ≠ 1 ∨ s.cause.startEnum ∨ !due ∨ s.cause.run.isSome ∨ s.noRandom then .next s
  else .next ({ s with cause := { s.cause with startEnum := true } }.startEnum [])

/-- JOIN (R365): the time master notes the first one it hears. -/
def execJoin (t : Nat) (f : CFrame) (s : State) : Outcome State Fault Refusal :=
  let (s, acts) := (s.at_ t).takeRing 0x0B f
  if acts && s.address == 0 && s.cause.join.isNone then .next { s with cause := { s.cause with join := some s.now } } else .next s

/-- JOIN_SEND (R365): a member that hears BEACON frames and holds no address, every 10 ms. -/
def execJoinSend (t : Nat) (s : State) : Outcome State Fault Refusal :=
  let s := s.at_ t
  if s.address ≠ 0x7FF ∨ !s.cause.beacon ∨ !s.sendDue 0x0B 10000000 then .next s
  else .next ((s.noteSent 0x0B).sendFrameGen [eastA, westB] 0 0x0B 0x7FF (leBytes 16 ownIdent))

/-- REENUMERATE (R365): 100 ms after the first JOIN. -/
def execReenumerate (t : Nat) (s : State) : Outcome State Fault Refusal :=
  let s := s.at_ t
  match s.cause.join with
  | none => .next s
  | some j => if s.now < j + 100000000 ∨ s.cause.run.isSome ∨ s.noRandom then .next s else .next (s.startEnum [])

/-! ## Commands -/

/-- CAUSE_STATUS (*CAUSE_STATUS reply body*). -/
def effCauseStatus : Effect := fun c s =>
  needLen c 0 s <| needLearn c .oper s <|
  let ad := s.address
  let on := ad != 0x7FF
  let flags := bit (on && !s.cause.openA) 0 + bit (on && !s.cause.openB) 1 + bit s.timeValid 2 + bit s.pos.lost.isNone 3 + bit (ad == 0) 4
    + bit (on && s.par Par.causePosSource == ad) 5
  okay 0 (leBytes 2 ad ++ leBytes 2 (s.par Par.causeMembers) ++ leBytes 1 (s.par Par.causeGeneration) ++ leBytes 1 flags
    ++ leBytes 1 (maskOf ((List.range 4).filter (fun i => s.laneIsUp (eastA + i)))) ++ [0] ++ leBytes 2 (s.par Par.causeTimeDist)
    ++ leBytes 2 (s.par Par.causePosSource) ++ [0, 0, 0, 0] ++ leBytes 8 s.ring) s

/-- CAUSE_ENUMERATE (R361-R364); one that finds a run going on waits for its outcome (DESIGN CHOICE, log entry 168). -/
def effCauseEnumerate : Effect := fun c s =>
  needLen c 0 s <| needChange c .causeway s <| needOwner c s <|
  match s.cause.run with
  | some r => ({ s with cause := { s.cause with run := some { r with cids := r.cids ++ [c.cid] } } }, .pending)
  | none => needRandom s <| (s.startEnum [c.cid], .pending)

/-- The entry of one address in a member list. -/
def State.memberEntry (s : State) (a : Nat) : List Byte :=
  let m := (s.member a).getD (newMember a)
  let near := fun (x : Option Nat) => match x with
    | some l => decide (s.now < l + 1000000 * s.par Par.causePathTimeout)
    | none => false
  let own := a == s.address
  let onA := if own then !s.cause.openA else near m.heardA
  let onB := if own then !s.cause.openB else near m.heardB
  let source := if own then s.par Par.causePosSource == a else m.source == a
  leBytes 2 a ++ leBytes 1 (bit onA 0 + bit onB 1 + bit source 2 + bit (a == 0) 3) ++ [0]
    ++ leBytes 2 (if own then 0 else if onA then m.hopsA else 0x7FF) ++ leBytes 2 (if own then 0 else if onB then m.hopsB else 0x7FF)
    ++ leBytes 4 (if own then ownIdent else m.ident) ++ leBytes 1 m.lastEvent ++ [0, 0, 0]

/-- CAUSE_MEMBER_LIST. -/
def effCauseMemberList : Effect := fun c s =>
  needLen c 4 s <|
  let first := leAt c.body 0 2
  let n := leAt c.body 2 2
  if 1024 ≤ first then refuse St.valueRange 8 s
  else if n = 0 ∨ 256 < n then refuse St.valueRange 10 s
  else needLearn c .causeway s <|
  let as := ((List.range n).map (first + ·)).filter (· < 1024)
  okay 0 (leBytes 2 as.length ++ [0, 0] ++ as.flatMap s.memberEntry) s

def execCauseStatus (t : Nat) (h : Hdr) (b : List Byte) (s : State) : Outcome State Fault Refusal :=
  .next (hostRow (.causeStatus t h b) 0x0F01 t h b effCauseStatus s)

def execCauseEnumerate (t : Nat) (h : Hdr) (b : List Byte) (s : State) : Outcome State Fault Refusal :=
  .next (hostRow (.causeEnumerate t h b) 0x0F02 t h b effCauseEnumerate s)

def execCauseMemberList (t : Nat) (h : Hdr) (b : List Byte) (s : State) : Outcome State Fault Refusal :=
  .next (hostRow (.causeMemberList t h b) 0x0F03 t h b effCauseMemberList s)

end Sys2Proof.Machine
end

