-- ==== Sys2Proof/Machine/Cause.lean ====
section
/-! DEFINITION. What members of the ring tell each other: presence (R377), the web position (R370-R373), the states of
stitch zones (R223-R226, R375) and summaries of events (R376, R418). -/
namespace Sys2Proof.Machine
open Host

/-! ## Presence -/

/-- A ring returns the own BEACON (R377): EV073 where it was open. -/
def State.ringBack (ring : Nat) (s : State) : State :=
  let was := if ring = 0 then s.cause.openA else s.cause.openB
  let s := if ring = 0 then { s with cause := { s.cause with backA := s.ring, openA := false } }
    else { s with cause := { s.cause with backB := s.ring, openB := false } }
  if was then (s.endCond Ev.ringOpen ring).raise Ev.ringClosed 0 [BitVec.ofNat 8 ring] else s

/-- A peer becomes reachable (R226): the state of R223 and then the changes that waited, and what it said of its zones meanwhile. -/
def State.peerBack (peer : Nat) (s : State) : State :=
  let owed := s.comp.zones.filter (fun z => z.owed && s.zonePeer z.plane z.side == peer)
  let s := s.each ((List.range 4).flatMap (fun p => [(p, 0), (p, 1)])) (fun z s => s.when (s.zonePeer z.1 z.2 == peer) (State.sendZone z.1 z.2))
  let s := s.each owed (fun z s =>
    let s := s.modZone z.plane z.side z.j (fun z => { z with owed := false })
    if s.planePrintable z.plane (s.zoneFirst z.plane z.side + z.j) then s.zoneBack z.plane z.side z.j else s.zoneLost z.plane z.side z.j)
  s.each (s.comp.peerZones.filter (fun z => z.src == peer && z.waits)) State.takeZoneState

/-- BEACON (R359, R365, R377): presence of a member on one ring, or the return of the own. -/
def execBeacon (t : Nat) (f : CFrame) (s : State) : Outcome State Fault Refusal :=
  let s := s.at_ t
  let a := cfSrc f
  let good := cfType f == 2 && s.checkFrame f != .bad && !s.holding 12
  let own := good && a == s.address && a != 0x7FF
  let was := s.reachable a
  let held := s.holding 12
  let (s, _) := s.takeRing 2 f
  if own then .next (s.ringBack (if onRingA f then 0 else 1))
  else if s.address = 0x7FF then .next (if cfType f = 2 ∧ !held then { s with cause := { s.cause with beacon := true } } else s)
  else if !good then .next s
  else
    let s := s.modMember a (fun m => if onRingA f then { m with heardA := some s.now, hopsA := cfHops f } else { m with heardB := some s.now, hopsB := cfHops f })
    let s := s.modMember a (fun m => { m with source := cfAt f 20 2 % 2048, flags := cfAt f 22 1 % 8, lost := false })
    .next (s.when (!was) (State.peerBack a))

/-- BEACON_SEND (R377): an addressed member, every 100 µs. The enumerator is the member at address 0 (DEDUCED, log entry 172). -/
def execBeaconSend (t : Nat) (s : State) : Outcome State Fault Refusal :=
  let s := s.at_ t
  if s.address = 0x7FF ∨ !s.sendDue 2 100000 then .next s
  else .next ((s.noteSent 2).sendRing 2 0x7FF (leBytes 2 (s.par Par.causePosSource)
    ++ leBytes 1 (bit (s.address == 0) 0 + bit s.timeValid 1 + bit s.pos.lost.isNone 2) ++ [0]))

/-- RING_OPEN (R377): the own BEACON has not returned on a ring, 0 A or 1 B, for CAUSE.PATH_TIMEOUT. -/
def execRingOpen (t ring : Nat) (s : State) : Outcome State Fault Refusal :=
  let s := s.at_ t
  let back := if ring = 0 then s.cause.backA else s.cause.backB
  let open_ := if ring = 0 then s.cause.openA else s.cause.openB
  if 2 ≤ ring ∨ s.address = 0x7FF ∨ open_ ∨ s.ring < back + 1000000 * s.par Par.causePathTimeout then .next s
  else
    let s := if ring = 0 then { s with cause := { s.cause with openA := true } } else { s with cause := { s.cause with openB := true } }
    .next (s.raiseKeyed Ev.ringOpen 0 ring [BitVec.ofNat 8 ring])

/-- CAUSE_MEMBER_LOST (R377): a member that was heard is heard on neither ring for CAUSE.PATH_TIMEOUT. -/
def execCauseMemberLost (t addr : Nat) (s : State) : Outcome State Fault Refusal :=
  let s := s.at_ t
  match s.member addr with
  | none => .next s
  | some m =>
    if m.lost ∨ (m.heardA.isNone ∧ m.heardB.isNone) ∨ s.reachable addr then .next s
    else .next ((s.modMember addr (fun m => { m with lost := true })).raise Ev.causeMemberLost 0 (leBytes 2 addr))

/-! ## Position -/

/-- POSITION (R371-R373): a count sample of the position source. -/
def execPosition (t : Nat) (f : CFrame) (s : State) : Outcome State Fault Refusal :=
  let (s, acts) := (s.at_ t).takeRing 3 f
  let tk := cfAt f 28 8
  let newer := match s.cause.posAt with
    | some l => decide (l < tk)
    | none => true
  if !acts || s.ownPos || cfSrc f != s.par Par.causePosSource || !newer then .next s
  else
    let pk := signed 64 (cfAt f 20 8)
    let dt := cfAt f 36 4
    let dp := signed 32 (cfAt f 40 4)
    let mark := signed 64 (cfAt f 44 8)
    let flags := cfAt f 56 1
    let still := bitAt flags 1 || bitAt flags 2 || dt == 0 || decide (dp ≤ 0)
    let p := if still then max pk s.pos.p else pk
    let s := { s with
      pos := { s.pos with p := p, tK := tk, dt := dt, dp := dp, stopped := still, hold := bitAt flags 1, quiet := false }
      cause := { s.cause with posAt := some tk, posHeard := s.ring } }.setPar Par.posLineRate (cfAt f 52 4)
    let s := s.when (bitAt flags 1) State.stallCams
    let hw := max s.pos.hw (max (linesOf p) mark)
    let s := if s.pos.hw < hw then { s with pos := { s.pos with hw := hw, hwP := p } } else s
    let s := if s.reached mark then s
      else { s with fire := { s.fire with heads := s.fire.heads.map (fun (h : FireHead) => { h with last := max h.last mark }) } }
    if bitAt flags 0 then
      .next ((s.when s.pos.lost.isNone (State.bump Par.causePosTimeouts 1)).losePos 8 (cfSrc f))
    else if s.pos.lost.isSome && !bitAt flags 1 && s.timeValid then .next (s.trustPos.endCond Ev.ringTimeLost 0)
    else .next s

/-- POSITION_SEND (R370): the position source, every CAUSE.POS_PERIOD while its ring time is valid. -/
def execPositionSend (t : Nat) (s : State) : Outcome State Fault Refusal :=
  let s := s.at_ t
  if s.address = 0x7FF ∨ s.par Par.causePosSource ≠ s.address ∨ !s.timeValid ∨ !s.sendDue 3 (1000 * s.par Par.causePosPeriod) then .next s
  else
    let q := s.pos
    .next ((s.noteSent 3).sendRing 3 0x7FF (leBytes 8 (twos 64 q.p) ++ leBytes 8 q.tK ++ leBytes 4 (min q.dt (2 ^ 32 - 1)) ++ leBytes 4 (twos 32 q.dp)
      ++ leBytes 8 (twos 64 q.hw) ++ leBytes 4 (s.par Par.posLineRate)
      ++ leBytes 1 (bit q.lost.isSome 0 + bit q.hold 1 + bit q.stopped 2) ++ [0, 0, 0]))

/-- POS_TIMEOUT_EXPIRY (R373): no POSITION accepted for CAUSE.POS_TIMEOUT. -/
def execPosTimeoutExpiry (t : Nat) (s : State) : Outcome State Fault Refusal :=
  let s := s.at_ t
  if s.ring < s.cause.posHeard + 1000 * s.par Par.causePosTimeout then .next s else .next s.losePosRing

/-! ## Stitch zones -/

/-- Plane and own side of the zone that a stitch frame names, when that zone's peer is the sender. -/
def State.zoneNamed (s : State) (f : CFrame) : Option (Nat × Nat) :=
  let z := cfAt f 20 1
  let plane := z % 4
  let side := 1 - bitsAt z 2 1
  if s.zonePeer plane side = cfSrc f ∧ cfSrc f ≠ 0x7FF then some (plane, side) else none

/-- The zone column that a stitch frame names, of a peer that is reachable (R226). -/
def State.zoneColNamed (s : State) (f : CFrame) : Option (Nat × Nat × Nat) :=
  match s.zoneNamed f with
  | some (plane, side) =>
    let j := cfAt f 21 1
    if j < s.zoneCols plane side ∧ s.reachable (cfSrc f) then some (plane, side, j) else none
  | none => none

/-- STITCH_CHANGE (R221, R224): the peer's column becomes unprintable at E, or at the next line boundary when that of E has passed. -/
def execStitchChange (t : Nat) (f : CFrame) (s : State) : Outcome State Fault Refusal :=
  let (s, acts) := (s.at_ t).takeRing 0x21 f
  match s.zoneColNamed f with
  | none => .next s
  | some (plane, side, j) =>
    if !acts then .next s
    else
      let e := signed 64 (cfAt f 24 8)
      let here := s.zoneBoundary plane (s.zoneFirst plane side + j)
      let late := decide (e ≤ here)
      let e := if late then here + 1 else e
      let on := bitAt (cfAt f 22 1) 0
      let s := (s.when late (State.bump Par.compStitchLate 1)).markPeer plane side j on
      if on then .next (s.modZone plane side j (fun z => if z.peer then z else { z with peerTo := some e }))
      else .next (s.modZone plane side j (fun z => { z with peer := false, peerFrom := e, peerTo := none }))

/-- STITCH_OFFER (R225): acknowledged only before the own line boundary of E; the member stops taking the whole column
from E. -/
def execStitchOffer (t : Nat) (f : CFrame) (s : State) : Outcome State Fault Refusal :=
  let (s, acts) := (s.at_ t).takeRing 0x22 f
  match s.zoneColNamed f with
  | none => .next s
  | some (plane, side, j) =>
    let e := signed 64 (cfAt f 24 8)
    if !acts || decide (e ≤ s.zoneBoundary plane (s.zoneFirst plane side + j)) then .next s
    else
      let s := (s.markPeer plane side j true).modZone plane side j (fun z => if z.peer then z else { z with peerTo := some (z.peerTo.elim e (min e)) })
      .next (s.sendRing 0x23 (cfSrc f) (stitchBody plane side j 1 e))

/-- STITCH_ACK (R225): in time, the member resumes its share from E; late, it is counted and the restore offered again. -/
def execStitchAck (t : Nat) (f : CFrame) (s : State) : Outcome State Fault Refusal :=
  let (s, acts) := (s.at_ t).takeRing 0x23 f
  match s.zoneColNamed f with
  | none => .next s
  | some (plane, side, j) =>
    let e := signed 64 (cfAt f 24 8)
    let mine := (s.zoneCol plane side j).offer == some e
    if !acts || !bitAt (cfAt f 22 1) 0 then .next s
    else if e ≤ s.zoneBoundary plane (s.zoneFirst plane side + j) then
      let s := s.bump Par.compStitchLate 1
      if mine then .next ((s.modZone plane side j (fun z => { z with offer := none })).zoneBack plane side j) else .next s
    else if mine then .next (s.modZone plane side j (fun z => { z with offer := none, own := true, ownTo := some e, agreed := true }))
    else .next s

/-- ZONE_STATE (R223, R375): widths and position sources are compared; where they agree, the peer's printable columns are
taken. One from a peer that is unreachable waits (R226). -/
def execZoneState (t : Nat) (f : CFrame) (s : State) : Outcome State Fault Refusal :=
  let (s, acts) := (s.at_ t).takeRing 0x20 f
  if !acts || cfSrc f == 0x7FF then .next s
  else
    let b := cfAt f 20 1
    let z : PeerZone := ⟨b % 4, 1 - bitsAt b 2 1, cfSrc f, cfAt f 22 2 % 512, cfAt f 24 2 % 2048, cfAt f 28 32, true⟩
    let rest := s.comp.peerZones.filter (fun y => !(y.plane == z.plane && y.side == z.side && y.src == z.src))
    let s := { s with comp := { s.comp with peerZones := z :: rest } }
    .next (s.when (s.reachable z.src) (State.takeZoneState z))

/-- PEER_PATH_TIMEOUT (R226, R375): no BEACON of a peer on either ring; offers to it wait until it is reachable. -/
def execPeerPathTimeout (t peer : Nat) (s : State) : Outcome State Fault Refusal :=
  let s := s.at_ t
  if s.reachable peer then .next s
  else
    .next (s.each (s.comp.zones.filter (fun z => z.offer.isSome && s.zonePeer z.plane z.side == peer)) (fun z s =>
      s.modZone z.plane z.side z.j (fun z => { z with offer := none, owed := true })))

/-! ## Summaries of events -/

/-- EVENT_SUMMARY (R418): logged with RING set, and delivered to the sessions that subscribed with RING. One whose EVENT or SERVICE is
not listed is malformed and ignored (R7). -/
def execEventSummary (t : Nat) (f : CFrame) (s : State) : Outcome State Fault Refusal :=
  let (s, acts) := (s.at_ t).takeRing 0x30 f
  if !acts then .next s
  else
    let ev := cfAt f 20 1
    if (evRow ev).isNone ∨ cfAt f 21 1 = 0 ∨ 0x15 < cfAt f 21 1 then .next s
    else
    let s := s.modMember (cfSrc f) (fun m => { m with lastEvent := ev })
    .next (s.record 6 15 0 (leBytes 2 (cfSrc f) ++ leBytes 1 ev ++ leBytes 1 (cfAt f 21 1) ++ leBytes 1 (cfAt f 22 1) ++ leBytes 2 (cfAt f 24 2)))

/-- EVENT_SUMMARY_SEND (R376): the second after the latest summary of an event ends with raisings gathered. -/
def execEventSummarySend (t ev : Nat) (s : State) : Outcome State Fault Refusal :=
  let s := s.at_ t
  match s.cause.sums.find? (fun m => m.ev == ev) with
  | none => .next s
  | some m =>
    let due := match m.sent with
      | some l => decide (l + 1000000000 ≤ s.now)
      | none => true
    if m.count = 0 ∨ !due then .next s
    else
      let sums := s.cause.sums.map (fun (x : Summary) => if x.ev == ev then { x with count := 0, sent := some s.now } else x)
      .next ({ s with cause := { s.cause with sums := sums } }.sendSummary m)

end Sys2Proof.Machine
end

