-- ==== Sys2Proof/Machine/Fresy.lean ====
section
/-! DEFINITION. Fresy: frames, handshakes, sessions, retransmission, striping and failover (03_fresy_link.md), and the
delivery of EVENT frames (R416). -/
namespace Sys2Proof.Machine
open Host

/-- Distance of a sequence number ahead of another, modulo 2^32. -/
def ahead (a b : Nat) : Nat := (a + 2 ^ 32 - b % 2 ^ 32) % 2 ^ 32

/-- Bytes that a frame needs for its header, payload and a GCM tag of `tag` bytes, destination address through FCS (R54). -/
def frameNeed (tag : Nat) (f : Frame) : Nat := 14 + (if f.vlan.isSome then 4 else 0) + 32 + f.len + tag + 4

/-- The counter that R54 and the *Port counters* give a frame that is not accepted; `none` for an accepted frame. A session frame has a
tag of 16 bytes, a handshake frame none (R57). -/
def State.filterFrame (tag : Nat) (f : Frame) (s : State) : Option Nat :=
  let at_ := fun id => some (Par.at_ id f.port)
  let mode := s.par (Par.at_ Par.fresyUVlanMode f.port)
  if f.pause then at_ Par.fresyURxPause
  else if !f.fcsOk then at_ Par.fresyURxFcsErr
  else if f.size < 64 ∨ 9216 < f.size then at_ Par.fresyURxSizeErr
  else if f.dst ≠ s.par (Par.at_ Par.fresyUMac f.port) ∨ bitAt f.src 40 ∨ f.ethertype ≠ s.par Par.fresyEthertype then at_ Par.fresyURxOther
  else if f.vlan.elim (mode == 1) (fun v => mode == 0 || v != s.par (Par.at_ Par.fresyUVid f.port)) then at_ Par.fresyURxOther
  else if f.size < frameNeed tag f then at_ Par.fresyURxSizeErr
  else none

/-- A port. -/
def State.port (s : State) (p : Nat) : Port := nth s.ports ⟨false, 0, 0, 0⟩ p

/-- Takes a frame at a port (R54): `none` where it is discarded, and counted. Save mode and reset turn the ports off (R68, R442), and
nothing comes from an island that resynchronises (R28). -/
def State.acceptFrame (tag : Nat) (f : Frame) (s : State) : State × Bool :=
  if !(s.port f.port).up || 3 ≤ s.power.sag || s.power.down || s.holding f.port then (s, false)
  else match s.filterFrame tag f with
    | some c => (s.bump c 1, false)
    | none =>
      let s := { s with ports := modNth (fun q => { q with lastFrame := s.now }) f.port s.ports }
      ((s.bump (Par.at_ Par.fresyURxFrames f.port) 1).bump (Par.at_ Par.fresyURxBytes f.port) f.size, true)

/-- A frame whose tag, session or epoch fails (R57). -/
def State.authFail (p : Nat) (s : State) : State :=
  (s.bump (Par.at_ Par.fresyURxAuthFail p) 1).raiseLimited Ev.fresyAuthFail p p []

/-! ## Receiving on a session -/

/-- Whether the 64 ms after the first frame of a receive epoch still run (R56). -/
def Session.rxRuns (now : Nat) (x : Session) : Bool := match x.rxWindow with
  | some w => decide (now ≤ w)
  | none => false

/-- The key epoch under which the receive side takes a frame's EPOCH (R56): the present one, the one before within the 64 ms, or after
them the next. -/
def Session.rxEpoch (now : Nat) (e : Bool) (x : Session) : Option Epoch :=
  if e = x.epochRx then some x.rx else if x.rxRuns now then x.rxOld else some (Epoch.of x.rx.next)

/-- The payload of a session frame in clear (R56, R57); none where its EPOCH is not accepted or its tag fails. -/
def Session.openFrame (now ftype : Nat) (f : Frame) (payload : List Byte) (x : Session) : Option (List Byte) :=
  if f.tag.length ≠ 16 then none
  else (x.rxEpoch now f.epoch).bind (fun e => gcmOpen e.key (e.nonce f.txc)
    (fresyHeader f.ver ftype f.rtx f.ackreq f.epoch f.session f.seq f.ack f.sack f.credit f.len f.ports f.txc f.rsv) (payload.take f.len) f.tag)

/-- The receive side after a frame of an EPOCH and TXC (R56, SHELL[s].RX_TXC). -/
def Session.takeEpoch (now : Nat) (e : Bool) (txc : Nat) (x : Session) : Session :=
  if e = x.epochRx then { x with rxTxc := max x.rxTxc txc }
  else if x.rxRuns now then x
  else { x with
    epochRx := e, rxTxc := txc, rx := Epoch.of x.rx.next, rxOld := some x.rx, rxWindow := some (now + 64000000)
    rekeys := min 65535 (x.rekeys + 1) }

/-- Whether an acknowledgement of (ACK, SACK) covers a sent frame (R62). -/
def ackCovers (ack sack : Nat) (f : SentFrame) : Bool :=
  ahead ack f.seq < 2 ^ 31 || (let d := ahead f.seq ((ack + 2) % 2 ^ 32); d < 64 && bitAt sack d)

/-- The next port up in a set after the one used last, in the order F0 to F3 (R72). -/
def nextPort (ps : List Nat) (after : Nat) : Option Nat :=
  ((List.range 4).map (fun i => (after + 1 + i) % 4)).find? ps.contains

/-- Sends an unacknowledged frame again (R65, R66): the next port, a new TXC, one more transmission. -/
def State.resend (n : Nat) (f : SentFrame) (s : State) : State :=
  match s.session n with
  | none => s
  | some x =>
    match nextPort (s.portSet x) f.port with
    | none => s
    | some p =>
      let s := s.modSession n (fun x => { x with unacked := x.unacked.map (fun (g : SentFrame) => if g.seq == f.seq then
        { g with port := p, tries := g.tries + 1, due := s.now + g.nextWait, nextWait := 2 * g.nextWait, last := s.now } else g) })
      (s.sendFrame n p (match f.payload with | .replies _ => 8 | .events _ => 10 | .close => 11) f.seq true (some f.payload)).bump
        (Par.at_ Par.fresyUTxRetransmit p) 1

/-- Marks as delivered the results that acknowledged frames carry (R106). -/
def State.markDelivered (fs : List SentFrame) (s : State) : State :=
  let cids := fs.flatMap (fun f => match f.payload with | .replies rs => rs.filterMap Reply.carries | _ => [])
  { s with results := s.results.map (fun (r : Result) => if cids.contains r.cid then { r with delivered := true } else r) }

/-- Takes ACK, SACK and CREDIT of an authentic frame (R64), and retransmits early what SACK shows missing (R66). -/
def State.takeAck (n : Nat) (f : Frame) (s : State) : State :=
  match s.session n with
  | none => s
  | some x =>
    let ack := if ahead f.ack x.lastAck < 2 ^ 31 then f.ack else x.lastAck
    let sack := if ack = f.ack then f.sack else 0
    let d := ahead f.credit x.creditLimit
    let limit := if d < 2 ^ 31 then x.creditLimit + d else x.creditLimit
    let gone := x.unacked.filter (ackCovers ack sack)
    let left := x.unacked.filter (fun g => !ackCovers ack sack g)
    let s := s.modSession n (fun x => { x with lastAck := ack, creditLimit := limit, unacked := left })
    let s := s.markDelivered gone
    let missing := left.filter (fun g => g.tries < 6 && g.last + 50000 ≤ s.now &&
      4 ≤ ((List.range 64).filter (fun i => bitAt sack i && (let e := ahead ((ack + 2 + i) % 2 ^ 32) g.seq; 0 < e && e < 2 ^ 31))).length)
    let s := s.each missing (State.resend n)
    s.flush (x.txq.length + 1) n

/-- Receive memory that a session may be granted (R71): 2 MiB in 64-byte blocks less what the others hold, each at least
its 144. -/
def State.creditRoom (s : State) (n : Nat) : Nat :=
  32768 - ((s.sessions.filter (fun y => y.num != n)).map (fun y => max 144 (y.grant - y.blocksTaken))).sum

/-- Grants credit (R70): up to FRESY.RX_CREDIT above the blocks that the packet layer took, within the free memory, and at least 144
above the blocks received; CREDIT only advances. -/
def State.regrant (n : Nat) (s : State) : State :=
  let room := min (s.par Par.fresyRxCredit) (s.creditRoom n)
  s.modSession n (fun x => { x with grant := max x.grant (max (x.blocksTaken + x.blocksHeld + 144) (x.blocksTaken + room)) })

/-- The opcodes of the *Opcodes* table (R110). -/
def opcodeCounts : List (Nat × Nat × Nat) :=
  [(1, 1, 10), (2, 1, 6), (3, 1, 2), (4, 1, 8), (5, 1, 9), (6, 1, 2), (7, 1, 1), (8, 1, 5), (9, 1, 3), (10, 1, 1), (11, 1, 4),
   (12, 1, 3), (13, 1, 3), (14, 1, 4), (15, 1, 3), (16, 1, 2), (17, 1, 4), (18, 1, 3), (19, 1, 4), (20, 1, 3), (21, 1, 2)]

/-- Whether an opcode is listed (R110). -/
def opcodeListed (op : Nat) : Bool := opcodeCounts.any (fun r => op / 256 == r.1 && r.2.1 ≤ op % 256 && op % 256 ≤ r.2.2)

/-- A command of an unlisted opcode is refused in its turn (R86, R110). -/
def State.refuseUnknown (cid : Nat) (s : State) : State :=
  match s.flight cid with
  | none => s
  | some f => s.when (!opcodeListed f.opcode && !s.mustWait f) (State.finish cid St.unknownOpcode 0 (.bytes []))

/-- Parses and takes the packets of a frame in order (R79-R81): a packet that fails the packing check stops the rest. -/
def State.takePackets : Nat → Session → Nat → List Byte → State → State
  | 0, _, _, _, s => s
  | fuel + 1, x, o, bs, s =>
    if bs.isEmpty then s
    else
      let len := leAt bs 0 2
      if bs.length < 8 ∨ len < 8 ∨ 9120 < len ∨ len % 4 ≠ 0 ∨ bs.length < len then
        s.sendReply x.num ⟨0, 0xFFFF, true, false, false, St.badPacking, 1000, o, .bytes [], none⟩
      else
        let op := leAt bs 2 2
        let (s, cid) := s.arrive x (leAt bs 4 2) op (leAt bs 6 1) (leAt bs 7 1) ((bs.take len).drop 8)
        let s := match cid with
          | some c => s.refuseUnknown c
          | none => s
        State.takePackets fuel x (o + len) (bs.drop len) s

/-- The packet layer takes one frame (R63, R70, R76): its blocks are freed, and its DATA packets are met or its CLOSE ends the
session. -/
def State.takePayload (n : Nat) (h : HeldFrame) (s : State) : State :=
  let s := (s.modSession n (fun x => { x with blocksTaken := x.blocksTaken + h.blocks, blocksHeld := x.blocksHeld - h.blocks })).regrant n
  match s.session n with
  | none => s
  | some x =>
    if h.ftype = 11 then
      let s := match s.bestPort (s.portSet x) with
        | some p => s.sendFrame n p 9 0 false none
        | none => s
      s.endSession n 0
    else s.takePackets (h.payload.length + 1) x 0 h.payload

/-- A frame comes in order (R63): the packet layer takes it, or, while the command pair takes no packets, it stays in receive credit
(R13). -/
def State.takeFrame (n : Nat) (h : HeldFrame) (s : State) : State :=
  let s := s.modSession n (fun x => { x with rxNext := (x.rxNext + 1) % 2 ^ 32, ackDue := true, blocksHeld := x.blocksHeld + h.blocks })
  if s.cmdHeld then { s with parked := s.parked ++ [Parked.frame n h] : State }.regrant n else s.takePayload n h

/-- Takes the held frames whose gap has closed. -/
def State.takeHeld : Nat → Nat → State → State
  | 0, _, s => s
  | fuel + 1, n, s =>
    match s.session n with
    | none => s
    | some x =>
      match x.held.find? (fun h => h.seq == x.rxNext) with
      | none => s
      | some h =>
        let s := s.modSession n (fun x => { x with held := x.held.filter (fun g => g.seq != h.seq), blocksHeld := x.blocksHeld - h.blocks })
        State.takeHeld fuel n (s.takeFrame n h)

/-- A sequenced frame (R62, R63, R69-R71): duplicate, beyond the window, beyond credit, in order, or held. -/
def State.sequenced (n : Nat) (f : Frame) (ftype : Nat) (payload : List Byte) (s : State) : State :=
  match s.session n with
  | none => s
  | some x =>
    let d := ahead f.seq x.rxNext
    let blocks := ceilDiv f.size 64
    if 2 ^ 31 ≤ d ∨ x.held.any (fun h => h.seq == f.seq) then
      (s.modSession n (fun x => { x with ackDue := true })).bump (Par.at_ Par.fresyURxDup f.port) 1
    else if 64 < d then s.bump (Par.at_ Par.fresyURxWindow f.port) 1
    else if x.grant < x.blocksTaken + x.blocksHeld + blocks then s.bump (Par.at_ Par.fresyURxCreditViol f.port) 1
    else
      let h : HeldFrame := ⟨f.seq, ftype, payload, blocks⟩
      if d = 0 then (s.takeFrame n h).takeHeld 65 n
      else (s.modSession n (fun x => { x with held := x.held ++ [h], blocksHeld := x.blocksHeld + blocks, ackDue := true })).regrant n

/-- Acknowledges what a frame brought, unless a frame sent meanwhile already did (R64). -/
def State.ackNow (n : Nat) (f : Frame) (s : State) : State :=
  match s.session n with
  | none => s
  | some x =>
    if x.ackDue || f.ackreq then
      match s.bestPort (s.portSet x) with
      | some p => s.sendFrame n p 9 0 false none
      | none => s
    else s

/-- The port set of each session after a change of the ports (R72-R74): a set that shrank raises EV011, a set without
ports starts the ride-through, and a set that returns goes on with its timers where they stood. -/
def State.refreshSet (lost : Option Nat) (n : Nat) (s : State) : State :=
  match s.session n with
  | none => s
  | some x =>
    let set := maskOf (s.portSet x)
    let first := (List.range 4).filter (fun p => bitAt set p && !s.sessions.any (fun y => bitAt y.setPorts p))
    let s := { s with ports := s.ports.zipIdx.map (fun ((q, p) : Port × Nat) => if first.contains p then { q with since := s.now } else q) }
    let s := match lost with
      | some p => s.when (bitAt x.setPorts p && !bitAt set p) (State.raise Ev.fresyFailover p [BitVec.ofNat 8 n])
      | none => s
    if set = 0 then s.modSession n (fun x => { x with setPorts := 0, downSince := some (x.downSince.getD s.now) })
    else
      match x.downSince with
      | none => s.modSession n (fun x => { x with setPorts := set })
      | some d => s.modSession n (fun x => { x with
          setPorts := set, downSince := none
          unacked := x.unacked.map (fun (g : SentFrame) => { g with due := g.due + (s.now - d) }) })

/-- Sends again, at once and without an extra transmission, frames that must leave on another port (R73, R65). -/
def State.resendAll (n : Nat) (which : SentFrame → Bool) (s : State) : State :=
  match s.session n with
  | none => s
  | some x =>
    s.each (x.unacked.filter which) (fun f s =>
      match nextPort (s.portSet x) f.port with
      | none => s
      | some p =>
        let s := s.modSession n (fun x => { x with unacked := x.unacked.map (fun (g : SentFrame) => if g.seq == f.seq then { g with port := p } else g) })
        (s.sendFrame n p (match f.payload with | .replies _ => 8 | .events _ => 10 | .close => 11) f.seq true (some f.payload)).bump
          (Par.at_ Par.fresyUTxRetransmit p) 1)

/-- A port goes down (R73): EV010, LINK_DOWNS, the sets shrink, and its frames leave on the remaining ports. -/
def State.portDown (p : Nat) (s : State) : State :=
  if !(s.port p).up then s
  else
    let s := { s with ports := modNth (fun q => { q with up := false }) p s.ports }
    let s := (s.bump (Par.at_ Par.fresyULinkDowns p) 1).raise Ev.fresyPortDown p []
    let ns := s.sessions.map Session.num
    let s := s.each ns (State.refreshSet (some p))
    s.each ns (fun n s => s.resendAll n (fun f => f.port == p))

/-- A port comes up and rejoins the sets (R74, R65); a port that FRESY[p].ENABLE holds down stays down. -/
def State.portUp (p : Nat) (s : State) : State :=
  if (s.port p).up || s.par (Par.at_ Par.fresyUEnable p) == 0 || 4 ≤ p then s
  else
    let was := (s.sessions.filter (fun x => x.downSince.isSome)).map Session.num
    let s := { s with ports := modNth (fun q => { q with up := true, lastFrame := s.now }) p s.ports }
    let s := (s.endCond Ev.fresyPortDown p).each (s.sessions.map Session.num) (State.refreshSet none)
    let s := s.each was (fun n s => s.resendAll n (fun _ => true))
    s.each (s.sessions.map Session.num) (fun n s => s.flush 66 n)

/-- A frame of a session (R54, R57): TYPE 8 DATA, 9 ACK or 11 CLOSE. Its bytes after the header are ciphertext and tag. -/
def State.sessionFrame (f : Frame) (ftype : Nat) (payload : List Byte) (s : State) : State :=
  match s.acceptFrame 16 f with
  | (s, false) => s
  | (s, true) =>
    if f.ver ≠ 1 ∨ 9120 < f.len ∨ (ftype = 9 ∧ f.len ≠ 0) then s.bump (Par.at_ Par.fresyURxAuthFail f.port) 1
    else
      match s.session f.session with
      | none => s.authFail f.port
      | some x =>
        match x.openFrame s.now ftype f payload with
        | none => s.authFail f.port
        | some plain =>
          let n := f.session
          let s := s.modSession n (fun x => { (x.takeEpoch s.now f.epoch f.txc) with
            hostPorts := f.ports % 16, macs := assoc f.port f.src x.macs })
          let s := s.refreshSet none n
          let s := s.takeAck n f
          (s.when (ftype != 9) (State.sequenced n f ftype plain)).ackNow n f

/-! ## Handshakes -/

/-- Whether a certificate role may request a role (R129). -/
def mayRequest (cert role : Nat) : Bool :=
  match cert with
  | 1 => role == 1 || role == 2 || role == 3 || role == 4
  | 2 => role == 2 || role == 4
  | 3 => role == 3 || role == 4
  | 4 => role == 4
  | 5 => role == 5
  | _ => false

/-- Whether a handshake is the commissioning session of R136. -/
def State.commissioning (h : Handshake) (s : State) : Bool :=
  s.par Par.shellCommissionState == 1 && (nth s.shell.slots ⟨0, false, 0⟩ 0).kind == 0 && h.chain.count == 1 && h.chain.role == 1

/-- Whether a chain verifies for a session (R132, R133, R136). -/
def State.chainOk (h : Handshake) (s : State) : Bool :=
  let c := h.chain
  c.valid && c.notBefore ≤ s.utcEstimate + 86400 && s.utcEstimate ≤ c.notAfter && 1 ≤ c.role && c.role ≤ 5 &&
    (s.commissioning h ||
      (2 ≤ c.count && c.count ≤ 4 &&
        (if c.role = 5 then c.vendorRoot else s.shell.slots.any (fun t => t.kind == 1 && !t.revoked && t.digest == c.root))))

/-- The lowest free session number (R60). -/
def State.freeSession (s : State) : Option Nat :=
  ((List.range 16).map (· + 1)).find? (fun n => !s.sessions.any (fun x => x.num == n))

/-- Sends a handshake frame (R55, R58): its header has SESSION 0 and the fields that a handshake has no use for at 0 (log entry 142). -/
def State.sendShake (port dst ftype id : Nat) (payload tag : List Byte) (s : State) : State :=
  let wire := fresyHeader 1 ftype false false false 0 0 0 0 0 (payload.length + tag.length) 0 0 0 ++ payload ++ tag
  let len := max 64 (14 + (if (s.vlanOf port).isSome then 4 else 0) + wire.length + 4)
  let s := s.emit (.handshake port dst ftype id (s.vlanOf port) wire)
  let s := { s with ports := modNth (fun q => { q with drainAt := max q.drainAt (25 * s.now) + 8 * len }) port s.ports }
  (s.bump (Par.at_ Par.fresyUTxFrames port) 1).bump (Par.at_ Par.fresyUTxBytes port) len

/-- Sends REJECT and raises EV014 (R59). -/
def State.reject (port src id st : Nat) (s : State) : State :=
  (s.sendShake port src 5 id (leBytes 8 id ++ leBytes 2 st) []).raise Ev.handshakeRefused port (leBytes 2 st)

/-- The label that both signatures of a handshake cover first (R139). -/
def shakeLabel : List Byte := ascii "alaten fresy v1"

/-- The secrets of a handshake (R139): the host's ephemeral key with its own give `z`, the nonces salt it, and the transcript from HELLO
through PROVE binds both directions; none where the host's key is no point of the curve. Host to AL716 stands first. -/
def Handshake.secrets (h : Handshake) (prove : List Byte) : Option (Epoch × Epoch) :=
  (ecdh h.eph ((h.hello.drop 12).take 97)).map (fun z =>
    let prk := hkdfExtract ((h.hello.drop 109).take 32 ++ (h.challenge.drop 105).take 32) z
    let th := sha384 (h.hello ++ h.challenge ++ prove)
    (Epoch.of (hkdfExpand prk (ascii "alaten h2d" ++ th) 48), Epoch.of (hkdfExpand prk (ascii "alaten d2h" ++ th) 48)))

/-- Whether the signature of a PROVE holds (R139): over the label, HELLO and the whole CHALLENGE, under the leaf's key. -/
def Handshake.proved (h : Handshake) (prove : List Byte) : Bool :=
  ecdsaVerify h.chain.pub (shakeLabel ++ h.hello ++ h.challenge) ((prove.drop 8).take 96)

/-- What the check of a PROVE finds (R59, R60, R129, R136, R138, R158): the status of a REJECT, or none. The order of its checks is the
model's (DESIGN CHOICE, log entry 143). -/
def State.proveCheck (h : Handshake) (prove : List Byte) (s : State) : Option Nat :=
  if s.noRandom then some St.shellFault
  else if !s.chainOk h then some St.certInvalid
  else if !h.proved prove || (h.secrets prove).isNone then some St.signatureInvalid
  else if !mayRequest h.chain.role h.role then some St.roleNotPermitted
  else if h.role = roleVendor ∧ s.par Par.shellCommissionState ≠ 3 then some St.roleNotPermitted
  else if s.commissioning h && (h.role != 1 || s.sessions.any Session.commissioning) then some St.roleNotPermitted
  else if s.freeSession.isNone then some St.sessionsFull
  else none

/-- Opens a session (R60, R61, R139, R499): the lowest free number, random initial sequence numbers, a credit of the present grant, the
key epochs 0, and ACCEPT sealed at TXC 0 over its header and payload, which stays in clear (log entry 142). -/
def State.openSession (h : Handshake) (n : Nat) (keys : Epoch × Epoch) (s : State) : State :=
  let rx := (Config.random s.draws).toNat % 2 ^ 32
  let tx := (Config.random (s.draws + 1)).toNat % 2 ^ 32
  let x : Session := {
    num := n, role := h.role, subject := leNat (sha384 h.chain.pub), root := h.chain.root, commissioning := s.commissioning h
    hostPorts := h.hostPorts % 16, macs := [(h.port, h.src)], opened := s.ring, lastCmd := s.ring, lastCmdAt := s.now
    commands := 0, txSeq := tx, rxNext := rx, lastAck := (tx + 2 ^ 32 - 1) % 2 ^ 32, held := [], unacked := [], txq := []
    creditLimit := 0, blocksSent := 0, grant := 0, blocksTaken := 0, blocksHeld := 0, txc := 1, rxTxc := 0
    tx := keys.2, rx := keys.1, rxOld := none, epochTx := false, epochRx := false, txNew := false
    rxWindow := none, txWindow := none, rekeyHeld := false, rekeys := 0
    portTx := List.replicate 4 s.now, ackDue := false, setPorts := 0, downSince := none
    subMask := 0, subRing := false, evq := [], dropped := 0, stage := [], capture := [], capturePod := none, failures := [] }
  let s := { s with draws := s.draws + 2, sessions := s.sessions ++ [x] }
  let s := (s.regrant n).refreshSet none n
  let ports := (s.session n).elim 0 Session.setPorts
  let payload := leBytes 8 h.id ++ leBytes 1 n ++ leBytes 1 h.role ++ leBytes 1 ports ++ [0] ++ leBytes 4 rx ++ leBytes 4 tx
    ++ leBytes 4 ((s.session n).elim 0 Session.grant)
  let aad := fresyHeader 1 4 false false false 0 0 0 0 0 (payload.length + 16) 0 0 0 ++ payload
  s.sendShake h.port h.src 4 h.id payload (gcmTag keys.2.key (keys.2.nonce 0) aad [])

/-- The CHALLENGE payload for a HELLO (*Handshake payloads*, R139), from the ephemeral key, a nonce and a signature secret. -/
def State.challenge (s : State) (hello : List Byte) (eph : Nat) (nonce : List Byte) (k : Nat) : List Byte :=
  let body := hello.take 8 ++ ecPublic eph ++ nonce ++ leBytes 2 ownChain.length ++ ownChain
  body ++ ecdsaSign s.identityKey k (shakeLabel ++ hello ++ body)

/-- Whether the payload of a HELLO has the form of *Handshake payloads*: its chain at most 8,000 bytes (R58), and nothing after it. -/
def helloOk (f : Frame) (p : List Byte) : Bool :=
  f.ver == 1 && f.session == 0 && decide (leAt p 141 2 ≤ 8000) && p.length == f.len && p.length == 143 + leAt p 141 2

/-- HELLO (R58, R59): from phase SESSIONS on (R439), CHALLENGE, the same CHALLENGE again for the same key (its 200 ms run from the
first: DESIGN CHOICE, log entry 143), or REJECT 0x0415 at four handshakes. A HELLO that has not its form counts as a malformed header
(log entry 142). -/
def execHello (t : Nat) (f : Frame) (payload : List Byte) (chain : Chain) (_role _ports : Computed) (s : State) : Outcome State Fault Refusal :=
  let s := s.at_ t
  let id := leAt payload 0 8
  match s.acceptFrame 0 f with
  | (s, false) => .next s
  | (s, true) =>
    if s.par Par.powerPhase < 3 then .next s
    else if !helloOk f payload then .next (s.bump (Par.at_ Par.fresyURxAuthFail f.port) 1)
    else
      match s.shakes.find? (fun h => h.src == f.src && h.id == id) with
      | some h => .next (s.sendShake f.port f.src 2 id h.challenge [])
      | none =>
        if s.noRandom then .next (s.reject f.port f.src id St.shellFault)
        else if 4 ≤ s.shakes.length then .next (s.reject f.port f.src id St.handshakesBusy)
        else
          let eph := ecScalar (randomBytes s.draws 48)
          let c := s.challenge payload eph (randomBytes (s.draws + 1) 32) (ecScalar (randomBytes (s.draws + 2) 48))
          let h : Handshake := ⟨f.port, f.src, id, leAt payload 8 1, leAt payload 9 1, chain, s.now, payload, c, eph⟩
          .next ({ s with shakes := s.shakes ++ [h], draws := s.draws + 3 }.sendShake f.port f.src 2 id c [])

/-- PROVE (R59-R61, R139): the handshake ends with ACCEPT and an open session, or with REJECT. -/
def execProve (t : Nat) (f : Frame) (payload : List Byte) (_sigOk : Computed) (s : State) : Outcome State Fault Refusal :=
  let s := s.at_ t
  let id := leAt payload 0 8
  match s.acceptFrame 0 f with
  | (s, false) => .next s
  | (s, true) =>
    if f.ver ≠ 1 ∨ f.session ≠ 0 ∨ f.len ≠ 104 ∨ payload.length ≠ 104 then .next (s.bump (Par.at_ Par.fresyURxAuthFail f.port) 1)
    else
      match s.shakes.find? (fun h => h.src == f.src && h.id == id) with
      | none => .next s
      | some h =>
        let s := { s with shakes := s.shakes.filter (fun g => !(g.src == f.src && g.id == id)) }
        match s.proveCheck h payload, s.freeSession, h.secrets payload with
        | some st, _, _ => .next (s.reject h.port h.src id st)
        | none, some n, some keys => .next (s.openSession h n keys)
        | none, _, _ => .next s

/-- HANDSHAKE_ABANDON (R59): a handshake whose PROVE has not come 200 ms after its CHALLENGE is abandoned. -/
def execHandshakeAbandon (t src id : Nat) (s : State) : Outcome State Fault Refusal :=
  let s := s.at_ t
  .next { s with shakes := s.shakes.filter (fun h => !(h.src == src && h.id == id && h.at_ + 200000000 ≤ s.now)) }

/-- DATA (R54, R57, R62-R71, R79-R81). -/
def execData (t : Nat) (f : Frame) (payload : List Byte) (s : State) : Outcome State Fault Refusal :=
  .next ((s.at_ t).pendingDue.sessionFrame f 8 payload)

/-- ACK (R64). -/
def execAck (t : Nat) (f : Frame) (s : State) : Outcome State Fault Refusal := 
  .next ((s.at_ t).pendingDue.sessionFrame f 9 [])

/-- CLOSE (R76). -/
def execClose (t : Nat) (c : Closing) (s : State) : Outcome State Fault Refusal :=
  .next ((s.at_ t).pendingDue.sessionFrame c.frame 11 c.payload)

/-- RETRANSMIT_TIMER (R65, R67): the sixth transmission's expiry gives the frame up and ends the session. -/
def execRetransmitTimer (t session seq : Nat) (s : State) : Outcome State Fault Refusal :=
  let s := s.at_ t
  match s.session session with
  | none => .next s
  | some x =>
    match x.unacked.find? (fun f => f.seq == seq) with
    | none => .next s
    | some f =>
      if s.now < f.due ∨ (s.portSet x).isEmpty then .next s
      else if f.tries < 6 then .next (s.resend session f)
      else .next ((s.bump (Par.at_ Par.fresyUTxGaveUp f.port) 1).endSession session 1)

/-- FRESY_LOCK_LOSS (R73): lock lost for 1 ms. -/
def execFresyLockLoss (t port : Nat) (s : State) : Outcome State Fault Refusal := .next ((s.at_ t).portDown port)

/-- PORT_SILENCE_EXPIRY (R73): no accepted frame for FRESY.PORT_SILENCE throughout which a session included the port. -/
def execPortSilenceExpiry (t port : Nat) (s : State) : Outcome State Fault Refusal :=
  let s := s.at_ t
  .next (s.when (max (s.port port).lastFrame (s.port port).since + 1000000 * s.par Par.fresyPortSilence ≤ s.now && s.sessions.any (fun x => bitAt x.setPorts port))
    (State.portDown port))

/-- FRESY_PORT_REJOIN (R74): 100 ms of unbroken lock. -/
def execFresyPortRejoin (t port : Nat) (s : State) : Outcome State Fault Refusal := .next ((s.at_ t).portUp port)

/-- RIDE_THROUGH_EXPIRY (R74). -/
def execRideThroughExpiry (t session : Nat) (s : State) : Outcome State Fault Refusal :=
  let s := s.at_ t
  match (s.session session).bind Session.downSince with
  | none => .next s
  | some d => .next (s.when (d + 1000000 * s.par Par.fresyRideThrough ≤ s.now) (State.endSession session 2))

/-- KEEPALIVE_EXPIRY (R75): an ACK frame on a port of the set that carried nothing of the session for FRESY.KEEPALIVE. -/
def execKeepaliveExpiry (t session port : Nat) (s : State) : Outcome State Fault Refusal :=
  let s := (s.at_ t).pendingDue
  match s.session session with
  | none => .next s
  | some x =>
    .next (s.when ((s.portSet x).contains port && nth x.portTx 0 port + 1000000 * s.par Par.fresyKeepalive ≤ s.now)
      (State.sendFrame session port 9 0 false none))

/-- EPOCH_WINDOW_END (R56): the 64 ms of a direction end. -/
def execEpochWindowEnd (t session : Nat) (receive : Bool) (s : State) : Outcome State Fault Refusal :=
  let s := s.at_ t
  .next (s.modSession session (fun x =>
    let due := fun w : Option Nat => match w with | some e => if e ≤ s.now then none else w | none => none
    if receive then (if (due x.rxWindow).isNone then { x with rxWindow := none, rxOld := none } else x)
    else { x with txWindow := due x.txWindow }))

/-- DEFERRED_REKEY_START (R140): a rekey held during the 64 ms starts when they have ended. -/
def execDeferredRekeyStart (t session : Nat) (s : State) : Outcome State Fault Refusal :=
  let s := s.at_ t
  .next (s.modSession session (fun x =>
    if x.rekeyHeld && !x.txRuns s.now then x.startEpoch else x))

/-- CREDIT_GRANT (R70, R71): the grant follows the memory that is free, and reaches the host in an ACK frame. -/
def execCreditGrant (t session : Nat) (s : State) : Outcome State Fault Refusal :=
  let s := s.at_ t
  match s.session session with
  | none => .next s
  | some x =>
    let s := s.regrant session
    match s.bestPort (s.portSet x) with
    | some p => .next (s.sendFrame session p 9 0 false none)
    | none => .next s

/-- IDLE_LIMIT_EXPIRY (R121). -/
def execIdleLimitExpiry (t session : Nat) (s : State) : Outcome State Fault Refusal :=
  let s := s.at_ t
  match s.session session with
  | none => .next s
  | some x => .next (s.when (x.lastCmdAt + 1000000 * s.par Par.ownIdleLimit ≤ s.now) (State.endSession session 3))

/-- RESULT_RETENTION_EXPIRY (R105): 8 s after its session ended, a result is released. -/
def execResultRetentionExpiry (t session tag : Nat) (s : State) : Outcome State Fault Refusal :=
  let s := s.at_ t
  .next { s with results := s.results.filter (fun r =>
    !(r.session == session && r.tag == tag && match r.endedAt with | some e => decide (e + 8000000000 ≤ s.now) | none => false)) }

/-- EVENT_FRAME_SEND (R416): up to 284 queued entries leave in one EVENT frame once window and credit allow, and a run of
drops that ended is reported by EV096. -/
def execEventFrameSend (t session : Nat) (s : State) : Outcome State Fault Refusal :=
  let s := s.at_ t
  match s.session session with
  | none => .next s
  | some x =>
    if x.evq.isEmpty || !x.txq.isEmpty then .next s
    else
      let p := Payload.events (x.evq.take 284)
      match s.bestPort (s.portSet x) with
      | none => .next s
      | some port =>
        let blocks := ceilDiv (s.etherLen port p.size) 64
        if 65 < ahead x.txSeq x.lastAck ∨ x.creditLimit < x.blocksSent + blocks then .next s
        else
          let s := (s.modSession session (fun x => { x with evq := x.evq.drop 284, dropped := 0 })).transmit session p
          .next (s.when (x.dropped != 0) (State.raise Ev.eventQueueOverflow 0 (BitVec.ofNat 8 session :: leBytes 4 x.dropped)))

/-- FRESY_PORT_STATUS: the state of F0-F3. -/
def effFresyPortStatus : Effect := fun c s =>
  needLen c 0 s (okayF [("F0 up", bit (s.port 0).up 0), ("F1 up", bit (s.port 1).up 0), ("F2 up", bit (s.port 2).up 0), ("F3 up", bit (s.port 3).up 0)] s)

/-- FRESY_SESSION_LIST: open sessions, roles and port sets. -/
def effFresySessionList : Effect := fun c s =>
  needLen c 0 s (okayF (s.sessions.flatMap (fun x =>
    [("session", x.num), ("role", x.role), ("ports", x.setPorts)])) s)

def execFresyPortStatus (t : Nat) (h : Hdr) (b : List Byte) (s : State) : Outcome State Fault Refusal :=
  .next (hostRow (.fresyPortStatus t h b) 0x0301 t h b effFresyPortStatus s)

def execFresySessionList (t : Nat) (h : Hdr) (b : List Byte) (s : State) : Outcome State Fault Refusal :=
  .next (hostRow (.fresySessionList t h b) 0x0302 t h b effFresySessionList s)

end Sys2Proof.Machine
end

