-- ==== Sys2Proof/Machine/Lane.lean ====
section
/-! DEFINITION. Theal serial lanes (12_theal_lanes.md): bring-up, ALIGN and the scrambler, frames, faults, loss and return
of a head port's lanes, LANE_RETRAIN and LANE_LOOPBACK. -/
namespace Sys2Proof.Machine
open Host

namespace Ln
/-- *Lane states*. -/
abbrev down : Nat := 0
abbrev detect : Nat := 1
abbrev training : Nat := 2
abbrev up : Nat := 3
abbrev failed : Nat := 4
abbrev held : Nat := 5
abbrev loopback : Nat := 6
end Ln

/-! ## Up and down (R305, R309, R310, R313) -/

/-- Ends a LANE_RETRAIN that waits for its lane (R314). -/
def State.answerRetrain (u : Nat) (s : State) : State :=
  match (s.lane u).retrain with
  | none => s
  | some c =>
    let s := s.modLane u (fun l => { l with retrain := none })
    s.finish c St.ok 0 (.bytes (leBytes 1 (s.laneState u) ++ leBytes 1 (s.par (Par.at_ Par.laneUCtle u)) ++ [0, 0]
      ++ leBytes 2 (s.par (Par.at_ Par.laneULatency u)) ++ [0, 0]))

/-- Step 1 of a bring-up (R305): the load check; the scrambler is seeded with a non-zero value (R296), and the training takes CTLE_FORCE,
TX_SWING and TX_DEEMPH (R308). While nothing random can be drawn (R138, R158) a transmitter goes on from its own state, and one that was
never seeded does not start (DESIGN CHOICE, log entry 161). A lane held with FLAPPING stays held (R310). -/
def State.startBringUp (u : Nat) (s : State) : State :=
  if (s.lane u).flapping then (s.setPar (Par.at_ Par.laneUState u) Ln.held).setPar (Par.at_ Par.laneUReason u) 0xC
  else if s.noRandom ∧ (s.lane u).txState = 0 then
    (s.setPar (Par.at_ Par.laneUState u) Ln.failed).modLane u (fun l => { l with failedAt := s.now, far := none, loop := none })
  else
    let seed := if s.noRandom then (s.lane u).txState else 1 + (Config.random s.draws).toNat % (2 ^ 31 - 1)
    let s := (s.when (!s.noRandom) State.draw).modLane u (fun l => { l with
      startAt := s.now, rxReady := false, peerReady := false, probes := [], rtt := 0, txState := seed, sinceFill := 0, sinceAlign := 0, rxState := none
      fseqRx := none, errs := [], peerLane := none, far := none, loop := none
      force := s.par (Par.at_ Par.laneUCtleForce u), swing := s.par (Par.at_ Par.laneUTxSwing u), deemph := s.par (Par.at_ Par.laneUTxDeemph u) })
    (s.setPar (Par.at_ Par.laneUState u) Ln.detect).bump (Par.at_ Par.laneUTrainings u) 1

/-- Departures from UP that count as flaps (R310). -/
def State.flapsOf (s : State) (u : Nat) : List Nat :=
  (s.lane u).downs.filter (fun d => s.now < d + 1000000000 * s.par Par.laneFlapWindow)

/-- What a lane that is no longer UP shows (*Lane parameters*, R500). -/
def State.departUp (u : Nat) (s : State) : State :=
  if s.laneState u ≠ Ln.up then s
  else
    let s := (s.setPar (Par.at_ Par.laneUUpSince u) 0).setPar (Par.at_ Par.laneUDownAt u) s.ring
    s.modLane u (fun l => { l with failedAt := s.now, hold := none, peerLane := none })

/-- Takes a lane down for a reason (R309, R310): FLAPPING where its departures from UP, whatever their reasons, reach LANE.FLAP_LIMIT,
held with FLAPPING and FORCED. An attempt that fails again for the reason in force is no new takedown. -/
def State.laneDown (u reason : Nat) (s : State) : State :=
  let was := s.laneState u == Ln.up
  let s := s.departUp u
  let flaps := if was then s.now :: s.flapsOf u else s.flapsOf u
  let held := (s.lane u).flapping || (was && decide (s.par Par.laneFlapLimit ≤ flaps.length))
  let s := s.modLane u (fun l => { l with downs := flaps, failedAt := s.now, far := none, peerLane := none, flapping := held })
  let reason := if held then 0xC else reason
  let again := s.cond Ev.laneDown u && !was && s.par (Par.at_ Par.laneUReason u) == reason
  let s := s.setPar (Par.at_ Par.laneUState u) (if reason = 0xC ∨ reason = 0xD then Ln.held else Ln.failed)
  let s := s.setPar (Par.at_ Par.laneUReason u) reason
  let s := s.when (u < 32) (State.modFire (u / 2) (fun f => { f with back := f.back - (f.back &&& 2 ^ (u % 2)) }))
  let s := if again then s else (s.bump (Par.at_ Par.laneUDowns u) 1).raise Ev.laneDown u [BitVec.ofNat 8 reason]
  if reason = 0xD then s else s.answerRetrain u

/-- Two lanes of a head port are UP and report the same LANE bit (R307): the one that came up second fails. -/
def State.checkWiring (u : Nat) (s : State) : State :=
  let o := if u % 2 = 0 then u + 1 else u - 1
  if u < 32 ∧ s.laneState u = Ln.up ∧ s.laneState o = Ln.up ∧ (s.lane u).peerLane.isSome ∧ (s.lane u).peerLane = (s.lane o).peerLane then
    s.laneDown (if (s.lane u).upAt < (s.lane o).upAt then o else u) 0xA
  else s

/-- A lane is UP (R305): EV046 ends, and EV049 of its port; silence of STATUS counts from here where no lane was UP (R284). A lane lost from a head waits for LANE.RESTORE_HOLD (R313); where
no lane carries the head, it carries the head at once. -/
def State.laneUp (u : Nat) (s : State) : State :=
  let h := u / 2
  let b := 2 ^ (u % 2)
  let s := (s.setPar (Par.at_ Par.laneUState u) Ln.up).setPar (Par.at_ Par.laneUUpSince u) s.ring
  let s := s.endCond Ev.laneDown u
  let s := s.modLane u (fun l => { l with upAt := s.now, alignAt := s.now, hold := none })
  let alone := s.laneState (if u % 2 = 0 then u + 1 else u - 1) != Ln.up
  let s := s.when (u < 32) (State.modHead h (fun x => { x with
    laneIds := x.laneIds.filter (fun e => e.1 != u % 2), ahead := x.ahead.filter (fun a => a.1 != u % 2)
    lastStatus := if alone then max x.lastStatus s.now else x.lastStatus }))
  let s := if 32 ≤ u then s
    else
      let f := s.fireHead h
      let s := s.endCond Ev.portLanesLost h
      if f.lost &&& b = 0 ∨ f.lanes = 0 then
        s.modFire h (fun f => { f with lanes := f.lanes ||| b, lost := f.lost - (f.lost &&& b) })
      else s.modLane u (fun l => { l with hold := some (s.now + 1000000 * s.par Par.laneRestoreHold) })
  (s.answerRetrain u).checkWiring u

/-- A lane in training is UP once both ends are READY and the 8 probes have returned with a latency within the limit
(R305, R306, R356). -/
def State.tryUp (u : Nat) (s : State) : State :=
  let l := s.lane u
  if !(l.rxReady && l.peerReady && l.probes.length == 8) then s
  else
    let s := s.setPar (Par.at_ Par.laneULatency u) (min 1023 l.rtt)
    if (if u < 32 then 300 else 90) < l.rtt then s.laneDown u 9 else s.laneUp u

/-! ## Bring-up rows -/

/-- LANE_RETRAIN_TIMER (R305, R309): a lane that is DOWN after reset, or FAILED for 20 ms, starts from step 1. -/
def execLaneRetrainTimer (t lane : Nat) (s : State) : Outcome State Fault Refusal :=
  let s := s.at_ t
  let st := s.laneState lane
  if lane < 36 ∧ (st = Ln.down ∨ (st = Ln.failed ∧ (s.lane lane).failedAt + 20000000 ≤ s.now)) then .next (s.startBringUp lane) else .next s

/-- LOAD_CHECK (R305): 0 a termination is found and training begins, 1 none, 2 a short. -/
def execLoadCheck (t lane load : Nat) (s : State) : Outcome State Fault Refusal :=
  let s := s.at_ t
  if s.laneState lane ≠ Ln.detect then .next s
  else if load = 0 then .next (s.setPar (Par.at_ Par.laneUState lane) Ln.training)
  else .next (s.laneDown lane (if load = 1 then 3 else 4))

/-- The number of the AL716's next probe: the lowest of its 8 that has not returned, numbered from 0 (DESIGN CHOICE, log entry 159). -/
def Lane.nextProbe (l : Lane) : Nat := ((List.range 8).find? (fun n => !l.probes.contains n)).getD 8

/-- A word that the receiver took advances its generator (R295). -/
def State.rxWords (lane n : Nat) (s : State) : State := s.modLane lane (fun l => { l with rxState := l.rxState.map (scrambleWords n) })

/-- TRAIN (R305, R306, R308): a word of the peer's training cycle. An echo gives a latency from the round trip `rtt`; a probe is
returned with the turnaround `turn`; `ctle` is the peaking that adaptation chose. -/
def execTrain (t lane word rtt turn ctle : Nat) (s : State) : Outcome State Fault Refusal :=
  let s := s.at_ t
  if s.laneState lane ≠ Ln.training then .next s
  else
    let s := (s.rxWords lane 1).modLane lane (fun l => { l with peerReady := l.peerReady || bitAt word 17 })
    let s := if (s.lane lane).rxReady then
        let force := (s.lane lane).force
        s.setPar (Par.at_ Par.laneUCtle lane) (if force = 0 then ctle % 16 else force - 1)
      else s
    let n := bitsAt word 8 8
    if bitAt word 16 then
      let lat := (rtt - bitsAt word 18 14 + 1) / 2
      let s := if n < 8 ∧ !(s.lane lane).probes.contains n then
          s.modLane lane (fun l => { l with probes := n :: l.probes, rtt := max l.rtt lat })
        else s
      .next (s.tryUp lane)
    else
      let echo := 0x66 + 256 * n + 2 ^ 16 + bit (s.lane lane).rxReady 17 + 2 ^ 18 * (turn % 2 ^ 14)
      .next (((s.emit (.marker lane 0x66 (echo - 0x66))).lineOut lane (Tx.marker [(2, echo)])).tryUp lane)

/-- TRAIN_TIMEOUT (R305): not UP within tUP of step 1. -/
def execTrainTimeout (t lane : Nat) (s : State) : Outcome State Fault Refusal :=
  let s := s.at_ t
  let st := s.laneState lane
  if (st = Ln.detect ∨ st = Ln.training) ∧ (s.lane lane).startAt + 10000000 ≤ s.now then .next (s.laneDown lane 0xB) else .next s

/-- The LANE bit that the peer reports on a lane (R307): a bit that names the other lane of the port or Causeway side sets SWAPPED on
both, and the same bit on both lanes of a head port is miswired. -/
def State.laneBit (u b : Nat) (s : State) : State :=
  let o := if u % 2 = 0 then u + 1 else u - 1
  let s := s.modLane u (fun l => { l with peerLane := some b })
  let v := if b = u % 2 then 0 else 1
  ((s.setPar (Par.at_ Par.laneUSwapped u) v).setPar (Par.at_ Par.laneUSwapped o) v).checkWiring u

/-- A lane receives words: it trains, is UP, or is in loopback. -/
def State.receives (s : State) (u : Nat) : Bool :=
  s.laneState u == Ln.training || s.laneState u == Ln.up || s.laneState u == Ln.loopback

/-- What an ALIGN says (R305, R307, R309): RX_UP, LANE and whether the pair was found reversed; `agree` where its state is the
receiver's own. -/
def State.alignSeen (lane w1 : Nat) (inverted agree : Bool) (s : State) : State :=
  let st := s.laneState lane
  let s := s.modLane lane (fun l => { l with alignAt := s.now, peerRx := bitAt w1 16, rxReady := l.rxReady || (st == Ln.training && agree) })
  let s := if inverted && s.par (Par.at_ Par.laneUPnInverted lane) == 0 then
      (s.setPar (Par.at_ Par.laneUPnInverted lane) 1).record 3 0xC lane [BitVec.ofNat 8 lane]
    else s
  let s := s.laneBit lane (bitsAt w1 8 1)
  if s.laneState lane = Ln.up ∧ !bitAt w1 16 then s.laneDown lane 8
  else if s.laneState lane = Ln.training then s.tryUp lane else s

/-- ALIGN (R296, R305, R307, R309): its two words, the words received since the latest that the receiver took, and whether the pair was
found reversed. -/
def execAlign (t lane w1 w2 words : Nat) (inverted : Bool) (s : State) : Outcome State Fault Refusal :=
  let s := s.at_ t
  if !s.receives lane then .next s
  else
    let own := (s.lane lane).rxState.map (scrambleWords (words + 2))
    let agree := own == some (w2 % 2 ^ 31)
    let s := s.when (own.isSome && !agree) (State.bump (Par.at_ Par.laneUSeedResync lane) 1)
    .next ((s.modLane lane (fun l => { l with rxState := some (w2 % 2 ^ 31) })).alignSeen lane w1 inverted agree)

/-- The TRAIN word of a training cycle of the AL716 (R305, R306): READY, and its next probe once it is. -/
def Lane.trainWord (l : Lane) : Nat := 0x66 + (if l.rxReady then 256 * l.nextProbe else 0) + bit l.rxReady 17

/-- ALIGN_DUE (R296, R298, R305): an ALIGN leaves; while the lane trains, it begins a training cycle of ALIGN, TRAIN and 61 FILL. -/
def execAlignDue (t lane : Nat) (_w : Computed) (s : State) : Outcome State Fault Refusal :=
  let s := s.at_ t
  let l := s.lane lane
  if 36 ≤ lane ∨ !s.receives lane then .next s
  else if s.laneState lane = Ln.training then
    .next ((s.emit (.marker lane 0x66 (l.trainWord - 0x66))).lineOut lane (fun x => x.aligner.words ((2, l.trainWord) :: List.replicate 61 (2, 0x1E))))
  else .next (s.lineOut lane Tx.aligner)

/-- FILL_DUE (R301, R315): a run of words in which nothing else is sent: FILL, or the data words of zeros of a loopback that this end
runs. -/
def execFillDue (t : Nat) (run : FillRun) (s : State) : Outcome State Fault Refusal :=
  let s := s.at_ t
  let lane := run.lane
  if 36 ≤ lane ∨ !s.receives lane ∨ (s.lane lane).far.isSome then .next s
  else .next (s.lineOut lane (Tx.words (List.replicate run.n (if (s.lane lane).loop.isSome then (1, 0) else (2, 0x1E)))))

/-! ## Faults -/

/-- LANE_FAULT (R302, R309, R310): a fault found at a receiver: 1 NO_SIGNAL, 2 ONE_LEG, 5 LOCK or 6 EBUF. -/
def execLaneFault (t lane reason : Nat) (s : State) : Outcome State Fault Refusal :=
  let s := s.at_ t
  let st := s.laneState lane
  if !(st == Ln.training || st == Ln.up) || !([1, 2, 5, 6].contains reason) then .next s else .next (s.laneDown lane reason)

/-- FAR_RX_SILENCE (R309): no ALIGN for 16,384 words. -/
def execFarRxSilence (t lane : Nat) (s : State) : Outcome State Fault Refusal :=
  let s := s.at_ t
  if s.laneState lane = Ln.up ∧ 1000 * (s.lane lane).alignAt + 16384 * s.wordPs lane ≤ 1000 * s.now then .next (s.laneDown lane 8) else .next s

/-- LANE_LOSS_REPORT (R272, R312): the loss of a head's lane reaches FIRE; from the next line boundary the other lane
carries the head, or nothing fires (EV049). -/
def execLaneLossReport (t lane : Nat) (s : State) : Outcome State Fault Refusal :=
  let s := s.at_ t
  let h := lane / 2
  let b := 2 ^ (lane % 2)
  if 32 ≤ lane ∨ s.laneIsUp lane ∨ (s.fireHead h).lanes &&& b = 0 then .next s
  else
    let s := s.modFire h (fun f => { f with lanes := f.lanes - b, lost := f.lost ||| b, lossAt := some (s.lane lane).failedAt })
    if (s.fireHead h).lanes = 0 then
      .next (((s.setPar (Par.at_ Par.headUDepth h) 0).setPar (Par.at_ Par.headULaneMode h) 0).raise Ev.portLanesLost h [])
    else .next s

/-- LANE_RESTORE_HOLD_END (R313): the hold of a returned lane ends; the head's next line boundary takes it back. -/
def execLaneRestoreHoldEnd (t lane : Nat) (s : State) : Outcome State Fault Refusal :=
  let s := s.at_ t
  match (s.lane lane).hold with
  | none => .next s
  | some e =>
    if 32 ≤ lane ∨ !s.laneIsUp lane ∨ s.now < e then .next s
    else .next ((s.modLane lane (fun l => { l with hold := none })).modFire (lane / 2) (fun f => { f with back := f.back ||| 2 ^ (lane % 2) }))

/-! ## Frames (R294-R302) -/

/-- What the receiver assembles as it takes words: the descrambler state, the elastic buffer's fill, the frame under way (payload words
wanted, words taken newest first), the next word where it is the content of a marker, and what it found. -/
structure Assembly where
  st : Nat
  fill : Nat
  deleted : Nat
  added : Nat
  want : Option Nat                -- payload words of the frame under way
  sof : Nat
  got : List Nat                   -- data words, newest first
  bad : Bool                       -- a discarded word lay inside the frame
  content : Nat                    -- the next word: 0 a word, 1 a marker's content, 2 the content of a discarded CODE word, 3 of an ALIGN
  align : Nat                      -- first word of the ALIGN under way
  aligns : List (Nat × Bool)       -- first words of the ALIGNs taken, and whether their state agreed
  resyncs : Nat
  headerErr : Nat
  markerErr : Nat
  recent : List Nat                -- header errors among the words before, newest first: words since each
  locks : Bool                     -- 16 header errors lay within 64 words
  fails : Nat
  gaps : Nat
  fseq : Option Nat
  good : List (List Byte)          -- payloads of good frames
deriving DecidableEq, Repr

/-- A frame under way ends: its CRC decides (R299, R300). A good frame gives its FSEQ; a discarded one has no effect but its count. -/
def Assembly.close (a : Assembly) : Assembly :=
  let ws := a.got.reverse
  let body := (ws.take (ws.length - 1)).flatMap (leBytes 4)
  let ok := !a.bad && crc32 (leBytes 4 a.sof ++ body) == a.got.headD 0
  let q := bitsAt a.sof 24 8
  let a := { a with want := none, got := [], bad := false }
  if ok then { a with
      good := a.good ++ [body], fseq := some q, gaps := a.gaps + (match a.fseq with | some p => (q + 255 - p) % 256 | none => 0) }
  else { a with fails := a.fails + 1 }

/-- A frame under way is discarded (R300). -/
def Assembly.drop (a : Assembly) : Assembly := if a.want.isSome then { a with want := none, got := [], bad := false, fails := a.fails + 1 } else a

/-- The CODE of a control word, `w` as received and `c` with the scrambling removed: ALIGN goes in clear (R295). -/
def controlCode (w c : Nat) : Nat :=
  if [0x1E, 0x2D, 0x4B, 0x55, 0x66, 0x78].contains (c % 256) then c % 256 else if w % 256 = 0x33 then 0x33 else 0

/-- A header error (R294, R297, R309): the word is discarded, with the content word of the two-word marker whose CODE it carries. -/
def Assembly.badHeader (a : Assembly) (code : Nat) : Assembly :=
  let recent := 0 :: a.recent
  { a with
    headerErr := a.headerErr + 1, bad := a.bad || a.want.isSome, recent := recent, locks := a.locks || decide (16 ≤ recent.length)
    content := if a.content = 0 ∧ [0x4B, 0x55, 0x33].contains code then 2 else 0 }

/-- A control word (R297, R298, R300). -/
def Assembly.control (a : Assembly) (w c code : Nat) : Assembly :=
  if code = 0x1E then a
  else if code = 0x4B ∨ code = 0x55 then { a with content := 1 }
  else if code = 0x33 then { a.drop with content := 3, align := w }
  else if code = 0x2D then
    let n := bitsAt c 8 11
    let a := a.drop
    if n = 0 ∨ 1024 < n then { a with fails := a.fails + 1 } else { a with want := some n, sof := c, got := [], bad := false }
  else if code = 0x66 ∨ code = 0x78 then a.drop
  else { a with markerErr := a.markerErr + 1, bad := a.bad || a.want.isSome }

/-- One received word through the elastic buffer and the descrambler (R294-R302): FILL is deleted above 20 words and added below 12;
the content of a marker is taken by position, and an ALIGN's loads the scrambler state. -/
def Assembly.take (a : Assembly) (w : TWord) : Assembly :=
  let (st, key) := scrambleBits 32 a.st
  let c := (w.2 % 2 ^ 32) ^^^ key
  let code := controlCode w.2 c
  let a := { a with st := st, recent := (a.recent.map (· + 1)).filter (· < 64) }
  let a := if a.fill < 12 then { a with fill := a.fill + 1, added := a.added + 1 } else a
  let a := if 20 < a.fill ∧ w.1 = 2 ∧ code = 0x1E ∧ a.content = 0 then { a with fill := a.fill - 1, deleted := a.deleted + 1 } else a
  if w.1 = 0 ∨ w.1 = 3 then a.badHeader code
  else if a.content = 3 then
    let ok := w.2 % 2 ^ 31 == st
    { a with content := 0, st := w.2 % 2 ^ 31, resyncs := a.resyncs + (if ok then 0 else 1), aligns := a.aligns ++ [(a.align, ok)] }
  else if a.content = 1 ∨ (a.content = 2 ∧ w.1 = 2) then { a with content := 0 }
  else
    let a := { a with content := 0 }
    if w.1 = 1 then
      match a.want with
      | none => a
      | some n =>
        let a := { a with got := c :: a.got }
        if a.got.length = n + 1 then a.close else a
    else a.control w.2 c code

/-- The words that the far end returns (R316): stuff bits and content unchanged, with FILL deleted or added as its elastic buffer needs. -/
def returned : Nat → Nat → List TWord → List TWord
  | _, _, [] => []
  | st, fill, w :: ws =>
    let (st', key) := scrambleBits 32 st
    let filler := w.1 == 2 && controlCode w.2 ((w.2 % 2 ^ 32) ^^^ key) == 0x1E
    if 20 < fill ∧ filler then returned st' (fill - 1) ws
    else if fill < 12 then (2, 0x1E ^^^ key) :: w :: returned st' (fill + 1) ws
    else w :: returned st' fill ws

/-- A word that came back in a loopback (R315): FILL and ALIGN aside, it should be a data word of zeros. -/
def LoopRun.check (r : LoopRun) (h c code : Nat) : LoopRun :=
  if h = 2 ∧ (code = 0x1E ∨ code = 0x33 ∨ code = 0x78) then r
  else
    let errs := popcount 32 c
    let bad := h ≠ 1 ∨ errs ≠ 0
    { r with words := r.words + 1, wordErrs := r.wordErrs + (if bad then 1 else 0), bitErrs := r.bitErrs + errs }

/-- The words that came back in a loopback, with the descrambler state and whether the next is an ALIGN's second word. -/
def LoopRun.checkAll : LoopRun → Nat → Bool → List TWord → LoopRun × Nat
  | r, st, _, [] => (r, st)
  | r, st, second, w :: ws =>
    if second then LoopRun.checkAll r (w.2 % 2 ^ 31) false ws
    else
      let (st', key) := scrambleBits 32 st
      let c := (w.2 % 2 ^ 32) ^^^ key
      let code := controlCode w.2 c
      LoopRun.checkAll (r.check w.1 c code) st' (w.1 == 2 && code == 0x33) ws

/-- Whether a head message has a listed TYPE and the LEN of its type (R286). -/
def headMsgOk (m : List Byte) : Bool :=
  let n := leAt m 2 2
  n == m.length && match leAt m 0 1 with
    | 0x81 => n == 28
    | 0x82 => n == 16
    | 0x83 => n == 16
    | 0x84 => n == 8 + leAt m 6 2
    | 0x85 => n == 16
    | _ => false

/-- Words reach an UP receiver (R286, R294, R297-R302, R309), from the elastic buffer's fill before them. A good frame is delivered;
LANE.ERR_LIMIT frames discarded within 1 ms, 16 header errors within 64 words, or an empty or overrun buffer take the lane down. -/
def State.takeWords (s : State) (lane fill : Nat) (words : List TWord) : State :=
  let l := s.lane lane
  let a := words.foldl Assembly.take ⟨l.rxState.getD 0, fill, 0, 0, none, 0, [], false, 0, 0, [], 0, 0, 0, [], false, 0, 0, l.fseqRx, []⟩
  let a := a.drop
  let errs := List.replicate a.fails s.now ++ l.errs.filter (fun e => s.now < e + 1000000)
  let s := s.modLane lane (fun l => { l with
    rxState := some a.st, fseqRx := a.fseq, errs := errs, rx := a.good.getLastD l.rx })
  let s := (s.bump (Par.at_ Par.laneUHeaderErr lane) a.headerErr).bump (Par.at_ Par.laneUMarkerErr lane) a.markerErr
  let s := (s.bump (Par.at_ Par.laneUCrcFail lane) a.fails).bump (Par.at_ Par.laneUFrameGap lane) a.gaps
  let s := (s.bump (Par.at_ Par.laneUFillDeleted lane) a.deleted).bump (Par.at_ Par.laneUFillAdded lane) a.added
  let s := s.bump (Par.at_ Par.laneUSeedResync lane) a.resyncs
  let s := (s.setPar (Par.at_ Par.laneUEbufFill lane) (a.fill % 32)).bump (Par.at_ Par.laneUFramesRx lane) a.good.length
  let s := s.when (lane < 32) (State.bump (Par.at_ Par.headUMsgErrors (lane / 2)) (a.good.filter (fun m => !headMsgOk m)).length)
  let s := s.each a.aligns (fun x s => s.alignSeen lane x.1 false x.2)
  if s.laneState lane ≠ Ln.up then s
  else if fill = 0 ∨ 32 < a.fill then s.laneDown lane 6
  else if a.locks then s.laneDown lane 5
  else if s.par Par.laneErrLimit ≤ errs.length then s.laneDown lane 7 else s

/-- THEAL_FRAME_RECEIVE (R300, R315, R316): the words received since the latest that the receiver took. An UP lane assembles its frames;
the near end of a loopback checks them, and the far end returns them. -/
def execThealFrameReceive (t lane fill : Nat) (words : List (Nat × Nat)) (s : State) : Outcome State Fault Refusal :=
  let s := s.at_ t
  let l := s.lane lane
  let words := words.map (fun w => (w.1 % 4, w.2 % 2 ^ 32))
  if s.holding (if lane < 32 then 4 + lane / 4 else 12) then .next s
  else if s.laneState lane = Ln.up then .next (s.takeWords lane fill words)
  else if s.laneState lane = Ln.loopback then
    match l.loop with
    | some r =>
      let (r, st) := r.checkAll (l.rxState.getD 0) false words
      .next (s.modLane lane (fun l => { l with loop := some r, rxState := some st }))
    | none =>
      if l.far.isSome then
        .next ((s.emit (.line lane (returned (l.rxState.getD 0) fill words))).rxWords lane words.length)
      else .next s
  else .next s

/-! ## Far-end loopback (R316) -/

/-- The far end's part ends, and the lane trains again. -/
def State.endFar (u : Nat) (s : State) : State := s.startBringUp u

/-- LOOP (R316): a LOOP word from the peer, on a lane that is UP or that trains with its receiver READY. -/
def execLoop (t lane : Nat) (start : Bool) (s : State) : Outcome State Fault Refusal :=
  let s := (s.at_ t).rxWords lane 1
  if start then
    if s.laneState lane = Ln.up ∨ (s.laneState lane = Ln.training ∧ (s.lane lane).rxReady) then
      let s := s.departUp lane
      .next (((s.modLane lane (fun l => { l with far := some s.now })).setPar (Par.at_ Par.laneUState lane) Ln.loopback).bump
        (Par.at_ Par.laneULoopRuns lane) 1)
    else .next s
  else if (s.lane lane).far.isSome then .next (s.endFar lane) else .next s

/-- FAR_LOOPBACK_EXPIRY (R316): 60 s without a LOOP end. -/
def execFarLoopbackExpiry (t lane : Nat) (s : State) : Outcome State Fault Refusal :=
  let s := s.at_ t
  match (s.lane lane).far with
  | some a => if a + 60000000000 ≤ s.now then .next (s.endFar lane) else .next s
  | none => .next s

/-- A loopback that this end runs ends (R315): the peer is told, and the counts found are the FINAL reply. -/
def State.endLoop (u : Nat) (r : LoopRun) (s : State) : State :=
  let s := s.when (r.kind == 3) (fun s => (s.emit (.marker u 0x78 0)).lineOut u (Tx.marker [(2, 0x78)]))
  (s.modLane u (fun l => { l with loop := none })).finish r.cid St.ok 0
    (.bytes (leBytes 8 r.words ++ leBytes 4 (min (2 ^ 32 - 1) r.wordErrs) ++ leBytes 4 (min (2 ^ 32 - 1) r.bitErrs)))

/-- LOOPBACK_END (R315): the duration has passed, and the lane retrains. -/
def execLoopbackEnd (t lane : Nat) (_words _wordErrs _bitErrs : Computed) (s : State) : Outcome State Fault Refusal :=
  let s := s.at_ t
  match (s.lane lane).loop with
  | none => .next s
  | some r => if s.now < r.stop then .next s else .next ((s.endLoop lane r).startBringUp lane)

/-! ## Commands -/

/-- What refuses a lane command on a lane in use (R314, R315): a segment of the lane's port, or another Causeway lane that
is not UP. `always` where any segment of the port refuses. -/
def State.laneBusy (s : State) (u : Nat) (always : Bool) : Option (Nat × Nat) :=
  if u < 32 then
    let h := u / 2
    let o := if u % 2 = 0 then u + 1 else u - 1
    ((sortBy Seg.order (s.spool.segs.filter (fun g => g.live && bitAt g.heads h))).find? (fun g =>
      always || !s.laneIsUp o || decide (s.t3 h < g.rate))).map (fun g => (St.segmentState, g.state))
  else ([32, 33, 34, 35].find? (fun o => o != u && !s.laneIsUp o)).map (fun o => (St.unitFault, 0x0C00 + o))

/-- LANE_RETRAIN (R314). A LANE_RETRAIN of the lane that still waits ends with the state found now, and a loopback of it with the counts
found so far; the lane goes down with reason FORCED and its flap count is cleared. -/
def effLaneRetrain : Effect := fun c s =>
  needLen c 4 s <|
  let u := leAt c.body 0 1
  if 36 ≤ u then refuse St.valueRange 8 s
  else needZero c 1 3 s <| needChange c .oper s <| needOwner c s <|
  match s.laneBusy u false with
  | some (st, d) => refuse st d s
  | none =>
    let s := match (s.lane u).loop with
      | some r => s.endLoop u r
      | none => s
    let s := ((s.answerRetrain u).modLane u (fun l => { l with downs := [], flapping := false })).laneDown u 0xD
    let s := (s.modLane u (fun l => { l with downs := [], flapping := false }))
    ((s.startBringUp u).modLane u (fun l => { l with retrain := some c.cid }), .later)

/-- LANE_LOOPBACK (R315). A run that a later one replaces ends with the counts found so far (DESIGN CHOICE, log entry 160). -/
def effLaneLoopback : Effect := fun c s =>
  needLen c 8 s <|
  let u := leAt c.body 0 1
  let kind := leAt c.body 1 1
  let ms := leAt c.body 4 4
  if 36 ≤ u then refuse St.valueRange 8 s
  else if kind = 0 ∨ 3 < kind then refuse St.badEnum 9 s
  else if ms = 0 ∨ 60000 < ms then refuse St.valueRange 12 s
  else needZero c 2 2 s <| needChange c .oper s <| needOwner c s <|
  match s.laneBusy u true with
  | some (st, d) => refuse st d s
  | none =>
    let s := match (s.lane u).loop with
      | some r => s.endLoop u r
      | none => s
    let s := (s.when (kind == 3) (fun s => (s.emit (.marker u 0x78 256)).lineOut u (Tx.marker [(2, 0x178)]))).laneDown u 0xD
    let s := (s.modLane u (fun l => { l with loop := some ⟨c.cid, kind, s.now + 1000000 * ms, 0, 0, 0⟩ })).setPar (Par.at_ Par.laneUState u) Ln.loopback
    (s.bump (Par.at_ Par.laneULoopRuns u) 1, .pending)

/-- LANE_STATUS. -/
def effLaneStatus : Effect := fun c s =>
  needLen c 0 s <| needLearn c .oper s <|
  okay 0 ((List.range 36).flatMap (fun u =>
    let p := fun (id : Nat) => s.par (Par.at_ id u)
    leBytes 1 (p Par.laneUState) ++ leBytes 1 (p Par.laneUReason)
      ++ leBytes 1 (p Par.laneURate + 4 * p Par.laneUPnInverted + 8 * p Par.laneUSwapped + bit (s.lane u).peerRx 4)
      ++ leBytes 1 (p Par.laneUCtle) ++ leBytes 2 (p Par.laneULatency) ++ leBytes 1 (p Par.laneUEbufFill) ++ [0])) s

def execLaneStatus (t : Nat) (h : Hdr) (b : List Byte) (s : State) : Outcome State Fault Refusal :=
  .next (hostRow (.laneStatus t h b) 0x0C01 t h b effLaneStatus s)

def execLaneRetrain (t : Nat) (h : Hdr) (b : List Byte) (s : State) : Outcome State Fault Refusal :=
  .next (hostRow (.laneRetrain t h b) 0x0C02 t h b effLaneRetrain s)

def execLaneLoopback (t : Nat) (h : Hdr) (b : List Byte) (s : State) : Outcome State Fault Refusal :=
  .next (hostRow (.laneLoopback t h b) 0x0C03 t h b effLaneLoopback s)

end Sys2Proof.Machine
end

