-- ==== Sys2Proof/Machine/Heads.lean ====
section
/-! DEFINITION. Head modules (11_firing_and_heads.md, R156, R231): attach and loss, the head memory, power, temperature,
tables, and the gates that act on them. -/
namespace Sys2Proof.Machine
open Host

/-! ## State and power (R281-R285) -/

/-- A guard gate of a head is active (R278, R281). -/
def State.guarded (s : State) (h : Nat) : Bool := s.fire.gates.any (fun g => g.active && g.role == 4 && bitAt g.heads h)

/-- The cause for which the device withholds head power, if any (R280, R281, R442, R491). -/
def State.withholding (s : State) (h : Nat) : Option Nat :=
  if s.fire.sag then some 1 else if s.guarded h then some 3
  else if s.par Par.testTestEn = 1 ∨ s.par Par.testPinDriven = 1 ∨ s.fire.reset then some 0xC else none

/-- HPENh follows the conditions of R281. -/
def State.hpenUpdate (h : Nat) (s : State) : State :=
  let x := s.head h
  let wanted := x.cmd == some true || (x.cmd.isNone && s.par (Par.at_ Par.headUAutoPower h) == 1)
  let own := x.phase == 2 && x.auth && !x.nocap && !x.powerFail && !x.out && wanted
  let ext := s.withholding h
  let on := own && ext.isNone
  let s := s.modHead h (fun x => { x with
    hpen := on, good := x.good && on, hpenAt := if on && !x.hpen then s.now else x.hpenAt
    withheld := if !own then none else if ext.isSome then ext else x.withheld })
  let s := s.when (on != x.hpen) (State.emit (.pin (hpenName h) (if on then 1 else 0)))
  s.publish h

/-- Ends the commands that wait for reads of a head's memory (R82). -/
def State.dropReads (h : Nat) (s : State) : State :=
  let rs := (s.head h).reads
  let s := s.modHead h (fun x => { x with reads := [] })
  s.each (rs.filter (fun r => r.kind == 1 || r.kind == 2)) (fun r s => s.finish r.cid St.headNotReady h (.bytes []))

/-- A head is lost (R284): EV043; a power failure leaves it attached in fault, else nothing of it is left and its columns stop being
printable (R218, R224). -/
def State.headLost (h reason : Nat) (s : State) : State :=
  let s := s.raise Ev.headLost h [BitVec.ofNat 8 reason]
  s.movingHead h fun s =>
  if reason = 3 then (s.modHead h (fun x => { x with powerFail := true })).hpenUpdate h
  else
    let s := s.dropReads h
    let s := s.modHead h (fun x => { x with
      phase := 0, auth := false, nocap := false, fault := false, faultCode := 0, faultGone := none, powerFail := false, tables := [], stageNext := none, ahead := [] })
    let s := ((s.setPar (Par.at_ Par.headUSlots h) 0).setPar (Par.at_ Par.headUMaxLineRate h) 0).setPar (Par.at_ Par.headUIdentity h) 0
    let s := (s.setPar (Par.at_ Par.headURank h) 0).setPar (Par.at_ Par.headUTempStage h) 0
    (s.endCond Ev.headTemperature h).hpenUpdate h

/-! ## The head memory (R273, R289) -/

/-- The pulses of a recipe level record: start and width, pre-heat pulses first. -/
def recipePulses (r : Nat) : List (Nat × Nat) :=
  (List.range (bitsAt r 0 3 + bitsAt r 4 2)).map (fun i => let e := bitsAt r (16 + 24 * i) 24; (bitsAt e 0 10, bitsAt e 10 8))

/-- A level record in its form: counts in range, reserved bits 0, widths from 1, and zero entries after its pulses. -/
def recordForm (r : Nat) : Bool :=
  let n := bitsAt r 0 3 + bitsAt r 4 2
  bitsAt r 0 3 ≤ 4 && 1 ≤ bitsAt r 4 2 && bitsAt r 4 2 ≤ 2 && bitsAt r 3 1 == 0 && bitsAt r 6 10 == 0
    && (List.range 6).all (fun i => let e := bitsAt r (16 + 24 * i) 24
      if i < n then e < 2 ^ 18 && 1 ≤ bitsAt e 10 8 else e == 0)

/-- Pulses in order: none overlaps or precedes the one before it. -/
def pulsesOrdered : List (Nat × Nat) → Bool
  | a :: b :: r => a.1 + a.2 ≤ b.1 && pulsesOrdered (b :: r)
  | _ => true

/-- The seven level records of a recipe, level 1 first. -/
def recipeLevels (v : Nat) : List Nat := (List.range 7).map (fun l => v / 256 ^ (20 * l) % 256 ^ 20)

/-- The width of a level's first fire pulse. -/
def firstFire (r : Nat) : Nat := ((recipePulses r).drop (bitsAt r 0 3)).headD (0, 0) |>.2

/-- A recipe that R273 admits for a head of a fire window in ns. -/
def recipeOk (v window : Nat) : Bool :=
  let ls := recipeLevels v
  ls.all (fun r => recordForm r && pulsesOrdered (recipePulses r) && (recipePulses r).all (fun p => p.1 + p.2 ≤ window / 5))
    && (ls.zip (ls.drop 1)).all (fun p => ((recipePulses p.2).drop (bitsAt p.2 0 3)).all (fun q => firstFire p.1 ≤ q.2))

/-- FIRE_WINDOW of a head's memory. -/
def fireWindow (mem : List Byte) : Nat := leAt mem 18 2

/-- The default recipe of a head's memory. -/
def defaultRecipe (mem : List Byte) : Nat := leAt mem 0x100 140

/-- The fields of a head memory hold values in their ranges, and its offsets obey the header (R289). -/
def memForm (mem : List Byte) : Bool :=
  let n := leAt mem 6 2
  let chain := 0x200 + 4 * n
  let sig := up4 (chain + leAt mem 56 2)
  leAt mem 0 4 == 0x444D4841 && leAt mem 4 1 == 1 && leAt mem 5 1 < 16 && 64 ≤ n && n ≤ 8192 && leAt mem 8 1 < 8 && zeroAt mem 9 3
    && 1000 ≤ leAt mem 12 4 && leAt mem 12 4 ≤ 240000 && leAt mem 16 2 ≤ 400 && 100 ≤ fireWindow mem && fireWindow mem ≤ 5115
    && zeroAt mem 22 2 && zeroAt mem 40 8 && leAt mem 48 4 == 0x200 && leAt mem 52 4 == chain
    && 1 ≤ leAt mem 56 2 && leAt mem 56 2 ≤ 6144 && zeroAt mem 58 2 && leAt mem 60 4 == sig && zeroAt mem 64 192 && zeroAt mem 0x18C 0x74
    && (List.range n).all (fun i => let e := leAt mem (0x202 + 4 * i) 2
      e < 32 && e % 16 != 7 && e % 16 != 9)
    && mem.length == sig + 96 && recipeOk (defaultRecipe mem) (fireWindow mem)

/-- The signature of a head memory holds over the SHA-384 of the bytes before SIG_OFF, under the leaf's key (R289). -/
def headSigned (mem : List Byte) (c : Chain) : Bool := ecdsaVerify c.pub (mem.take (leAt mem 60 4)) ((mem.drop (leAt mem 60 4)).take 96)

/-- The chain of a head memory passes R133: a head-maker leaf (role 6 of the finding) under an unrevoked head-maker slot. -/
def State.headChainOk (s : State) (c : Chain) : Bool :=
  c.valid && c.role == 6 && c.notBefore ≤ s.utcEstimate + 86400 && s.utcEstimate ≤ c.notAfter
    && s.shell.slots.any (fun t => t.kind == 2 && !t.revoked && t.digest == c.root)

/-- Whether a head's memory authenticates it (R156, R289): valid, agreeing with its HELLO and the port's lane rate, signed,
and not the identity of another head attached here. -/
def State.headValid (h : Nat) (mem : List Byte) (chain : Chain) (s : State) : Bool :=
  let sigOk := headSigned mem chain
  let x := s.head h
  memForm mem && mem.length == x.memSize && leAt mem 24 16 == x.identity && leAt mem 6 2 == x.slots
    && bitAt (leAt mem 8 1) (s.par (Par.at_ Par.laneURate (2 * h))) && s.headChainOk chain && sigOk
    && !(List.range 16).any (fun u => u != h && s.attached u && (s.head u).identity == x.identity)

/-- The ceiling of R269. -/
def State.rateCeiling (s : State) (h : Nat) : Nat := if s.par (Par.at_ Par.laneURate (2 * h)) = 0 then 168000 else 240000

/-- A head cannot carry its window, its mapping or an accepted segment of its port (R210, R283). -/
def State.cannotCarry (s : State) (h : Nat) : Bool :=
  let n := s.slots h
  n < s.colCount h * s.nozPerCol h || (s.nozPerCol h == 2 && s.par (Par.at_ Par.headUPairMode h) == 1 && n % 2 == 1)
    || s.spool.segs.any (fun g => g.live && bitAt g.heads h &&
      (decide (s.maxLineRate h < g.rate) || decide ((s.lanesUp h).length * s.payload h * 1000000 < n * g.depth * g.rate)))

/-- MEM_READ for the next bytes of the first read of a head's memory. -/
def State.sendMemRead (h : Nat) (s : State) : State :=
  match (s.head h).reads with
  | [] => s
  | r :: _ =>
    let tag := ((s.head h).rtag + 1) % 256
    (s.modHead h (fun x => { x with rtag := tag })).toHead h 4
      [tag, min 512 (r.total - r.data.length), r.offset + r.data.length] []

/-- Queues a read of a head's memory. -/
def State.readMem (h : Nat) (r : MemRead) (s : State) : State :=
  let first := (s.head h).reads.isEmpty
  (s.modHead h (fun x => { x with reads := x.reads ++ [r] })).when first (State.sendMemRead h)

/-! ## Attach (R283) -/

/-- HEAD[h].MAX_LINE_RATE under the present lane rate (R269). -/
def State.newCeiling (h : Nat) (s : State) : State :=
  s.when ((s.head h).phase == 2 && (s.head h).auth) (State.setPar (Par.at_ Par.headUMaxLineRate h) (min (leAt (s.head h).mem 12 4) (s.rateCeiling h)))

/-- The attached head says HELLO again, on a lane that came up (R269, R283): its ceiling follows the port's lane rate, a head that the
port can no longer carry is refused with EV040 reason 2, and a MEM_READ of its header ends the HELLOs (DESIGN CHOICE, log entry 158). -/
def State.helloAgain (h : Nat) (s : State) : State :=
  let s := s.newCeiling h
  let x := s.head h
  let bad := x.auth && (s.cannotCarry h || !bitAt (leAt x.mem 8 1) (s.par (Par.at_ Par.laneURate (2 * h))))
  let s := if bad == x.nocap then s
    else ((s.modHead h (fun x => { x with nocap := bad })).when bad (State.raise Ev.headFault h [2, 0])).hpenUpdate h
  s.readMem h ⟨3, 0, 0, 256, []⟩

/-- HEAD_HELLO (R28, R283, R284, R307): a head's presence on a lane. -/
def execHeadHello (t lane identity slots memSize : Nat) (s : State) : Outcome State Fault Refusal :=
  let s := s.at_ t
  let h := lane / 2
  let x := s.head h
  if 32 ≤ lane ∨ !s.laneIsUp lane ∨ s.holding (4 + lane / 4) then .next s
  else
    let o := if lane % 2 = 0 then lane + 1 else lane - 1
    let s := s.modHead h (fun x => { x with laneIds := assoc (lane % 2) identity x.laneIds })
    if s.laneIsUp o ∧ (lookup (o % 2) x.laneIds).elim false (· != identity) then
      .next (s.laneDown (if (s.lane lane).upAt < (s.lane o).upAt then o else lane) 0xA)
    else if x.phase = 1 ∧ x.identity = identity then .next (s.sendMemRead h)
    else if x.phase = 2 ∧ x.identity = identity then .next (if x.reads.any (fun r => r.kind == 3) then s.sendMemRead h else s.helloAgain h)
    else
      let s := if x.phase = 2 then s.headLost h 2 else s.dropReads h
      let s := s.modHead h (fun x => { x with
        phase := 1, identity := identity % 2 ^ 128, slots := slots % 2 ^ 14, memSize := memSize % 2 ^ 32, mem := [], lastStatus := s.now })
      .next ((s.publish h).readMem h ⟨0, 0, 0, max 4 (min 65536 (memSize / 4 * 4)), []⟩)

/-- Why a port's ledger is rebuilt when a head attaches (R231, R450), if it is; a mapping that changed while the same head was away rebuilds
it then (R211). -/
def State.rebuildReason (s : State) (h : Nat) : Option Nat :=
  match (s.ledger h).identity with
  | none => some (if s.comp.untrusted then 3 else 2)
  | some i => if i ≠ (s.head h).identity then some 1 else if (s.ledger h).remap then some 4 else none

/-- The head's tables (R274, R288): the recipe in force and every slot's VERNIER. -/
def State.sendTables (h : Nat) (s : State) : State :=
  (s.sendTable h 2 0 (leBytes 140 (s.par (Par.at_ Par.headURecipe h)))).sendVerniers h

/-- A memory has been read, `whole` unless an error ended it (R156, R273, R283): the head is authenticated, its ledger rebuilt or kept, its tables sent and its
power applied; EV042 where authentication fails and EV040 reason 2 where it cannot carry its port. -/
def State.attachHead (h : Nat) (mem : List Byte) (chain : Chain) (whole : Bool) (s : State) : State :=
  let ok := whole && s.headValid h mem chain
  let x := s.head h
  let s := (s.setPar (Par.at_ Par.headUIdentity h) x.identity).setPar (Par.at_ Par.headUTempMax h) 0x8000
  let s := s.modHead h (fun x => { x with
    mem := mem, sigOk := whole && headSigned mem chain, nocap := false, powerFail := false, fault := false, faultGone := none, lastStatus := s.now, tempSum := 0, tempN := 0, tickAt := s.now })
  if !ok then ((s.modHead h (fun x => { x with phase := 2, auth := false })).raise Ev.headAuthFail h []).hpenUpdate h
  else
    let s := (s.setPar (Par.at_ Par.headUSlots h) (leAt mem 6 2)).setPar (Par.at_ Par.headURank h) (leAt mem 5 1 % 16)
    let s := s.setPar (Par.at_ Par.headUMaxLineRate h) (min (leAt mem 12 4) (s.rateCeiling h))
    let s := match s.rebuildReason h with
      | some r => (s.rebuild h r).modLedger h (fun l => { l with identity := some x.identity })
      | none => s
    let s := s.when (x.lastIdent != some x.identity) (State.setPar (Par.at_ Par.headURecipe h) (defaultRecipe mem))
    let s := s.movingHead h (State.modHead h (fun x => { x with phase := 2, auth := true, lastIdent := some x.identity }))
    let s := s.sendTables h
    if s.cannotCarry h then
      ((s.modHead h (fun x => { x with nocap := true })).raise Ev.headFault h [2, 0]).hpenUpdate h
    else ((s.hpenUpdate h).bump (Par.at_ Par.headUAttaches h) 1).raise Ev.headAttached h []

/-- HEAD_REAUTH ends (R156): a head that fails is not powered. -/
def State.reauthHead (h cid : Nat) (mem : List Byte) (chain : Chain) (whole : Bool) (s : State) : State :=
  let ok := whole && s.headValid h mem chain
  let s := s.movingHead h (State.modHead h (fun x => { x with auth := ok, sigOk := whole && headSigned mem chain }))
  let s := (if ok then s else s.raise Ev.headAuthFail h []).hpenUpdate h
  s.finish cid St.ok 0 (.fields [("HEAD", h), ("RESULT", if ok then 0 else 1)])

/-- What MEM_DATA does (R283, R289): bytes of a head's memory; `chain` is what the Shell finds of the chain of a whole memory. -/
def State.memData (head rtag : Nat) (error : Bool) (data : List Byte) (chain : Chain) (s : State) : State :=
  let x := s.head head
  match x.reads with
  | [] => s
  | r :: rest =>
    let want := min 512 (r.total - r.data.length)
    if rtag ≠ x.rtag ∨ (!error && data.length != want) then s
    else
      let got := if error then r.data else r.data ++ data
      if !error && got.length < r.total then
        (s.modHead head (fun x => { x with reads := { r with data := got } :: rest })).sendMemRead head
      else
        let s := s.modHead head (fun x => { x with reads := rest })
        let s := if r.kind = 0 then s.attachHead head got chain (!error && !s.shell.tampered)
          else if r.kind = 1 ∧ s.shell.tampered then s.finish r.cid St.shellFault 0 (.bytes [])
          else if r.kind = 1 then s.reauthHead head r.cid got chain (!error)
          else if r.kind = 2 then s.finish r.cid St.ok 0 (.bytes ([if x.sigOk then 0 else 1, 0, 0, 0] ++ got))
          else s
        s.sendMemRead head

/-- MEM_DATA (R286). -/
def execMemData (t lane rtag : Nat) (error : Bool) (data : List Byte) (chain : Chain) (_sigOk : Computed) (s : State) :
    Outcome State Fault Refusal :=
  .next ((s.at_ t).onCopy lane ([0x84, rtag, bit error 0] ++ data.map BitVec.toNat) (State.memData (lane / 2) rtag error data chain))

/-! ## STATUS (R275-R277, R282, R285, R288) -/

/-- A table message is echoed by a TSEQ: it is the one named or an earlier one. -/
def echoed (m : TableMsg) (kind tseq : Nat) : Bool := m.kind == kind && (tseq + 256 - m.tseq) % 256 < 128

/-- What STATUS does (R275-R277, R282, R285, R288): TEMP, FLAGS, FAULT_CODE and the TSEQs of a head's STATUS message. -/
def State.headStatus (head temp flags faultCode recipeTseq vernierTseq : Nat) (s : State) : State :=
  let x := s.head head
  if x.phase ≠ 2 then s
  else
    let s := s.when (decide (x.lastStatus + 100000 < s.now)) (State.bump (Par.at_ Par.headUStatusGaps head) 1)
    let r := signed 16 temp
    let s := s.setPar (Par.at_ Par.headUTemp head) (temp % 65536)
    let s := s.when (decide (signed 16 (s.par (Par.at_ Par.headUTempMax head)) < r)) (State.setPar (Par.at_ Par.headUTempMax head) (temp % 65536))
    let s := s.modHead head (fun x => { x with
      lastStatus := s.now, tempSum := x.tempSum + r, tempN := x.tempN + 1
      tables := x.tables.filter (fun m => !(echoed m 2 recipeTseq || echoed m 3 vernierTseq)) })
    let s := if x.hpen && x.good && !bitAt flags 0 then s.headLost head 3
      else if x.hpen && !x.good && bitAt flags 0 then (s.modHead head (fun x => { x with good := true })).publish head
      else s
    let s := if bitAt flags 1 then
        let s := s.modHead head (fun x => { x with faultGone := none })
        if x.fault then s
        else ((s.modHead head (fun x => { x with fault := true, faultCode := faultCode % 256 })).raise Ev.headFault head
          [1, BitVec.ofNat 8 faultCode]).publish head
      else s.modHead head (fun x => { x with faultGone := if x.fault && x.faultGone.isNone then some s.now else x.faultGone })
    s.when x.auth (State.judgeTemp head (temp % 65536))

/-- STATUS (R286). -/
def execStatus (t lane temp flags faultCode recipeTseq vernierTseq : Nat) (s : State) : Outcome State Fault Refusal :=
  .next ((s.at_ t).onCopy lane [0x82, temp, flags, faultCode, recipeTseq, vernierTseq]
    (State.headStatus (lane / 2) temp flags faultCode recipeTseq vernierTseq))

/-- Whether an Expert parameter is pinned (R92). -/
def State.pinned (s : State) (id : Nat) : Bool := s.pins.any (fun p => p.id == id)

/-- TEMP_LOOP_TICK (R14, R275): every 10 ms the policy pair moves PREHEAT toward the set point; a pin or a restart holds it. -/
def execTempLoopTick (t head : Nat) (s : State) : Outcome State Fault Refusal :=
  let s := s.at_ t
  let x := s.head head
  if 16 ≤ head ∨ x.phase ≠ 2 ∨ s.now < x.tickAt + 10000000 then .next s
  else
    let set := signed 16 (s.par (Par.at_ Par.headUTempSet head))
    let p := s.par (Par.at_ Par.headUPreheat head)
    let new := if x.tempN = 0 then p
      else if (set + 8) * x.tempN < x.tempSum then p - 1
      else if x.tempSum < (set - 8) * x.tempN then min 16 (p + 1) else p
    let s := s.modHead head (fun x => { x with tempSum := 0, tempN := 0, tickAt := s.now })
    .next (s.when (s.loopsRun && !s.pinned (Par.at_ Par.headUPreheat head)) (State.setPar (Par.at_ Par.headUPreheat head) new))

/-- POWER_GOOD_TIMEOUT (R282). -/
def execPowerGoodTimeout (t head : Nat) (s : State) : Outcome State Fault Refusal :=
  let s := s.at_ t
  let x := s.head head
  if 16 ≤ head ∨ !x.hpen ∨ x.good ∨ s.now < x.hpenAt + 100000000 then .next s
  else .next (((s.modHead head (fun x => { x with powerFail := true })).raise Ev.headFault head [3, 0]).hpenUpdate head)

/-- HEAD_FAULT_CLEAR (R285): FAULT has read 0 for 10 ms. -/
def execHeadFaultClear (t head : Nat) (s : State) : Outcome State Fault Refusal :=
  let s := s.at_ t
  match (s.head head).faultGone with
  | some g =>
    if g + 10000000 ≤ s.now then .next ((s.modHead head (fun x => { x with fault := false, faultGone := none })).publish head) else .next s
  | none => .next s

/-- STATUS_SILENCE (R284): no STATUS for 1 ms while a lane is up. -/
def execStatusSilence (t head : Nat) (s : State) : Outcome State Fault Refusal :=
  let s := s.at_ t
  let x := s.head head
  if 16 ≤ head ∨ x.phase ≠ 2 ∨ (s.lanesUp head).isEmpty ∨ s.now < x.lastStatus + 1000000 then .next s else .next (s.headLost head 1)

/-- TABLE_RESEND (R288): a table message not echoed within 200 µs goes again, for the next line; lines it should have
governed are kind 2 with cause 0x05. -/
def execTableResend (t head kind tseq : Nat) (s : State) : Outcome State Fault Refusal :=
  let s := s.at_ t
  match (s.head head).tables.find? (fun m => m.kind == kind && m.tseq == tseq) with
  | none => .next s
  | some m =>
    if s.now < m.sentAt + 200000 then .next s
    else
      let f := s.fireHead head
      let n := (f.lseq + 65536 - m.apply_) % 65536
      let missed := f.recent.filter (fun l => (l.lseq + 65536 - m.apply_) % 65536 < n)
      let s := s.each missed (fun l s => (s.mark head (l.items.map (fun i => (i.1, i.2.1))) 5 2 0).countLine head false true)
      let s := s.modHead head (fun x => { x with tables := x.tables.map (fun y =>
        if y.kind = kind ∧ y.tseq = tseq then { y with sentAt := s.now, apply_ := f.lseq } else y) })
      .next ((s.bump (Par.at_ Par.headUTableResends head) 1).toHead head kind [f.lseq, tseq, m.first, m.data.length] m.data)

/-! ## Gates (R278-R280) -/

/-- Sends GATE with a state on every lane of a head that is UP. -/
def State.sendGate (h st : Nat) (s : State) : State :=
  s.each (s.lanesUp h) (fun u s => ((s.emit (.marker u 0x55 st)).lineOut u (Tx.marker [(2, 0x55), (2, st)])).bump (Par.at_ Par.laneUGateTx u) 1)

/-- When a GATE sent at an instant reaches the head, by the longest latency of its lanes UP. -/
def State.gateArrival (s : State) (h at_ : Nat) : Nat := at_ + ((s.lanesUp h).map (fun u => s.par (Par.at_ Par.laneULatency u))).foldl max 0

/-- GATE goes to a head (R279, R442): every head-line sent and not acknowledged waits for the report. -/
def State.gateHead (h cause : Nat) (s : State) : State :=
  let s := s.sendGate h 1
  s.modFire h (fun f => { f with sent := f.sent.map (fun l => { l with gated := l.gated.getD (cause, s.now) }) })

/-- EV020 for the segments whose first line under a cause waited for a report (R44, R279), with the column reached on it. -/
def State.raiseWaiting (h cause : Nat) (s : State) : State :=
  s.each (s.spool.segs.filter (fun g => g.live && bitAt g.heads h && !g.causes.contains cause)) (fun g s =>
    let rs := g.ranges.filter (fun r => r.head == h && r.cause == cause && r.breaks)
    match (rs.map Range.first).min? with
    | none => s
    | some i => s.breakSeg g.handle h [(cause, i)] (((rs.find? (fun r => r.first == i && r.kind == 1)).map Range.column).getD (s.colFirst h)))

/-- What a GATE made of the head-lines that met it is known (R279): the line in progress is kind 1 with a column, one that had not
started kind 0, and one that had completed waits for its LINE_ACK. -/
def State.gateOutcome (h : Nat) (inProgress notStarted : HeadLine → Bool) (column : Nat) (s : State) : State :=
  let waiting := (s.fireHead h).sent.filter (fun l => l.gated.isSome)
  let broken := waiting.filter (fun l => inProgress l || notStarted l)
  let s := s.each broken (fun l s =>
    let c := l.gated.elim 0 Prod.fst
    (s.markSent h l c (if inProgress l then 1 else 0) (if inProgress l then column else 0)).when (c == 3) (State.bump (Par.at_ Par.fireUGateBreaks h) 1))
  let s := s.modFire h (fun f => { f with sent := f.sent.map (fun l => { l with gated := none, broke := l.broke || broken.any (fun b => b.lseq == l.lseq) }) })
  let s := s.each ((waiting.filterMap (fun l => l.gated.map Prod.fst)).eraseDups) (State.raiseWaiting h)
  s.each broken (State.dropLine h)

/-- Whether a head-line had not started, or was in progress with its last phase and vernier, when its GATE reached the head (R271). -/
def State.unstarted (s : State) (h : Nat) (l : HeadLine) : Bool := decide (s.gateArrival h (l.gated.elim 0 Prod.snd) < l.fireAt)
def State.running (s : State) (h : Nat) (l : HeadLine) : Bool :=
  let a := s.gateArrival h (l.gated.elim 0 Prod.snd)
  decide (l.fireAt ≤ a) && decide (a < l.fireAt + l.period * 126 / 64)

/-- GATE_ACTIVATE (R278): the input has held its active level for its filter. -/
def execGateActivate (t gate : Nat) (s : State) : Outcome State Fault Refusal :=
  let s := s.at_ t
  let role := s.par (Par.posGate0Role + 4 * gate)
  let heads := s.par (Par.posGate0Heads + 4 * gate)
  if 6 ≤ gate ∨ role = 0 ∨ 5 < role ∨ (nth s.fire.gates ⟨false, 0, 0⟩ gate).active then .next s
  else
    let s := { s with fire := { s.fire with gates := modNth (fun _ => ⟨true, heads, role⟩) gate s.fire.gates } }
    let s := s.each (maskUnits 16 heads) (fun h s => s.gateHead h 3)
    let s := s.when (role == 4) (fun s => s.each (maskUnits 16 heads) State.hpenUpdate)
    .next (s.raiseKeyed Ev.gateActive 0 gate (leBytes 1 gate ++ leBytes 1 role ++ leBytes 2 heads))

/-- A gate ends (R280): GATE with STATE 0 to the heads that no other gate holds; heads of a guard power again. -/
def State.releaseGate (n : Nat) (s : State) : State :=
  let g := nth s.fire.gates ⟨false, 0, 0⟩ n
  if !g.active then s
  else
    let s := { s with fire := { s.fire with gates := modNth (fun g => { g with active := false }) n s.fire.gates } }
    let s := s.each ((maskUnits 16 g.heads).filter (fun h => !s.gated h && !s.fire.sag)) (fun h s => s.sendGate h 0)
    let s := s.when (g.role == 4) (fun s => s.each (maskUnits 16 g.heads) State.hpenUpdate)
    s.endCond Ev.gateActive n

/-- GATE_RELEASE (R280): the input has been inactive for its filter. -/
def execGateRelease (t gate : Nat) (s : State) : Outcome State Fault Refusal :=
  let s := s.at_ t
  if 6 ≤ gate then .next s else .next (s.releaseGate gate)

/-- What GATE_REPORT does (R279): FLAG names the line in progress and the phases that it completed; lines after it had not started. -/
def State.gateReport (head lseq flag mask : Nat) (s : State) : State :=
  if flag % 2 = 0 then s.gateOutcome head (fun _ => false) (s.unstarted head) 0
  else
    let after := fun (l : HeadLine) => decide ((l.lseq + 65536 - lseq % 65536) % 65536 < 32768)
    s.gateOutcome head (fun l => l.lseq == lseq) after (s.phaseColumn head (2 ^ 64 - 1 - mask % 2 ^ 64))

/-- GATE_REPORT (R286). -/
def execGateReport (t lane lseq flag mask : Nat) (s : State) : Outcome State Fault Refusal :=
  .next ((s.at_ t).onCopy lane [0x85, lseq, flag, mask] (State.gateReport (lane / 2) lseq flag mask))

/-- GATE_REPORT_TIMEOUT (R279): no report within 100 µs; COLUMN is COL_FIRST. -/
def execGateReportTimeout (t head : Nat) (_lseq : Computed) (s : State) : Outcome State Fault Refusal :=
  let s := s.at_ t
  if (s.fireHead head).sent.any (fun l => l.gated.elim false (fun g => decide (g.2 + 100000 ≤ s.now))) then
    .next (s.gateOutcome head (s.running head) (s.unstarted head) (s.colFirst head))
  else .next s

/-! ## Readback (R483) -/

/-- HPEN_READBACK_FAULT (R483): a ball, HPEN0-HPEN15 as 0-15, REJ0 and REJ1 as 16 and 17, disagrees with its drive for 10 µs. -/
def execHpenReadbackFault (t ball : Nat) (s : State) : Outcome State Fault Refusal :=
  let s := s.at_ t
  if 18 ≤ ball then .next s
  else if 16 ≤ ball then .next (s.raise Ev.rejectFault 0 [BitVec.ofNat 8 (ball - 16), 4])
  else if (s.head ball).readback then .next s
  else .next (((s.modHead ball (fun x => { x with readback := true })).raise Ev.headFault ball [4, 0]).publish ball)

/-- HPEN_READBACK_AGREE (R483). -/
def execHpenReadbackAgree (t head : Nat) (s : State) : Outcome State Fault Refusal :=
  let s := s.at_ t
  if 16 ≤ head then .next s else .next ((s.modHead head (fun x => { x with readback := false })).publish head)

/-! ## Commands -/

/-- HEAD_MEMORY_READ. -/
def effHeadMemoryRead : Effect := fun c s =>
  needLen c 8 s <|
  let h := leAt c.body 0 1
  let n := leAt c.body 2 2
  let off := leAt c.body 4 4
  if 16 ≤ h then refuse St.valueRange 8 s
  else if n < 4 ∨ 4096 < n ∨ n % 4 ≠ 0 then refuse St.valueRange 10 s
  else needZero c 1 1 s <| needLearn c .headCal s <|
  if (s.head h).phase ≠ 2 then refuse St.headNotReady h s
  else if (s.head h).memSize < off + n then refuse St.valueRange 12 s
  else (s.readMem h ⟨2, c.cid, off, n, []⟩, .later)

/-- HEAD_POWER (R281). -/
def effHeadPower : Effect := fun c s =>
  needLen c 4 s <|
  let h := leAt c.body 0 1
  let on := leAt c.body 1 1
  if 16 ≤ h then refuse St.valueRange 8 s
  else if 2 ≤ on then refuse St.valueRange 9 s
  else needZero c 2 2 s <| needChange c .oper s <| needOwner c s <|
  if on = 1 ∧ !s.attached h then refuse St.headNotReady h s
  else okay 0 [] ((s.modHead h (fun x => { x with cmd := some (on == 1), powerFail := x.powerFail && on == 0 })).hpenUpdate h)

/-- HEAD_REAUTH (R156). -/
def effHeadReauth : Effect := fun c s =>
  needLen c 4 s <|
  let h := leAt c.body 0 1
  if 16 ≤ h then refuse St.valueRange 8 s
  else needZero c 1 3 s <| needChange c .oper s <| needOwner c s <|
  if (s.head h).phase ≠ 2 then refuse St.headNotReady h s
  else (s.readMem h ⟨1, c.cid, 0, max 4 (min 65536 ((s.head h).memSize / 4 * 4)), []⟩, .later)

def execHeadMemoryRead (t : Nat) (h : Hdr) (b : List Byte) (s : State) : Outcome State Fault Refusal :=
  .next (hostRow (.headMemoryRead t h b) 0x0B01 t h b effHeadMemoryRead s)

def execHeadPower (t : Nat) (h : Hdr) (b : List Byte) (s : State) : Outcome State Fault Refusal :=
  .next (hostRow (.headPower t h b) 0x0B02 t h b effHeadPower s)

def execHeadReauth (t : Nat) (h : Hdr) (b : List Byte) (s : State) : Outcome State Fault Refusal :=
  .next (hostRow (.headReauth t h b) 0x0B04 t h b effHeadReauth s)

end Sys2Proof.Machine
end

