-- ==== Sys2Proof/Machine/Power.lean ====
section
/-! DEFINITION. Resets, the sag sequence and the save, start-up, restore, the restart report, ledger checkpoints, the firmware
bank and the firmware switch (20_power_boot_and_holdup.md). -/
namespace Sys2Proof.Machine
open Host

/-! ## Device reset (R434-R436) -/

/-- What the outputs do as the device goes into reset (R431, R435): HPEN low, REJ and LTRIG deasserted, HOLD_TST low. -/
def State.resetPins (s : State) : List Out :=
  (((List.range 16).filter (fun h => (s.head h).hpen)).map (fun h => Out.pin (hpenName h) 0))
    ++ [.pin "REJ0" 0, .pin "REJ1" 0, .pin "LTRIG0" 0, .pin "LTRIG1" 0, .pin "LTRIG2" 0, .pin "LTRIG3" 0] ++ (if s.cal.holdup.isSome then [.pin "HOLD_TST" 0] else [])

/-- A device reset of a kind (R435): everything is cleared but the fuses, the boot flash, the save store and, outside the
device's reach, the TAP; a new spool key is drawn (R146); SEGMENTS broken by a pin-driving instruction stay known over a SYSTEM reset (R490). -/
def State.deviceReset (kind : Nat) (s : State) : State :=
  let r := State.reset
  let r := { r with
    nextCid := s.nextCid, draws := s.draws + 1, readings := s.readings, pending := s.pending, out := s.out ++ s.resetPins
    shell := { r.shell with
      drk := s.shell.drk, spoolKey := (Config.random s.draws).toNat % 2 ^ 256, slots := s.shell.slots, strap := s.shell.strap }
    power := { r.power with
      banks := s.power.banks, select := s.power.select, store := s.power.store, driven := if kind = 2 then s.power.driven else [] }
    test := { s.test with captures := [], bist := [] } }
  let r := (r.setPar Par.powerResetKind kind).setPar Par.powerSaveSeq s.power.store.seq
  let r := (r.setPar Par.shellSvnFuse (s.par Par.shellSvnFuse)).setPar Par.devSerial (s.par Par.devSerial)
  (r.setPar Par.testTestEn (s.par Par.testTestEn)).setPar Par.testInstruction (s.par Par.testInstruction)

/-- A save reaches the save store with its first `n` sections (R449); with none, the store still holds the save before. -/
def State.storeSave (n : Nat) (v : Save) (s : State) : State :=
  let s := s.when (3 ≤ n) State.writeRing
  if n = 0 then s
  else
    let st := s.power.store
    let s := s.emit (.store "SAG" [v.seq, n])
    let st := st.ctrlWrite (fun st => { st with
      seq := v.seq
      state := 1
      utcFloor := if s.shell.utcStoreDue then s.par Par.shellUtcFloor else st.utcFloor
      counter := st.counter + min n 5 })
    let st := if n = 6 then st.ctrlWrite (fun st => { st with state := 2, counter := st.counter + 1 }) else st
    { s with power := { s.power with saving := none, store := { st with save := some { v with sections := n } } } }

/-- PORST_ASSERT (R434, R436): reset without a save; a save in progress is abandoned with the sections that it completed. -/
def execPorstAssert (t sections : Nat) (s : State) : Outcome State Fault Refusal :=
  let s := s.at_ t
  let s := match s.power.saving with
    | some v => s.storeSave (min sections 5) v
    | none => s
  let r := s.deviceReset 1
  .next { r with power := { r.power with down := true } }

/-- PORST_RELEASE (R134): the COMMISSION strap is sampled and the boot chain starts; the time island counts from here. -/
def execPorstRelease (t : Nat) (strap : Bool) (s : State) : Outcome State Fault Refusal :=
  let s := s.at_ t
  if s.power.down && s.power.sag == 0 then
    .next { s with now := 0, shell := { s.shell with strap := strap }, power := { s.power with down := false } }
  else .next s

/-! ## The sag sequence (R441, R442) -/

/-- Time 0 of the sag sequence: every head is gated under a cause, and the save of a kind will follow. -/
def State.beginSave (kind cause : Nat) (s : State) : State :=
  let s := { s with power := { s.power with sag := 1, sagKind := kind, sagAt := s.ring } }
  s.each (List.range 16) (fun h s => s.gateHead h cause)

/-- REJ0 and REJ1 assert until the save ends (R442). -/
def State.sagRejects (s : State) : State :=
  s.each [0, 1] (fun n s => (s.modRej n (fun o => { o with sag := true })).driveRej n true)

/-- SAG_RECOGNISED (R441, R442, R467): the HOLD rail has stood below a threshold of at most 10.60 V; EV110, GATE on every lane up; during another save it changes nothing (R436). -/
def execSagRecognised (t mv : Nat) (s : State) : Outcome State Fault Refusal :=
  let s := s.at_ t
  if s.power.sag ≠ 0 ∨ s.power.down ∨ 10600 < mv then .next s
  else
    let s := s.setPar Par.powerHoldMv (mv % 65536)
    let s := { s with fire := { s.fire with sag := true } }.abandonHoldup
    let s := s.raise Ev.supplySag 0 []
    let s := s.when (s.par Par.powerSagReject == 1) State.sagRejects
    .next (s.beginSave 3 1)

/-- SAG_GLITCH (R441): a dip below the threshold is counted and nothing more. -/
def execSagGlitch (t mv : Nat) (s : State) : Outcome State Fault Refusal :=
  let s := s.at_ t
  .next (s.when (mv ≤ 10600) (fun s => (s.setPar Par.powerHoldMv (mv % 65536)).bump Par.powerSagGlitches 1))

/-- SYSRST_ASSERT (R434): saves as at a sag under cause 0x0C, then resets; during a save it changes nothing (R436). -/
def execSysrstAssert (t : Nat) (s : State) : Outcome State Fault Refusal :=
  let s := s.at_ t
  if s.power.sag ≠ 0 ∨ s.power.down then .next s
  else .next (({ s with fire := { s.fire with reset := true } }).beginSave 2 0xC)

/-- SAG_GATE_DONE (R442): lines in progress are recorded, and HPEN falls. -/
def execSagGateDone (t : Nat) (s : State) : Outcome State Fault Refusal :=
  let s := s.at_ t
  if s.power.sag ≠ 1 then .next s
  else
    let s := { s with power := { s.power with sag := 2 } }
    let s := s.each (List.range 16) (fun h s => s.gateOutcome h (s.running h) (s.unstarted h) (s.colFirst h))
    .next (s.each (List.range 16) State.hpenUpdate)

/-- The first line of a head not printed as promised (R186, R188, *Segment entry*): in a range that breaks the promise, its boundary not
passed, or a firing message of it not acknowledged. -/
def State.firstOpen (s : State) (g : Seg) (h : Nat) : Nat :=
  if !bitAt g.heads h then 0xFFFFFFFF
  else
    let n := (lookup h g.next).getD 0
    let n := ((List.range n).find? (s.awaitedLine g.handle h)).getD n
    (g.ranges.filter (fun r => r.head == h && r.breaks)).foldl (fun m r => min m r.first) n

/-- The segment entry of a PRINTING segment. -/
def State.saved (s : State) (g : Seg) : SavedSeg :=
  ⟨g.handle, g.state, g.next.all (fun x => x.2 == 0), false, g.isFlagged, g.heads, (List.range 16).map (s.firstOpen g)⟩

/-- The save (R445, R449): before the restore has ended there is no journal, and before phase 4 no recovery header. -/
def State.makeSave (s : State) : Save :=
  let full := decide (4 ≤ s.par Par.powerPhase) && s.par Par.powerPhase != 6
  let utc := s.par Par.shellUtcFloor + (s.power.sagAt - s.shell.utcBase) / 1000000000
  { seq := s.power.store.seq + 1
    kind := s.power.sagKind
    tSag := if full then s.power.sagAt else 0
    utc := if full then utc else 0
    counters := if full then accountIds.map s.par else List.replicate 9 0
    segs := if full then (s.spool.segs.filter (fun g => g.state == Sg.printing)).map s.saved else []
    journal := s.comp.journal
    log := s.evt.log.drop (s.evt.log.length - 512)
    header := full
    journalHeld := s.power.restored
    sections := 0 }

/-- SAVE_MODE_ENTRY (R442): transmitters off, sessions end with cause 0x06, and the save begins. -/
def execSaveModeEntry (t : Nat) (s : State) : Outcome State Fault Refusal :=
  let s := s.at_ t
  if s.power.sag ≠ 2 then .next s
  else
    let s := s.each (s.sessions.map Session.num) (fun n s => s.endSession n 6)
    let s := { s with power := { s.power with sag := 3 } }
    .next { s with power := { s.power with saving := some s.makeSave, ckptRun := none } }

/-- SAVE_COMPLETE (R449): the control block in state 2; after a sag the device is held in reset, else it resets and starts. -/
def execSaveComplete (t : Nat) (s : State) : Outcome State Fault Refusal :=
  let s := s.at_ t
  match s.power.saving with
  | none => .next s
  | some v =>
    let r := (s.storeSave 6 v).deviceReset s.power.sagKind
    if s.power.sagKind = 3 then .next { r with power := { r.power with down := true, sag := 4, sagKind := 3 } } else .next r

/-- HOLD_RESTART (R445): HOLD has been above 11.0 V for 50 ms, and the device starts with reset kind SAG. -/
def execHoldRestart (t mv : Nat) (s : State) : Outcome State Fault Refusal :=
  let s := s.at_ t
  if s.power.sag = 4 ∧ 11000 < mv then
    .next ({ s with now := 0, power := { s.power with down := false, sag := 0, sagKind := 0 } }.setPar Par.powerHoldMv (mv % 65536))
  else .next s

/-! ## The boot chain (R437-R439, R154) -/

/-- The bank that the select records name: the well-formed copy with the higher SEQ (R438). -/
def State.namedBank (s : State) : Nat :=
  match nth s.power.select none 0, nth s.power.select none 1 with
  | some a, some b => if a.1 < b.1 then b.2 else a.2
  | some a, none => a.2
  | none, some b => b.2
  | none, none => Config.firstBank.toNat

/-- The bytes of a select record (*Bank select record*). -/
def selectBytes (seq bank : Nat) : List Byte :=
  let b := leBytes 4 0x4C455341 ++ leBytes 4 seq ++ leBytes 1 bank ++ [0, 0, 0]
  b ++ leBytes 4 (crc32 b)

/-- SEQ and BANK of a select record that is well formed (R438). -/
def selectOf (b : List Byte) : Option (Nat × Nat) :=
  if b.length = 16 ∧ leAt b 0 4 = 0x4C455341 ∧ leAt b 8 1 < 2 ∧ zeroAt b 9 3 ∧ leAt b 12 4 = crc32 (b.take 12) then some (leAt b 4 4, leAt b 8 1)
  else none

/-- SHELL_ROM_DONE (R438, R457): the fuses with their calibration records, the entropy tests and the select records as read. -/
def execShellRomDone (t : Nat) (selA selB : List Byte) (serial : Nat) (macs : List Nat) (records : List (List Byte × List Byte)) (s : State) :
    Outcome State Fault Refusal :=
  let s := s.at_ t
  if s.power.down || s.par Par.powerPhase != 0 then .next s
  else
    let s := { s with power := { s.power with select := [selectOf selA, selectOf selB] } }
    let s := (s.setPar Par.powerPhase 1).setPar Par.devSerial (serial % 2 ^ 128)
    let s := s.setPar Par.shellCommissionState (if s.shell.strap then 1 else if (s.slot 0).kind = 0 then 0 else 2)
    let s := s.setIf (!s.shell.entropyFailed) Par.shellEntropyState 1
    let s := s.each (List.range 4) (fun p s => s.setPar (Par.at_ Par.fresyUMac p) (nth macs 0 p % 2 ^ 48))
    let s := s.each (List.range 9) (fun e s => s.readTrim e (nth records ([], []) e))
    -- TEST_EN is high still (R489, R490)
    let driving := [0x00, 0x04, 0x05, 0x06, 0x07].contains (s.par Par.testInstruction)
    .next (s.when (s.par Par.testTestEn == 1) (fun s =>
      ((s.setPar Par.devState 4).setIf driving Par.testPinDriven 1).raise Ev.testEnActive 0 []))

/-- EV006 for an image that the Shell refuses (R154): reason and SVN. -/
def State.refuseImage (bank : Nat) (i : ImageEv) (s : State) : State :=
  s.raise Ev.fwRefused 0 [(Config.fwReason bank i), BitVec.ofNat 8 i.svn]

/-- The image of a bank boots (R438): phase 2, with UTC_FLOOR from the larger of build time and save store (R132). -/
def State.boot (bank : Nat) (i : ImageEv) (s : State) : State :=
  let s := ((s.setPar Par.powerRunningBank bank).setPar Par.powerRunningSvn i.svn).setPar Par.devFwVersion (i.version % 2 ^ 32)
  let s := s.setPar Par.shellUtcFloor (max i.build s.power.store.utcFloor)
  { s.setPar Par.powerPhase 2 with shell := { s.shell with utcBase := s.ring } }

/-- Recovery starts (R154, R438); the spec gives the ROM firmware no build time, so SHELL.UTC_FLOOR starts from the save store alone
(DESIGN CHOICE, log entry 144). -/
def State.recover (s : State) : State :=
  let s := ((s.setPar Par.powerPhase 6).setPar Par.shellCommissionState 3).setPar Par.devState 3
  let s := s.setPar Par.shellUtcFloor s.power.store.utcFloor
  { s with shell := { s.shell with recoveryFw := true, utcBase := s.ring } }

/-- The image of a bank. -/
def State.bankImage (s : State) (b : Nat) : Option ImageEv := (nth s.power.banks ⟨none, 0, 0, []⟩ b).image

/-- The image of a bank, where the Shell accepts it (R154). -/
def State.bootable (s : State) (b : Nat) : Option ImageEv := (s.bankImage b).filter s.acceptable

/-- The Shell has refused the image that a bank holds. -/
def State.refuseBank (b : Nat) (s : State) : State :=
  match s.bankImage b with
  | some i => s.refuseImage b i
  | none => s

/-- IMAGE_VERIFIED (R154, R438): the named bank boots, else the other with EV112, else recovery. -/
def execImageVerified (t : Nat) (img0 img1 : Option ImageEv) (s : State) : Outcome State Fault Refusal :=
  let s := s.at_ t
  if s.power.down || s.par Par.powerPhase != 1 then .next s
  else
    let banks := s.power.banks.zipIdx.map (fun ((b, i) : Bank × Nat) => { b with image := if i = 0 then img0 else img1 })
    let s := { s with power := { s.power with banks := banks } }
    let n := s.namedBank
    match s.bootable n, s.bootable (1 - n) with
    | some i, _ => .next (s.boot n i)
    | none, some j =>
      .next (((s.refuseBank n).boot (1 - n) j).raise Ev.bootBankFallback 0 [BitVec.ofNat 8 n])
    | none, none => .next (((s.refuseBank n).refuseBank (1 - n)).recover)

/-- ENGINES_LOADED (R439): the engines pass their self-check, and handshakes are accepted; EV108 where the report is ready (R452). -/
def execEnginesLoaded (t : Nat) (s : State) : Outcome State Fault Refusal :=
  let s := s.at_ t
  if s.power.down || s.par Par.powerPhase != 2 then .next s
  else .next ((s.setPar Par.powerPhase 3).when s.power.restored (State.raise Ev.restartReportReady 0 []))

/-! ## Restore and the restart report (R419, R450-R452) -/

/-- A journal entry is replayed (R450). -/
def State.replay (e : JEntry) (s : State) : State :=
  match e.kind with
  | 1 =>
    let old := s.entry e.index e.slot
    let sets := bitsAt e.value 26 2 == 0 || bitsAt e.value 26 2 == 3
    (s.modLedger e.index (fun l => { l with entries := mset (fun _ => absentEntry) e.slot e.value l.entries })).when sets
      (State.modHist e.index e.slot (fun x => { x with
        baseRemap := if eRemap e.value = eRemap old then x.baseRemap else eRemap e.value
        basePlace := if ePlace e.value = ePlace old then x.basePlace else ePlace e.value }))
  | 5 =>
    let z : ZoneCol := { s.zoneCol (e.value % 4) (bitsAt e.value 2 1) (bitsAt e.value 8 8) with own := bitAt e.value 3, ownTo := none, agreed := bitAt e.value 3 }
    let rest := s.comp.zones.filter (fun y => !(y.plane == z.plane && y.side == z.side && y.j == z.j))
    { s with comp := { s.comp with zones := if z = bothPrint z.plane z.side z.j then rest else z :: rest } }
  | _ => s.holdChange ⟨e, false, false⟩

/-- The checkpoint is restored and the journal replayed; an untrusted ledger has no identity, so that every head rebuilds
(R231, R232, R450). -/
def State.restoreLedger (k : Ckpt) (journal : Option (List JEntry)) (s : State) : State :=
  let ls := k.ledgers.map (fun (l : Ledger) => { l with
    entries := l.places.foldl placed l.entries
    hist := (l.hist.map (fun e => (e.1, { noHist with baseRemap := e.2.baseRemap, basePlace := e.2.basePlace }))).filter (fun e => e.2 != noHist)
    places := [], chart := false, term := none, identity := if journal.isSome then l.identity else none })
  let s := { s with comp := { s.comp with
    ledgers := ls, tables := k.tables, fb := k.fb, zones := k.zones, untrusted := journal.isNone, journal := journal.getD [] } }
  let s := s.each (journal.getD []) State.replay
  let s := s.each (List.range 16) (fun t s => s.setPar (Par.compTable0 + t) (nth s.comp.tables 0 t))
  s.each (List.range 16) (fun h s => s.setPar (Par.compFbTableH0 + h) (nth s.comp.fb 15 h))

/-- The entries of the handle ring whose blocks verify (R446): 64 to a block. -/
def State.goodRing (s : State) (lost : List Nat) : List RingEnt :=
  (s.power.store.ring.zipIdx.filter (fun e => !lost.contains (e.2 / 64))).map Prod.fst

/-- The latest entry of each handle, in the order of the ring. -/
def latestEntries (r : List RingEnt) : List RingEnt :=
  (r.reverse.foldl (fun acc e => if acc.any (fun (a : RingEnt) => a.handle == e.handle) then acc else e :: acc) [])

/-- What the restart report says of a segment that was accepted and not finished (R451). -/
def reportOf (segs : Option (List SavedSeg)) (h : Nat) : SavedSeg :=
  match segs with
  | none => ⟨h, Sg.accepted, false, true, false, 0, List.replicate 16 0xFFFFFFFE⟩
  | some ss => (ss.find? (fun e => e.handle == h)).getD ⟨h, Sg.accepted, true, false, false, 0, List.replicate 16 0⟩

/-- The completion record of a segment that the reset finished (R188): what the save store does not hold is free. -/
def restartRecord (e : SavedSeg) (now : Nat) : Seg :=
  let f := fun (k : Nat) => (Config.restored e.handle k).toNat
  { segOf [] e.handle (f 0) 0 0 with
    state := Sg.broken, heads := e.heads, lines := f 1 % 2 ^ 19, p0 := signed 64 (f 2), tAccept := f 3, tFirst := f 4, tLast := now, byReset := true }

/-- The save store as the control block in use gives it (R450): the copy whose tag verifies, the later where both do; with neither, no
save is known (DESIGN CHOICE, log entry 175). -/
def Store.restored (latest older : Bool) (st : Store) : Store :=
  let c : Ctrl := if latest then st.ctrl else if older then st.older else ⟨0, 0, st.slot, 0, st.counter⟩
  { st with seq := c.seq, state := c.state, slot := c.slot, utcFloor := c.utcFloor, counter := max st.counter c.counter }

/-- RESTORE (R419, R450, R451): the ledger, the handle memory, the restart report and the log. The operands say which copies of the
control block, A then B, and which sections verify and which ring blocks do not. -/
def execRestore (t : Nat) (good : StoreOk) (headerOk journalOk logOk : Bool) (lostBlocks : List Nat) (s : State) : Outcome State Fault Refusal :=
  let s := s.at_ t
  let ctrlOk := good.ctrl
  let ckptOk := good.ckpt
  if s.power.restored || s.power.down || s.power.sag != 0 || s.par Par.powerPhase == 0 then .next s
  else
    let st := s.power.store.restored (nth ctrlOk false (if s.power.store.copyB then 1 else 0)) (nth ctrlOk false (if s.power.store.copyB then 0 else 1))
    let s := { s with power := { s.power with store := st } }.setPar Par.powerSaveSeq st.seq
    let v : Option Save := if st.state = 0 then none else st.save.filter (fun v => v.seq == st.seq)
    let ckpt := if ckptOk then st.ckpt else none
    let journal := match v with
      | some v => if journalOk && v.journalHeld && 4 ≤ v.sections then some v.journal else none
      | none => none
    let s := match ckpt with
      | some k => s.restoreLedger k journal
      | none => s
    -- the handle memory (R188) and the segments that the reset finished (R451)
    let header := v.filter (fun v => headerOk && v.header && 2 ≤ v.sections)
    let ents := latestEntries (s.goodRing lostBlocks)
    let cut := (ents.filter (fun e => e.state == Sg.accepted)).map (fun e => reportOf (header.map Save.segs) e.handle)
    let done := ents.map (fun e => (⟨e.handle, if e.state = Sg.accepted then Sg.broken else e.state,
      if e.state = Sg.cancelled then 0 else (Config.restoredLines e.handle).toNat,
      (if e.state = Sg.complete ∨ e.state = Sg.cancelled then 0 else 1) + bit (bitAt e.flags 3) 1 + bit (bitAt e.flags 0) 2
        + bit (bitAt e.flags 1) 3 + bit (bitAt e.flags 2) 4, 0⟩ : Done))
    let due := (ents.filter (fun e => e.state == Sg.accepted)).map (fun e => ({ e with state := Sg.broken } : RingEnt))
    let s := { s with spool := { s.spool with
      done := done
      records := cut.map (fun e => (⟨restartRecord e s.ring⟩ : Record)) } }
    let s := { s with power := { s.power with ringDue := s.power.ringDue ++ due } }.when s.power.retryAt.isNone State.writeRing
    -- the restart report
    let bad := !ctrlOk.all id || !ckptOk || !lostBlocks.isEmpty || (v.isSome && !(headerOk && journalOk && logOk))
    let kind := s.par Par.powerResetKind
    let report : Report :=
      { kind := kind
        flags := bit (st.state == 2) 0 + bit (st.state == 1) 1 + bit bad 2 + bit (ckpt.isNone || journal.isNone) 3
        seq := st.seq
        tSag := header.elim 0 Save.tSag
        utc := header.elim 0 Save.utc
        counters := header.elim (List.replicate 9 0) Save.counters
        segs := sortBy SavedSeg.handle (cut ++ s.power.driven) }
    let s := { s with power := { s.power with restored := true, report := some report, store := { s.power.store with state := 0 } } }
    -- the log: the saved entries, the record of the reset, then what this start-up has written so far
    let old := match v with
      | some v => if logOk && 5 ≤ v.sections then v.log else []
      | none => []
    let early := s.evt.log
    let s := { s with evt := { s.evt with
      log := old.zipIdx.map (fun ((e, i) : LogEntry × Nat) => { e with seq := i, preReset := true }), nextSeq := old.length } }
    let s := s.record 7 0x13 0 (leBytes 1 kind ++ leBytes 2 old.length)
    let s := s.each early (fun e s => s.addEntry 0 (s.numbered 0 e))
    let s := s.happen
    let ready := 3 ≤ s.par Par.powerPhase && s.par Par.powerPhase != 6
    let s := s.when ready (State.raise Ev.restartReportReady 0 [])
    let s := s.when (kind == 3) (State.raise Ev.supplySag 0 [])
    .next (s.when ((kind == 1 || kind == 2) && !cut.isEmpty) (State.raise Ev.externalReset 0 [BitVec.ofNat 8 kind]))

/-- The bytes of the restart report (*Restart report header*, *Segment entry*). -/
def Report.toBytes (r : Report) (counters : Bool) : List Byte :=
  leBytes 1 r.kind ++ leBytes 1 r.flags ++ [0, 0] ++ leBytes 4 r.segs.length ++ leBytes 8 r.seq ++ leBytes 8 r.tSag ++ leBytes 8 r.utc
    ++ r.counters.flatMap (fun c => leBytes 8 (if counters then c else 0)) ++ List.replicate 24 0
    ++ r.segs.flatMap (fun e => leBytes 8 e.handle ++ leBytes 1 e.state
      ++ leBytes 1 (bit e.nonePrinted 0 + bit e.unknown 1 + bit e.flagged 2) ++ leBytes 2 e.heads ++ [0, 0, 0, 0] ++ e.firstOpen.flatMap (leBytes 4))

/-- POWER_RESTART_REPORT (R452). -/
def effPowerRestartReport : Effect := fun c s =>
  needLen c 4 s <| needLearn c .spool s <|
  match s.power.report with
  | none => refuse St.notReady (s.par Par.powerPhase) s
  | some r =>
    let b := r.toBytes (learnRight c.role .counters == .all)
    let o := leAt c.body 0 4
    if b.length < o then refuse St.valueRange 8 s
    else okay 0 (leBytes 4 b.length ++ leBytes 4 o ++ ((b.drop o).take 8192)) s

/-- A head lane is UP or FAILED or out of training, or has no connected peer (R440): its latest load check found none, reason NO_LOAD or
LOAD_SHORT (R305). -/
def State.laneSettled (s : State) (u : Nat) : Bool :=
  let st := s.par (Par.at_ Par.laneUState u)
  decide (3 ≤ st) || (st == 1 && (s.par (Par.at_ Par.laneUReason u) == 3 || s.par (Par.at_ Par.laneUReason u) == 4))

/-- Whether ready to print, but for the phase (R440); a head that said HELLO within 1,200 ms has attached or been refused. -/
def State.r440 (s : State) : Bool :=
  let src := s.par Par.causePosSource
  s.par Par.dramState == 1 && s.power.restored && (List.range 32).all s.laneSettled
    && s.heads.all (fun (x : Head) => x.phase != 1 || decide (1200000000 < x.lastStatus))
    && (src == 0x7FF || src == s.address || (!s.cause.timeLost && s.cause.posAt.isSome))

/-- PHASE_READY (R439, R440): the print path comes up, and the device is ready once R440 holds: EV000. -/
def execPhaseReady (t : Nat) (s : State) : Outcome State Fault Refusal :=
  let s := s.at_ t
  let ph := s.par Par.powerPhase
  if s.power.down || s.power.sag != 0 || !(ph == 3 || ph == 4) then .next s
  else
    let s := s.setPar Par.powerPhase 4
    if s.r440 then
      let s := s.setPar Par.powerPhase 5
      let s := s.setPar Par.devState (if s.par Par.testTestEn = 1 then 4 else if s.par Par.shellCommissionState = 1 then 2 else 1)
      .next (s.raise Ev.deviceReady 0 [])
    else .next s

/-! ## The save store (R446, R447) -/

/-- SAVE_STORE_RETRY (R446): a write is read back; one that fails raises EV107 and is retried after 10 ms. -/
def execSaveStoreRetry (t : Nat) (good : Bool) (s : State) : Outcome State Fault Refusal :=
  let s := s.at_ t
  if good then
    let s := { s with power := { s.power with retryAt := none } }.writeRing
    let s := s.when s.shell.utcStoreDue State.storeUtc
    .next (s.endCond Ev.saveStoreFault 0)
  else .next ({ s with power := { s.power with retryAt := some (s.now + 10000000) } }.raise Ev.saveStoreFault 0 [])

/-- LEDGER_CHECKPOINT (R447): every 10 s, or at 4,096 journal entries, a snapshot of one instant is written. -/
def execLedgerCheckpoint (t : Nat) (s : State) : Outcome State Fault Refusal :=
  let s := s.at_ t
  if s.power.ckptRun.isNone && s.power.sag == 0 && !s.power.down && s.power.restored
      && (s.comp.ckptAt + 10000000000 ≤ s.now || 4096 ≤ s.comp.journal.length) then
    let k : Ckpt := ⟨s.comp.ledgers, s.comp.tables, s.comp.fb, s.comp.zones⟩
    .next { s with comp := { s.comp with ckptAt := s.now }, power := { s.power with ckptRun := some (k, s.comp.journal.length) } }
  else .next s

/-- CHECKPOINT_WRITTEN (R447, R448): the slot is marked valid, older journal entries go, and waiting groups have room; a write that
fails its read-back leaves the journal and is taken again. -/
def execCheckpointWritten (t : Nat) (good : Bool) (s : State) : Outcome State Fault Refusal :=
  let s := s.at_ t
  match s.power.ckptRun with
  | none => .next s
  | some (k, n) =>
    let s := { s with power := { s.power with ckptRun := none } }
    if !good then .next ({ s with comp := { s.comp with ckptAt := s.now - 9990000000 } }.raise Ev.saveStoreFault 0 [])
    else
      let st := s.power.store
      let s := { s with
        comp := { s.comp with journal := s.comp.journal.drop n }
        power := { s.power with store := { st.ctrlWrite (fun st => { st with slot := 1 - st.slot, counter := st.counter + 2 }) with ckpt := some k } } }
      let s := (s.emit (.store "CKPT" [1 - st.slot])).bump Par.powerCheckpoints 1
      .next ((s.admitGroups (s.comp.groups.length + 1)).endCond Ev.saveStoreFault 0)

/-! ## Rails (R472) -/

/-- RAIL_FAULT: a monitored rail or a reference, by its number (log entry 3). -/
def execRailFault (t rail : Nat) (s : State) : Outcome State Fault Refusal :=
  let s := s.at_ t
  if s.power.railBad.contains rail then .next s
  else .next ({ s with power := { s.power with railBad := rail :: s.power.railBad } }.raise Ev.railFault 0 [BitVec.ofNat 8 rail])

/-- RAILS_GOOD: every monitored rail and every reference is good again, and EV109 clears. -/
def execRailsGood (t : Nat) (s : State) : Outcome State Fault Refusal :=
  let s := s.at_ t
  .next ({ s with power := { s.power with railBad := [] } }.endCond Ev.railFault 0)

/-! ## Firmware (R453-R456) -/

/-- Bytes of a bank with data written at an offset; bytes between read erased. -/
def writeBank (d : List Byte) (off : Nat) (x : List Byte) : List Byte :=
  (d ++ List.replicate (off - d.length) 0xFF).take off ++ x ++ d.drop (off + x.length)

/-- The bank that is not running. -/
def State.idleBank (s : State) : Nat := 1 - s.par Par.powerRunningBank

/-- Changes a bank. -/
def State.modBank (b : Nat) (f : Bank → Bank) (s : State) : State := { s with power := { s.power with banks := modNth f b s.power.banks } }

/-- The data of a stage packet is in its bank: a whole image is verified (R453, R154), and the packet replies. -/
def State.staged (img : Option ImageEv) (s : State) : State × Verdict :=
  let b := s.idleBank
  let x := nth s.power.banks ⟨none, 0, 0, []⟩ b
  let reply := fun (s : State) => okayF [("held", x.held), ("staged", s.par Par.powerStaged)] s
  if x.held < x.length ∨ x.length = 0 then reply (s.setPar Par.powerStaged 1)
  else if s.shell.tampered then refuse St.shellFault 0 s
  else
    match img with
    | some i =>
      if s.acceptable i then reply ((s.modBank b (fun x => { x with image := some i })).setPar Par.powerStaged 2)
      else refuse St.signatureInvalid 0 ((s.setPar Par.powerStaged 3).refuseImage b i)
    | none => refuse St.signatureInvalid 0 ((s.setPar Par.powerStaged 3).refuseImage b ⟨false, false, 0, 0, 0⟩)

/-- POWER_FW_STAGE (R453). `length` is the length in the image header, 0 before it is held; `image` is what the Shell finds of a whole
image. -/
def effPowerFwStage (length : Nat) (image : Option ImageEv) : Effect := fun c s =>
  let off := leAt c.body 0 4
  let n := leAt c.body 4 2
  if c.body.length < 8 then refuse St.badLength 8 s
  else if 15728640 < off + n then refuse St.valueRange 8 s
  else if n < 4 ∨ 9000 < n ∨ n % 4 ≠ 0 then refuse St.valueRange 12 s
  else needLen c (8 + n) s <| needZero c 6 2 s <| needChange c .firmware s <| needOwner c s <|
  if s.power.switch.isSome ∨ s.power.switching.isSome then refuse St.segmentState 0 s
  else
    let b := s.idleBank
    if off = 0 then
      let s := s.modBank b (fun _ => ⟨none, length, 0, []⟩)
      (({ s with power := { s.power with erase := s.power.erase ++ [(c.cid, image)] } }).setPar Par.powerStaged 1, .pending)
    else
      let s := s.modBank b (fun x =>
        let d := writeBank x.data off (c.body.drop 8)
        { x with length := if x.length = 0 then length else x.length, data := d, held := d.length })
      s.staged image

/-- FW_BANK_ERASED (R453): the first packet's data is written, and it replies. -/
def execFwBankErased (t : Nat) (s : State) : Outcome State Fault Refusal :=
  let s := s.at_ t
  match s.power.erase with
  | [] => .next s
  | (cid, img) :: rest =>
    let s := { s with power := { s.power with erase := rest } }
    match s.flights.find? (fun f => f.cid == cid) with
    | none => .next s
    | some f =>
      let s := s.modBank s.idleBank (fun x =>
        let d := writeBank x.data 0 (f.body.drop 8)
        { x with data := d, held := d.length })
      match s.staged img with
      | (s, .done st d b) => .next (s.finish cid st d b)
      | (s, _) => .next s

/-- POWER_FW_SWITCH (R454): it waits for a firmware gap. -/
def effPowerFwSwitch : Effect := fun c s =>
  needLen c 4 s <| needZero c 1 3 s <| needChange c .firmware s <| needOwner c s <|
  if leAt c.body 0 1 ≠ s.idleBank ∨ s.par Par.powerStaged ≠ 2 ∨ s.power.switch.isSome ∨ s.power.switching.isSome then
    refuse St.segmentState 0 s
  else ({ s with power := { s.power with switch := some (c.cid, leAt c.body 0 1, s.now) } }, .pending)

/-- FIRMWARE_GAP (R454, R455): no segment is VERIFYING or VOTING and no other command is in flight; commands are held from here. -/
def execFirmwareGap (t : Nat) (s : State) : Outcome State Fault Refusal :=
  let s := s.at_ t
  match s.power.switch with
  | none => .next s
  | some (cid, b, _) =>
    if s.spool.segs.any (fun g => g.state == Sg.verifying || g.state == Sg.voting) || s.flights.any (fun f => f.cid != cid) then .next s
    else .next { s with power := { s.power with switch := none, switching := some (cid, b) } }

/-- FW_GAP_WAIT_EXPIRY (R454): no gap within POWER.FW_GAP_WAIT. -/
def execFwGapWaitExpiry (t : Nat) (s : State) : Outcome State Fault Refusal :=
  let s := s.at_ t
  match s.power.switch with
  | none => .next s
  | some (cid, _, since) =>
    if s.now < since + 1000000 * s.par Par.powerFwGapWait then .next s
    else .next ({ s with power := { s.power with switch := none } }.finish cid St.segmentState 0 (.bytes []))

/-- The select record of a bank is written into the copy that is not valid, with SEQ one higher (R455, R456). -/
def State.writeSelect (b : Nat) (s : State) : State :=
  let q := fun (i : Nat) => (nth s.power.select none i).elim 0 Prod.fst
  let useB := match nth s.power.select none 0, nth s.power.select none 1 with
    | some a, some b => decide (b.1 ≤ a.1)
    | some _, none => true
    | _, _ => false
  let i := if useB then 1 else 0
  let n := (max (q 0) (q 1) + 1) % 2 ^ 32
  { s with power := { s.power with select := modNth (fun _ => some (n, b)) i s.power.select } }.emit (.store "SELECT" [i, n, b])

/-- The switch ends (R455): the Shell verifies the staged image again (R154), and the new image runs, EV008 and OK; or the old one runs again, EV006 and 0x0502. -/
def State.switched (good : Bool) (s : State) : State :=
  match s.power.switching with
  | none => s
  | some (cid, b) =>
    let s := { s with power := { s.power with switching := none } }
    match (if good then s.bootable b else none) with
    | some i =>
      let s := s.writeSelect b
      let s := ((s.setPar Par.powerRunningBank b).setPar Par.powerRunningSvn i.svn).setPar Par.devFwVersion (i.version % 2 ^ 32)
      let s := s.setPar Par.powerStaged 0
      let s := s.when s.shell.recoveryFw (fun s =>
        let s := { s with shell := { s.shell with recoveryFw := false } }
        ((s.setPar Par.powerPhase 3).setPar Par.devState 0).setPar Par.shellCommissionState
          (if s.shell.strap then 1 else if (s.slot 0).kind = 0 then 0 else 2))
      (s.raise Ev.fwSwitched 0 [BitVec.ofNat 8 b, BitVec.ofNat 8 i.svn]).finish cid St.ok 0 (.bytes [])
    | none => (s.refuseBank b).finish cid St.unitFault 0x1300 (.bytes [])

/-! ## Commands -/

/-- POWER_STATUS. -/
def effPowerStatus : Effect := fun c s =>
  needLen c 0 s <| needLearn c .oper s <|
  okayF [("phase", s.par Par.powerPhase), ("resetKind", s.par Par.powerResetKind), ("vddCore", s.par Par.powerVddCore),
    ("vddCoreSet", s.par Par.powerVddCoreSet), ("holdMv", s.par Par.powerHoldMv), ("sag", s.power.sag),
    ("railsBad", s.power.railBad.length)] s

def execPowerStatus (t : Nat) (h : Hdr) (b : List Byte) (s : State) : Outcome State Fault Refusal :=
  .next (hostRow (.powerStatus t h b) 0x1301 t h b effPowerStatus s)

def execPowerFwStage (t : Nat) (h : Hdr) (b : List Byte) (length : Nat) (image : Option ImageEv) (s : State) : Outcome State Fault Refusal :=
  .next (hostRow (.powerFwStage t h b length image) 0x1302 t h b (effPowerFwStage length image) s)

def execPowerFwSwitch (t : Nat) (h : Hdr) (b : List Byte) (s : State) : Outcome State Fault Refusal :=
  .next (hostRow (.powerFwSwitch t h b) 0x1303 t h b effPowerFwSwitch s)

def execPowerRestartReport (t : Nat) (h : Hdr) (b : List Byte) (s : State) : Outcome State Fault Refusal :=
  .next (hostRow (.powerRestartReport t h b) 0x1304 t h b effPowerRestartReport s)

end Sys2Proof.Machine
end

