-- ==== Sys2Proof/Machine/Devc.lean ====
section
/-! DEFINITION. The core pairs, the pace monitors, the die temperature, the core voltage and the straits
(01_sound_and_islands.md; R432, R433, R458, R465). -/
namespace Sys2Proof.Machine
open Host

/-! ## Operating conditions (R19, cause 0x02) -/

/-- Whether the device is outside its operating conditions: a print-path pace below the floor, VDD_CORE below 0.70 V, or Tj above
105 °C. -/
def State.outsideUpdate (s : State) : State :=
  { s with fire := { s.fire with outside := decide (1680 < signed 16 (s.par Par.calTj)) || s.dev.low || !s.dev.paceGood.isEmpty } }

/-! ## Core pairs (R12-R14) -/

/-- A core pair: 0 the command pair, 1 the policy pair. -/
def State.pair (s : State) (p : Nat) : CorePair := if p = 0 then s.dev.cmd else s.dev.pol

/-- Changes a core pair. -/
def State.modPair (p : Nat) (f : CorePair → CorePair) (s : State) : State :=
  if p = 0 then { s with dev := { s.dev with cmd := f s.dev.cmd } } else { s with dev := { s.dev with pol := f s.dev.pol } }

/-- A pair restarts from its last checkpoint: EV001. -/
def State.restartPair (p : Nat) (s : State) : State :=
  (s.modPair p (fun x => { x with restart := some s.now })).raise Ev.corePairRestart 0 [BitVec.ofNat 8 p]

/-- A restart has failed: EV001 again, and a third failure within 60 s makes an ENGINE reset (R12, R434). -/
def State.restartFailed (p : Nat) (s : State) : State :=
  let fails := s.now :: (s.pair p).fails.filter (fun a => s.now < a + 60000000000)
  let s := (s.modPair p (fun x => { x with fails := fails })).restartPair p
  if 3 ≤ fails.length ∧ s.power.sag = 0 ∧ !s.power.down then ({ s with fire := { s.fire with reset := true } }).beginSave 4 0xC else s

/-- LOCKSTEP_MISMATCH (R12, R13): the pair restarts. A command that the command pair had taken and that had not reached its effect is
cut off; its reply follows the restart. -/
def execLockstepMismatch (t pair : Nat) (_cuts : Computed) (s : State) : Outcome State Fault Refusal :=
  let s := s.at_ t
  if 2 ≤ pair then .next s
  else
    let s := if (s.pair pair).restart.isSome then s.restartFailed pair else s.restartPair pair
    let cut := (s.flights.filter (fun f => !f.started && f.final.isNone)).map Flight.cid
    .next (s.when (pair == 0) (fun s => s.each cut (fun c s => s.finish c St.engineRestart 0 (.bytes []))))

/-- CORE_RESTART_TIMEOUT (R12): the restart is not complete within 50 ms. -/
def execCoreRestartTimeout (t pair : Nat) (s : State) : Outcome State Fault Refusal :=
  let s := s.at_ t
  match (s.pair pair).restart with
  | none => .next s
  | some a => if 2 ≤ pair ∨ s.now < a + 50000000 then .next s else .next (s.restartFailed pair)

/-! ## Core voltage (R18, R432, R433) -/

/-- Whether the policy pair may write VDD_CORE: its loops run, no pin holds it and no PMBus fault stands. -/
def State.mayTune (s : State) : Bool := s.loopsRun && !s.pinned Par.powerVddCoreSet && !s.cond Ev.pmbusFault 0

/-- VOUT_COMMAND to the regulator, at the address and page of the board record; 0 and 0 while no record is in use. -/
def State.vout (s : State) (mv : Nat) : Out := .pmbus (s.power.board.elim 0 Board.pmbusAddr) (s.power.board.elim 0 Board.pmbusPage) mv

/-- Inspection coverage falls short, or a pace monitor reads below 1,100 (R432). -/
def State.wantsPace (s : State) : Bool :=
  s.insp.coverLow.isSome || ((List.range 21).any (fun n => decide (s.par (Par.calPace01 + n) < 1100)))

/-- VOUT_COMMAND is written, within 700-850 mV. -/
def State.writeVdd (mv : Nat) (s : State) : State :=
  let v := max 700 (min 850 mv)
  { (s.setPar Par.powerVddCoreSet v).emit (s.vout v) with power := { s.power with vddAt := some s.now } }

/-- VDD_CORE_LOWER (R432): one step of 5 mV, at most once per 100 ms. -/
def execVddCoreLower (t : Nat) (s : State) : Outcome State Fault Refusal :=
  let s := s.at_ t
  let v := s.par Par.powerVddCoreSet
  if s.mayTune && 705 ≤ v && s.power.vddLowered + 100000000 ≤ s.now then
    .next ({ s with power := { s.power with vddLowered := s.now } }.writeVdd (v - 5))
  else .next s

/-- VDD_CORE_RAISE (R432): one step of 5 mV, at most once per 1 ms, while coverage or pace falls short. -/
def execVddCoreRaise (t : Nat) (s : State) : Outcome State Fault Refusal :=
  let s := s.at_ t
  let v := s.par Par.powerVddCoreSet
  if s.mayTune && s.wantsPace && v ≤ 845 && s.power.vddRaised + 1000000 ≤ s.now then
    .next ({ s with power := { s.power with vddRaised := s.now } }.writeVdd (v + 5))
  else .next s

/-- READ_VOUT_CHECK (R433): 1 ms after a write, the acknowledge, STATUS_WORD and READ_VOUT are judged; EV104 clears at the next good
transaction. -/
def execReadVoutCheck (t : Nat) (ack fault : Bool) (vout : Nat) (s : State) : Outcome State Fault Refusal :=
  let s := s.at_ t
  let due := match s.power.vddAt with
    | some a => decide (a + 1000000 ≤ s.now)
    | none => s.cond Ev.pmbusFault 0
  if !due then .next s
  else
    let v := vout % 1024
    let s := { s with power := { s.power with vddAt := none } }
    let s := s.when ack (fun s => ({ s.setPar Par.powerVddCore v with dev := { s.dev with low := decide (v < 700) } }).outsideUpdate)
    let set := s.par Par.powerVddCoreSet
    if !ack || fault || decide (set + 10 < v) || decide (v + 10 < set) then
      .next (s.when (!s.cond Ev.pmbusFault 0) (State.raise Ev.pmbusFault 0 []))
    else .next (s.endCond Ev.pmbusFault 0)

/-! ## Pace (R16, R19, R465) -/

/-- The number of a ring among all. -/
def ringIndex (n r : Nat) : Nat := ((List.range (n - 1)).map (fun m => ringsOf (m + 1))).sum + r

/-- The floor count of a ring (PACE_REF). -/
def State.paceFloor (s : State) (i : Nat) : Nat :=
  if (s.trim 8).fused then (nth (s.trim 8).values 0 i).toNat else (Config.paceFloor i).toNat

/-- The reading of a ring (R465). -/
def State.ringReading (s : State) (counts : List (List Nat)) (n r : Nat) : Nat :=
  let f := s.paceFloor (ringIndex n r)
  let c := nth (nth counts [] (n - 1)) 0 r
  if f = 0 then 4095 else min 4095 (1000 * c / f)

/-- Whether a ring is in use (CAL.PACE_RINGS). -/
def State.ringInUse (s : State) (n r : Nat) : Bool := decide (r < ringsOf n) && bitAt (s.par Par.calPaceRings) (2 * (n - 1) + r)

/-- The reading of a service, and the ring that ten windows of disagreement exclude (R465). -/
def State.servicePace (counts : List (List Nat)) (n : Nat) (s : State) : State × Nat :=
  let a := s.ringReading counts n 0
  let b := s.ringReading counts n 1
  match s.ringInUse n 0, s.ringInUse n 1 with
  | false, false => (s, 0xFFFF)
  | true, false => (s, a)
  | false, true => (s, b)
  | true, true =>
    if max a b - min a b ≤ 300 then ({ s with dev := { s.dev with paceApart := s.dev.paceApart.filter (fun x => x.1 != n) } }, min a b)
    else
      let k := (lookup n s.dev.paceApart).getD 0 + 1
      let s := { s with dev := { s.dev with paceApart := assoc n k s.dev.paceApart } }
      let low := if a ≤ b then 0 else 1
      let s := s.when (10 ≤ k) (fun s =>
        (({ s with dev := { s.dev with paceApart := s.dev.paceApart.filter (fun x => x.1 != n) } }).setPar Par.calPaceRings
          (s.par Par.calPaceRings - 2 ^ (2 * (n - 1) + low))))
      (s, max a b)

/-- What a reading of a print-path service makes of R19: EV002 at its second window below 1,000 with 10 mV more, and its end after two
windows at or above. -/
def State.judgePace (n reading : Nat) (s : State) : State :=
  if !printPath n || reading == 0xFFFF then s
  else if reading < 1000 then
    let k := (lookup n s.dev.paceLow).getD 0 + 1
    let s := { s with dev := { s.dev with paceLow := assoc n (min k 2) s.dev.paceLow } }
    if (lookup n s.dev.paceGood).isSome then { s with dev := { s.dev with paceGood := assoc n 0 s.dev.paceGood } }
    else if k < 2 then s
    else
      let s := { s with dev := { s.dev with paceGood := assoc n 0 s.dev.paceGood } }.outsideUpdate
      let s := s.raiseCore n Ev.paceBelowFloor 0 n s.ring 0 (leBytes 2 reading)
      s.when s.mayTune (State.writeVdd (s.par Par.powerVddCoreSet + 10))
  else
    let s := { s with dev := { s.dev with paceLow := s.dev.paceLow.filter (fun x => x.1 != n) } }
    match lookup n s.dev.paceGood with
    | none => s
    | some 0 => { s with dev := { s.dev with paceGood := assoc n 1 s.dev.paceGood } }
    | some _ => (({ s with dev := { s.dev with paceGood := s.dev.paceGood.filter (fun x => x.1 != n) } }).outsideUpdate).endCond Ev.paceBelowFloor n

/-- PACE_WINDOW (R16, R19, R465): the counts of each service's rings over 100 µs. -/
def execPaceWindow (t : Nat) (counts : List (List Nat)) (s : State) : Outcome State Fault Refusal :=
  let s := s.at_ t
  .next (s.each ((List.range 21).map (· + 1)) (fun n s =>
    let (s, v) := s.servicePace counts n
    let s := (s.setPar (Par.calPace01 + (n - 1)) v).setPar (Par.calPaceMin01 + (n - 1)) (min v (s.par (Par.calPaceMin01 + (n - 1))))
    s.judgePace n v))

/-! ## Die temperature (R458, R459, R486) -/

/-- The sensors that are valid: within −55 °C to +150 °C and within 5 °C of another. -/
def validSensors (xs : List Int) : List Int :=
  (xs.zipIdx.filter (fun ((x, i) : Int × Nat) =>
    decide (-880 ≤ x) && decide (x ≤ 2400) && xs.zipIdx.any (fun ((y, j) : Int × Nat) => j != i && (x - y).natAbs ≤ 80))).map Prod.fst

/-- The valid bits of CAL.TJ_VALID. -/
def validMask (xs : List Int) : Nat :=
  (xs.zipIdx.map (fun ((x, i) : Int × Nat) =>
    bit (decide (-880 ≤ x) && decide (x ≤ 2400) && xs.zipIdx.any (fun ((y, j) : Int × Nat) => j != i && (x - y).natAbs ≤ 80)) i)).sum

/-- Tj of the valid sensors: the median of three, the higher of two, or the one (R458). -/
def tjOf : List Int → Option Int
  | [] => none
  | [a] => some a
  | [a, b] => some (max a b)
  | a :: b :: c :: _ => some (max (min a b) (min (max a b) c))

/-- TJ_SAMPLE (R458, R459, R486): Tj in 1/16 °C, the refresh of the trims, and EV003 above 105 °C until it is below 100 °C. -/
def execTjSample (t : Nat) (s0 s1 s2 : Int) (s : State) : Outcome State Fault Refusal :=
  let s := s.at_ t
  let xs := [s0, s1, s2]
  let s := s.setPar Par.calTjValid (validMask xs)
  match tjOf (validSensors xs) with
  | none => .next (s.each ((List.range 9).filter hasTset) State.goStale)
  | some tj =>
    let s := (s.setPar Par.calTj (twos 16 tj)).outsideUpdate
    let s := s.each ((List.range 9).filter hasTset) (fun e s => s.refresh e tj)
    if !s.dev.hot && 1680 < tj then
      .next (({ s with dev := { s.dev with hot := true } }).raise Ev.tjHigh 0 (leBytes 2 (twos 16 tj)))
    else if s.dev.hot && tj < 1600 then .next (({ s with dev := { s.dev with hot := false } }).endCond Ev.tjHigh 0)
    else .next s

/-! ## Straits (R28) -/

/-- ISLAND_RESET (R28): the entries in flight are discarded, the head-lines that they held and that had not started are recorded
against their heads, and the island's straits hold. The service and unit name an island (*Islands*, log entry 162). -/
def execIslandReset (t svc unit entries : Nat) (lines : List (Nat × Nat)) (s : State) : Outcome State Fault Refusal :=
  let s := s.at_ t
  if (islandOf svc unit).isNone then .next s
  else
  let s := { s with dev := { s.dev with resync := s.dev.resync ++ [(svc, unit, entries)] } }
  .next (s.each lines (fun k s =>
    match (s.fireHead k.1).sent.find? (fun l => l.lseq == k.2 && s.now < l.fireAt) with
    | some l => (s.breakSent k.1 l 5 0 0).dropLine k.1 l
    | none => s))

/-- What waited for islands that hold no more crosses (R28). -/
def State.cross (s : State) : State :=
  let (stay, go) := s.stalled.partition (fun o => o.island.elim false s.holding)
  { s with out := s.out ++ go, stalled := stay }

/-- STRAIT_RESYNC (R28): both sides agree again; the counters, the log record, and what waited crosses. -/
def execStraitResync (t svc unit : Nat) (s : State) : Outcome State Fault Refusal :=
  let s := s.at_ t
  match s.dev.resync.find? (fun r => r.1 == svc && r.2.1 == unit) with
  | none => .next s
  | some r =>
    let s := { s with dev := { s.dev with resync := s.dev.resync.erase r } }
    .next ((((s.bump Par.devStraitDiscards r.2.2).bump Par.devStraitResyncs 1).record 0 svc unit (leBytes 4 r.2.2)).cross)

end Sys2Proof.Machine
end

