-- ==== Sys2Proof/Machine/Deflate.lean ====
section
/-! DEFINITION. The stream that the pack engine makes of a source (R397), and how much of the source it has read when its output
reaches a bound (R401). -/
namespace Sys2Proof.Machine

/-- A symbol that the engine emits: a literal, or a match of a length at a distance. -/
inductive PackSym where
  | lit (b : Nat)
  | pair (len dist : Nat)
deriving DecidableEq, Repr

/-- The source bytes that a symbol stands for. -/
def PackSym.span : PackSym → Nat
  | .lit _ => 1
  | .pair n _ => n

/-- The length of the match of two strings, at most the first argument. -/
def matchLen : Nat → List Byte → List Byte → Nat
  | n + 1, a :: as, b :: bs => if a = b then matchLen n as bs + 1 else 0
  | _, _, _ => 0

/-- The chain of the 3 bytes at a position (R397 step 1); the spec does not state the hash (log entry 6). -/
def packChain : List Byte → Option Nat
  | a :: b :: c :: _ => some (Config.packHash a b c).toNat
  | _ => none

/-- The longest match of a position among the 4 most recent of its chain within 32,768 bytes, the nearer of two as long (R397 steps 1
and 2): length and distance. `seen` holds the earlier positions with their chains and what follows them, the latest first. -/
def bestMatch (seen : List (Nat × Nat × List Byte)) (chain pos : Nat) (rest : List Byte) : Nat × Nat :=
  ((seen.filter (fun e => e.1 == chain && decide (pos ≤ e.2.1 + 32768))).take 4).foldl (fun m e =>
    let n := matchLen 258 e.2.2 rest
    if m.1 < n then (n, pos - e.2.1) else m) (0, 0)

/-- The symbols of a source from a position on, of which the first `skip` bytes stand in a match already emitted (R397 steps 1 to 3). -/
def packSyms : List Byte → Nat → Nat → List (Nat × Nat × List Byte) → List PackSym
  | [], _, _, _ => []
  | b :: bs, pos, skip, seen =>
    let chain := packChain (b :: bs)
    let now := match chain with
      | some h => (h, pos, b :: bs) :: seen
      | none => seen
    match skip with
    | k + 1 => packSyms bs (pos + 1) k now
    | 0 =>
      let m := chain.elim (0, 0) (fun h => bestMatch seen h pos (b :: bs))
      if 3 ≤ m.1 then .pair m.1 m.2 :: packSyms bs (pos + 1) (m.1 - 1) now
      else .lit b.toNat :: packSyms bs (pos + 1) 0 now

/-- The low bits of a number, least significant first. -/
def bitsLow (n v : Nat) : List Bool := (List.range n).map (fun i => bitAt v i)

/-- The code of a symbol in the canonical code of some lengths, most significant bit first. -/
def codeBits (lens : List Nat) (sym : Nat) : List Bool :=
  let n := nth lens 0 sym
  let first := ((lens.filter (fun l => l != 0 && l < n)).map (fun l => 2 ^ (n - l))).sum
  (bitsLow n (first + ((lens.take sym).filter (· == n)).length)).reverse

/-- The index of the last base at or below a value, and what the value has above it, in the extra bits of that base. -/
def baseBits (base : List (Nat × Nat)) (v : Nat) : Nat × List Bool :=
  let i := ((List.range base.length).filter (fun i => (nth base (0, 0) i).1 ≤ v)).length - 1
  let b := nth base (0, 0) i
  (i, bitsLow b.2 (v - b.1))

/-- A symbol under the code lengths of its block. -/
def PackSym.bits (lit dist : List Nat) : PackSym → List Bool
  | .lit b => codeBits lit b
  | .pair n d =>
    let l := baseBits lenBase n
    let x := baseBits distBase d
    codeBits lit (257 + l.1) ++ l.2 ++ codeBits dist x.1 ++ x.2

/-- How often each of the first `n` values stands in a list. -/
def tally (n : Nat) (xs : List Nat) : List Nat := (List.range n).map (fun v => (xs.filter (· == v)).length)

/-- The literal and length symbols of a block, its end among them, and its distance symbols. -/
def litSyms (xs : List PackSym) : List Nat := xs.map (fun x => match x with
  | .lit b => b
  | .pair n _ => 257 + (baseBits lenBase n).1) ++ [256]
def distSyms (xs : List PackSym) : List Nat := xs.filterMap (fun x => match x with
  | .lit _ => none
  | .pair _ d => some (baseBits distBase d).1)

/-- A list without its trailing zeros, but of at least `n` elements. -/
def trimZeros (n : Nat) (xs : List Nat) : List Nat :=
  xs.take (max n (xs.length - (xs.reverse.takeWhile (· == 0)).length))

/-- A block as the engine writes it: bits, each with the source bytes that are read when they are all written. -/
abbrev PackBlock := List (List Bool × Nat)

/-- Bits of a block. -/
def PackBlock.bits (b : PackBlock) : List Bool := b.flatMap Prod.fst

/-- A block of symbols under code lengths that its header names. -/
def codedBlock (head : List Bool) (lit dist : List Nat) (xs : List PackSym) : PackBlock :=
  (head, 0) :: xs.map (fun x => (x.bits lit dist, x.span)) ++ [(codeBits lit 256, 0)]

/-- The fixed encoding of a block. -/
def fixedBlock (last : Bool) (xs : List PackSym) : PackBlock :=
  codedBlock [last, true, false] (List.replicate 144 8 ++ List.replicate 112 9 ++ List.replicate 24 7 ++ List.replicate 8 8) (List.replicate 32 5) xs

/-- The dynamic encoding of a block. Which code lengths fit the counts of its symbols best, and how they are written with the symbols of
the code-length code, the spec leaves open (log entry 6); lengths are at most 15 bits and those of the code-length code 7 (R397). -/
def dynamicBlock (last : Bool) (xs : List PackSym) : PackBlock :=
  let lit := trimZeros 257 ((Config.packLengths (tally 286 (litSyms xs))).map (min 15))
  let dist := trimZeros 1 ((Config.packLengths (tally 30 (distSyms xs))).map (min 15))
  let runs := Config.packRuns (lit ++ dist)
  let cl := (Config.packLengths (tally 19 (runs.map Prod.fst))).map (min 7)
  let order := trimZeros 4 (clOrder.map (nth cl 0))
  let head := [last, false, true] ++ bitsLow 5 (lit.length - 257) ++ bitsLow 5 (dist.length - 1) ++ bitsLow 4 (order.length - 4) ++ order.flatMap (bitsLow 3)
    ++ runs.flatMap (fun r => codeBits cl r.1 ++ bitsLow (if r.1 = 16 then 2 else if r.1 = 17 then 3 else if r.1 = 18 then 7 else 0) r.2)
  codedBlock head lit dist xs

/-- The head of a stored block of `n` bytes at a bit of the stream. -/
def storedHead (last : Bool) (at_ n : Nat) : List Bool :=
  [last, false, false] ++ List.replicate ((5 + 8 - at_ % 8) % 8) false ++ bitsLow 16 n ++ bitsLow 16 (65535 - n)

/-- The stored encoding of a block at a bit of the stream; above 65,535 bytes it takes several stored blocks (DEDUCED, log entry 6). -/
def storedBlock (last : Bool) (at_ : Nat) (data : List Byte) : Nat → PackBlock
  | 0 => []
  | fuel + 1 =>
    let part := data.take 65535
    let rest := data.drop 65535
    let head := storedHead (last && rest.isEmpty) at_ part.length
    (head, 0) :: part.map (fun b => (bitsLow 8 b.toNat, 1)) ++ (if rest.isEmpty then [] else storedBlock last (at_ + head.length + 8 * part.length) rest fuel)

/-- The encoding of a block: stored, fixed or dynamic, whichever is shortest, the earlier on a tie (R397 step 4). -/
def packBlock (last : Bool) (at_ : Nat) (data : List Byte) (xs : List PackSym) : PackBlock :=
  let st := storedBlock last at_ data (data.length + 1)
  let fx := fixedBlock last xs
  let dy := dynamicBlock last xs
  if st.bits.length ≤ fx.bits.length ∧ st.bits.length ≤ dy.bits.length then st else if fx.bits.length ≤ dy.bits.length then fx else dy

/-- The blocks of some symbols, of 16,384 each, from a bit of the stream on. -/
def packBlocksFrom : Nat → Nat → List Byte → List PackSym → List PackBlock
  | 0, _, _, _ => []
  | fuel + 1, at_, src, xs =>
    let mine := xs.take 16384
    let rest := xs.drop 16384
    let n := (mine.map PackSym.span).sum
    let b := packBlock rest.isEmpty at_ (src.take n) mine
    b :: (if rest.isEmpty then [] else packBlocksFrom fuel (at_ + b.bits.length) (src.drop n) rest)

/-- The blocks of a source (R397). -/
def packBlocks (src : List Byte) : List PackBlock :=
  let xs := packSyms src 0 0 []
  packBlocksFrom (xs.length + 1) 0 src xs

/-- Bits as bytes, the last filled up with zeros. -/
def bytesOfBits (bs : List Bool) : List Byte :=
  (List.range (ceilDiv bs.length 8)).map (fun i => BitVec.ofNat 8 ((((bs.drop (8 * i)).take 8).zipIdx.map (fun b => if b.1 then 2 ^ b.2 else 0)).sum))

/-- An output of the pack engine (*Pack job header*): the header and the stream. -/
def packOut (src : List Byte) : List Byte :=
  leBytes 4 0x4B504C41 ++ [1, 0, 0, 0] ++ leBytes 4 src.length ++ leBytes 4 (crc32 src) ++ bytesOfBits ((packBlocks src).flatMap PackBlock.bits)

/-- Source bytes of the symbols whose bits all lie within a number of bits. -/
def readWithin : List (List Bool × Nat) → Nat → Nat
  | [], _ => 0
  | u :: us, room => if u.1.length ≤ room then u.2 + readWithin us (room - u.1.length) else 0

/-- BYTES_IN at the symbol that does not fit an output of so many bytes (R401). -/
def packReadFull (src : List Byte) (limit : Nat) : Nat := readWithin (packBlocks src).flatten (8 * (limit - 16))

/-- BYTES_IN when the output reaches the length of its source (R401): the block that it is writing then has been read whole, as the first of
*Host examples* shows. -/
def packReadGain (src : List Byte) : Nat :=
  ((packBlocks src).foldl (fun (a : Nat × Nat) b =>
    if 8 * src.length ≤ a.1 then a else (a.1 + b.bits.length, a.2 + (b.map Prod.snd).sum)) (128, 0)).2

end Sys2Proof.Machine
end

