-- ==== Sys2Proof/Machine/Loop.lean ====
section
/-! DEFINITION. The policy pair (R235-R240, R346-R350): evidence, declarations of OUT and their limits, split probes, steps of
REMAP and VERNIER, and the application of chart measurements (R234). -/
namespace Sys2Proof.Machine
open Host

/-- The loop may change an entry (R235, R242). -/
def State.loopFree (s : State) (h slot : Nat) : Bool := s.par Par.compLoopEnable == 1 && s.loopsRun && !ePin (s.entry h slot)

/-- Sets an entry's EVIDENCE, which is no change under PIN (R346). -/
def State.setEvidence (h slot v : Nat) (s : State) : State :=
  let s := s.modLedger h (fun l => { l with entries := mset (fun _ => absentEntry) slot (setBits (mget (fun _ => absentEntry) l.entries slot) 22 4 v) l.entries })
  s.when (v == 0) (State.modHist h slot (fun x => { x with suspect := false }))

/-- Adds to EVIDENCE, saturated at 0 and at 15 or the present value's bound. -/
def State.addEvidence (h slot : Nat) (d : Int) (top : Nat) (s : State) : State :=
  let e := eEvidence (s.entry h slot)
  if stOut (s.slotState h slot) then s
  else s.setEvidence h slot (if d < 0 then e - d.natAbs else max e (min top (e + d.natAbs)))

/-! ## Declarations of OUT (R236, R237, R239) -/

/-- The rates of R236 allow another declaration on a head. -/
def State.outRate (s : State) (h : Nat) : Bool :=
  let recent := s.comp.declared.filter (fun d => s.now < d.1 + 1000000000)
  (recent.filter (fun d => d.2 == h)).length < s.par Par.compOutRateHead && recent.length < s.par Par.compOutRateDevice

/-- Restores of a slot within COMP.FLAP_WINDOW reach COMP.FLAP_LIMIT (R239). -/
def State.flaps (s : State) (h slot : Nat) : Bool :=
  s.par Par.compFlapLimit ≤ ((s.hist h slot).restores.filter (fun r => s.now ≤ r + 1000000000 * s.par Par.compFlapWindow)).length

/-- The loop puts a slot out: OUT, or HELD_OUT where it flaps (R237, R239). -/
def State.putOut (h slot : Nat) (s : State) : State :=
  let e := setSource (setBits (s.entry h slot) 0 3 (if s.flaps h slot then 3 else 2)) 1
  let declared := (s.now, h) :: s.comp.declared.filter (fun d => s.now < d.1 + 1000000000)
  let s := { s with comp := { s.comp with declared := declared } }
  let s := (s.change [slotChange h slot e false false]).modHist h slot (fun x => { x with outAt := s.now })
  (s.bump Par.compDeclared 1).raiseNozzle Ev.nozzleOut h slot 1

/-- Declares a slot OUT (R236): not at the head's limit, and later where the rates do not allow it now. -/
def State.declareOut (h slot : Nat) (s : State) : State :=
  if s.par Par.compOutLimitHead ≤ s.outCount h then s.checkLimit h
  else if s.comp.deferred.isEmpty && s.outRate h then s.putOut h slot
  else if s.comp.deferred.any (fun d => d.head == h && d.slot == slot) then s
  else if s.outRate h && !s.comp.deferred.any (fun d => d.head == h) then s.putOut h slot
  else { s with comp := { s.comp with deferred := s.comp.deferred ++ [⟨s.now, h, slot⟩] } }

/-- Applies deferred declarations in the order of their evidence as the rates allow (R236); one whose slot has left WATCH, or
that the loop may no longer change, is dropped. -/
def State.applyDeferred (ds : List DeferredOut) (s : State) : State :=
  s.each ds (fun d s =>
    let gone := { s with comp := { s.comp with deferred := s.comp.deferred.filter (fun x => !(x.head == d.head && x.slot == d.slot)) } }
    if s.slotState d.head d.slot != 1 || !s.loopFree d.head d.slot then gone
    else if s.par Par.compOutLimitHead ≤ s.outCount d.head then s.checkLimit d.head
    else if s.outRate d.head then (gone.putOut d.head d.slot).bump Par.compDeferred 1
    else s)

/-- DEFERRED_OUT_APPLY (R14, R236): declarations stay deferred while the policy pair restarts. -/
def execDeferredOutApply (t : Nat) (s : State) : Outcome State Fault Refusal :=
  let s := s.at_ t
  .next (s.when s.loopsRun (State.applyDeferred s.comp.deferred))

/-! ## Verdicts (R346-R348) -/

/-- A verdict of the nozzle-health analysis: a firing set of one head, and STRIKE or CLEAR. -/
structure Noz where
  head : Nat
  slots : List Nat
  strike : Bool
deriving DecidableEq, Repr

/-- The verdict names one nozzle, or both of a pair. -/
def nozSingle (v : Noz) : Option Nat := match v.slots with
  | [x] => some x
  | _ => none

/-- Whether verdicts hold a single verdict of a nozzle. -/
def hasSingle (vs : List Noz) (h slot : Nat) (strike : Bool) : Bool := vs.any (fun v => v.head == h && v.slots == [slot] && v.strike == strike)

/-- Starts a split probe of a column (R348). -/
def State.startProbe (h c : Nat) (s : State) : State :=
  let ok := (s.slotsOf h c).length == 2 && (s.slotsOf h c).all (fun x => stFires (s.slotState h x) && s.loopFree h x)
    && !s.comp.probes.any (fun p => p.head == h && p.column == c)
  if ok then State.bump Par.inspProbes 1 { s with comp := { s.comp with probes := s.comp.probes ++ [(⟨h, c, 0⟩ : Probe)] } } else s

/-- One move of a nozzle's state after a step (R347). -/
def State.moveState (h slot : Nat) (single shared : Bool) (s : State) : State :=
  let e := s.entry h slot
  let st := s.slotState h slot
  let ev := eEvidence e
  if !s.loopFree h slot then s
  else if st = 0 ∧ s.par Par.inspWatchAt ≤ ev then
    let s := s.change [slotChange h slot (setSource (setBits e 0 3 1) 1) false false]
    match s.colOf h slot with
    | some c => s.when shared (State.startProbe h c)
    | none => s
  else if st = 1 ∧ ev = 0 then s.change [slotChange h slot (setSource (setBits e 0 3 0) 1) false false]
  else if st = 1 ∧ s.par Par.inspOutAt ≤ ev ∧ (single ∨ (shared ∧ (s.hist h slot).suspect)) then s.declareOut h slot
  else s

/-- Applies one frame's verdicts (R346): single verdicts, suspects, shared verdicts, and then the moves of R347. A policy pair that restarts
takes none (R14; DESIGN CHOICE, log entry 163). -/
def State.applyVerdicts (vs : List Noz) (s : State) : State :=
  if !s.loopsRun then s else
  let s := s.each vs (fun v s => match nozSingle v with
    | some x => s.addEvidence v.head x (if v.strike then 2 else -1) 15
    | none => s)
  let s := s.each vs (fun v s => match nozSingle v with
    | some x =>
      match s.partner v.head x with
      | some p => s.when (v.strike && hasSingle vs v.head p false && !stOut (s.slotState v.head x))
          (State.modHist v.head x (fun y => { y with suspect := true }))
      | none => s
    | none => s)
  let s := s.each vs (fun v s => match v.slots with
    | [a, b] =>
      if s.partner v.head a != some b then s
      else
        let sus := [a, b].filter (fun x => (s.hist v.head x).suspect)
        if sus.isEmpty then s.each [a, b] (fun x s => s.addEvidence v.head x (if v.strike then 2 else -1) (s.par Par.inspOutAt - 1))
        else s.each sus (fun x s => s.addEvidence v.head x (if v.strike then 2 else -1) 15)
    | _ => s)
  let named := (vs.flatMap (fun v => v.slots.map (fun x => (v.head, x)))).eraseDups
  s.each named (fun n s =>
    s.happen.moveState n.1 n.2 (hasSingle vs n.1 n.2 true) (vs.any (fun v => v.head == n.1 && v.slots.length == 2 && v.slots.contains n.2 && v.strike)))

/-! ## Steps of REMAP and VERNIER (R240, R349, R350) -/

/-- A dwell time in seconds has passed. -/
def dwelt (now : Nat) (last : Option Nat) (sec : Nat) : Bool := match last with
  | some l => decide (l + 1000000000 * sec ≤ now)
  | none => true

/-- Moves REMAP one ladder step (R240, R349). -/
def State.stepRemap (h slot : Nat) (heavier : Bool) (s : State) : State :=
  let e := s.entry h slot
  let r := eRemap e
  let n := if heavier then r + 1 else r - 1
  let x := s.hist h slot
  let far := max n x.baseRemap - min n x.baseRemap
  if !s.loopFree h slot || 12 < r || 12 < n || n == r || s.par Par.compRemapBand < far || !dwelt s.now x.remapAt (s.par Par.compRemapDwell) then s
  else (s.change [slotChange h slot (setSource (setBits e 4 4 n) 1) false false]).modHist h slot (fun y => { y with remapAt := some s.now })

/-- Moves VERNIER 1/64 line, with no carry into OFFSET (R240, R350). -/
def State.stepVernier (h slot : Nat) (later : Bool) (s : State) : State :=
  let e := s.entry h slot
  let v := eVernier e
  let n := if later then v + 1 else v - 1
  let x := s.hist h slot
  let place := 64 * eOffset e + n
  let far := max place x.basePlace - min place x.basePlace
  if !s.loopFree h slot || 63 < n || n == v || s.par Par.compVernierBand < far || !dwelt s.now x.vernAt (s.par Par.compVernierDwell) then s
  else (s.change [slotChange h slot (setSource (setBits e 14 6 n) 1) false false]).modHist h slot (fun y => { y with vernAt := some s.now })

/-! ## Chart measurements (R234, R354) -/

/-- A NOZZLE_CHECK result of a slot (R234, R238): OUT, or HELD_OUT where it flaps (R239), and the restore. -/
def State.applyCheck (h slot : Nat) (printed : Bool) (s : State) : State × Option (Change × Bool) :=
  let e := s.entry h slot
  let st := eState e
  if stFires st && !printed then
    (s, some (slotChange h slot (setSource (setBits e 0 3 (if s.flaps h slot then 3 else 2)) 3) false true, true))
  else if st = 2 ∧ printed ∧ (s.hist h slot).outAt + 1000000000 * s.par Par.compRestoreDwell ≤ s.now then
    (s, some (slotChange h slot (setSource (setBits e 0 3 0) 3) false true, false))
  else (s, none)

/-- What a measurement found of a head's slots that no pin holds. -/
def State.measured (s : State) (m : Measure) (h : Nat) : List (Nat × Int) :=
  (m.slots.filter (fun x => x.1 == h && !ePin (s.entry h x.2.1))).map Prod.snd

/-- A second chart apply to a head replaces its waiting changes (R234), but not those of pinned entries; `again` are the slots that it
places anew. -/
def State.dropChart (h : Nat) (again : List Nat) (s : State) : State :=
  let gone := (s.ledger h).places.filter (fun q => bitAt q.2 13 && !ePin (s.entry h q.1))
  let s := s.modLedger h (fun l => { l with places := l.places.filter (fun q => !gone.contains q), term := none })
  let groups := s.comp.groups.map (List.filter (fun (c : Change) => !(c.entry.kind == 1 && c.gap && c.chart && c.entry.index == h)))
  let s := { s with comp := { s.comp with groups := groups } }
  s.change ((gone.filter (fun q => !again.contains q.1)).map (fun q => slotChange h q.1 (s.entry h q.1) false false))

/-- Applies a measurement to one head: 0 applied, 1 waiting, 2 the placement span is too large, 3 the head was replaced. -/
def State.applyHead (m : Measure) (h : Nat) (s : State) : State × Nat :=
  let xs := s.measured m h
  let replaced := lookup h m.idents != some (some (s.head h).identity) || (s.head h).phase != 2
  if replaced then (s, 3)
  else if m.kind = 1 then
    let s := s.dropChart h []
    let cs := xs.filterMap (fun x => (s.applyCheck h x.1 (x.2 == 1)).2)
    let s := s.change (cs.map Prod.fst)
    let s := s.each cs (fun c s =>
      if c.2 then (s.modHist h c.1.entry.slot (fun y => { y with outAt := s.now })).raiseNozzle Ev.nozzleOut h c.1.entry.slot 3
      else ((s.modHist h c.1.entry.slot (fun y => { y with suspect := false, restores := s.now :: y.restores })).bump Par.compRestored 1).raiseNozzle
        Ev.nozzleRestored h c.1.entry.slot 3)
    (s, 0)
  else if m.kind = 2 then
    let ps := xs.filter (fun x => stFires (s.slotState h x.1))
    let lo := (ps.map Prod.snd).foldl min ((ps.head?).elim 0 Prod.snd)
    let hi := (ps.map Prod.snd).foldl max ((ps.head?).elim 0 Prod.snd)
    let d := lo / 64
    if 4095 < hi - 64 * d then (s, 2)
    else
      let s := (s.dropChart h (ps.map Prod.fst)).modLedger h (fun l => { l with chart := true })
      let s := s.change (ps.map (fun x => slotChange h x.1
        (setSource (setCharted (setPlace (s.entry h x.1) (x.2 - 64 * d).toNat) true) 3) true true))
      let s := s.each ps (fun x s => s.modHist h x.1 (fun y => { y with basePlace := (x.2 - 64 * d).toNat }))
      let s := s.modLedger h (fun l => { l with term := if d = 0 then none else some d, chart := true })
      let s := s.takeTerm h
      let s := s.when s.comp.groups.isEmpty (State.takePlaces h ((s.fireHead h).last - s.par (Par.at_ Par.fireULineOffset h)))
      (s, if !s.chartWaits h && s.comp.groups.isEmpty then 0 else 1)
  else
    let s := s.dropChart h []
    let s := s.change (xs.map (fun x => slotChange h x.1 (setSource (setBits (s.entry h x.1) 4 4 x.2.toNat) 3) false true))
    (s.each xs (fun x s => s.modHist h x.1 (fun y => { y with baseRemap := x.2.toNat })), 0)

/-- COMP_ALIGN_APPLY (R234): per head of the chart one byte, and the pinned entries skipped in DETAIL. -/
def effCompAlignApply : Effect := fun c s =>
  needLen c 8 s <|
  match s.insp.measures.find? (fun m => m.handle == leAt c.body 0 8) with
  | none => refuse St.unknownHandle 0 s
  | some m =>
    needChange c .ledger s <| needOwner c s <|
    let pinned := (m.slots.filter (fun x => ePin (s.entry x.1 x.2.1))).length
    let s := { s with insp := { s.insp with measures := s.insp.measures.filter (fun x => x.handle != m.handle) } }
    let r := (maskUnits 16 m.heads).foldl (fun (acc : State × List Byte) h =>
      let (s, st) := acc.1.applyHead m h
      let s := s.when (st != 2 && st != 3 && m.kind != 2) (fun s => (s.modLedger h (fun l => { l with chart := true })))
      (s.when (s.comp.groups.isEmpty) (State.alignDone h), acc.2 ++ leBytes 1 st)) (s, [])
    okay pinned r.2 r.1

def execCompAlignApply (t : Nat) (h : Hdr) (b : List Byte) (s : State) : Outcome State Fault Refusal :=
  .next (hostRow (.compAlignApply t h b) 0x0805 t h b effCompAlignApply s)

end Sys2Proof.Machine
end

