-- ==== Sys2Proof/Machine/Insp.lean ====
section
/-! DEFINITION. Inspection (14_inspection_loop.md): the expected image, registration, engines and coverage, defects,
nozzle health, density and alignment, rejects, chart measurement and image return. -/
namespace Sys2Proof.Machine
open Host

/-- A parameter of view `d`. -/
def State.viewPar (s : State) (id d : Nat) : Nat := s.par (id + 16 * d)

/-- A frame in its buffer. -/
def State.image (s : State) (port num : Nat) : Option Image := s.insp.images.find? (fun i => i.port == port && i.num == num)

/-- Changes a frame in its buffer. -/
def State.modImage (port num : Nat) (f : Image → Image) (s : State) : State :=
  { s with insp := { s.insp with images := s.insp.images.map (fun (i : Image) => if i.port == port && i.num == num then f i else i) } }

/-- An inspection engine. -/
def State.engine (s : State) (e : Nat) : Engine := nth s.insp.engines ⟨true, []⟩ e

/-- Changes one engine. -/
def State.modEngine (e : Nat) (f : Engine → Engine) (s : State) : State := { s with insp := { s.insp with engines := modNth f e s.insp.engines } }

/-! ## The expected image (R335-R337) -/

/-- A line position that the renderer's copy covers. -/
def State.copied (s : State) (y : Int) : Bool :=
  decide (y ≤ s.pos.hw) && decide (s.pos.hw < y + 8192) && !s.insp.gone.contains y

/-- The copy of a position cannot be written, or not be read back (R335, R396). -/
def State.loseCopy (ys : List Int) (s : State) : State :=
  { s with insp := { s.insp with gone := (ys ++ s.insp.gone.filter (fun y => decide (s.pos.hw < y + 8192))).eraseDups } }

/-- m(c, y) of a plane (R336): masses of the codes that the column's nozzles fired, doubled with one nozzle per column. -/
def State.massAt (s : State) (plane : Nat) (col y : Int) : Nat :=
  ((s.insp.tap.filter (fun q => q.plane == plane && (q.col : Int) == col && q.y == y)).map (fun q =>
    tWord (s.par Par.inspDropMass) q.code * (if s.nozPerCol q.head = 1 then 2 else 1))).sum

/-- The coverage grid e_p(c, y) in permille (R336). -/
def State.coverAt (s : State) (plane : Nat) (col y : Int) : Nat :=
  let terms := (List.range 3).flatMap (fun dy => (List.range 5).map (fun dc =>
    tByte (s.par Par.inspSpread) (5 * dy + dc) * s.massAt plane (col - ((dc : Int) - 2)) (y - ((dy : Int) - 1))))
  min 1000 (roundFree 336 terms.sum 256)

/-- The span of a pixel of a view on the plane's columns in 1/65,536 column, at an across-web shift in 1/4 pixel. -/
def State.pixelSpan (s : State) (d x : Nat) (sx : Int) : Int × Int :=
  let scale := s.viewPar Par.inspView0Scale d
  let left := signed 32 (s.viewPar Par.inspView0Col0 d) + (4 * (x : Int) + sx) * scale / 4
  (left, left + scale)

/-- Columns that a span touches, with the length of each part. -/
def spanCols (sp : Int × Int) : List (Int × Nat) :=
  let c0 := sp.1 / 65536
  (List.range (((sp.2 - 1) / 65536 - c0 + 1).toNat)).map (fun (i : Nat) =>
    let c := c0 + (i : Int)
    (c, (min sp.2 ((c + 1) * 65536) - max sp.1 (c * 65536)).toNat))

/-- e_p at a pixel: the mean over the columns that it spans, weighted by the span (R336). -/
def State.pixelCover (s : State) (d plane x : Nat) (sx y : Int) : Nat :=
  let cs := spanCols (s.pixelSpan d x sx)
  roundFree 3361 ((cs.map (fun c => c.2 * s.coverAt plane c.1 y)).sum) ((cs.map Prod.snd).sum)

/-- D[p][i] of a view. -/
def State.inkOf (s : State) (d plane i : Nat) : Nat := tWord (s.viewPar Par.inspView0Ink d) (5 * plane + i)

/-- The planes that a view sees and that yield a residual (R337), with the primary channel of each. -/
def State.viewPlanes (s : State) (d : Nat) : List (Nat × Nat) :=
  ((maskUnits 4 (s.viewPar Par.inspView0Planes d)).map (fun p => (p, bitsAt (s.viewPar Par.inspView0Primary d) (4 * p) 4))).filter
    (fun p => s.inkOf d p.1 p.2 != 0)

/-- The expected value of channel `i` at a pixel (R337). -/
def State.expected (s : State) (d i x : Nat) (sx y : Int) : Int :=
  let drop := ((maskUnits 4 (s.viewPar Par.inspView0Planes d)).map (fun p => s.pixelCover d p x sx y * s.inkOf d p i)).sum
  max 0 ((tWord (s.viewPar Par.inspView0White d) i : Int) - (roundFree 337 drop 1000 : Nat))

/-- A rounded quotient of a signed dividend. -/
def roundFreeInt (stage : Nat) (num : Int) (den : Nat) : Int :=
  if num < 0 then -((roundFree stage num.natAbs den : Nat) : Int) else (roundFree stage num.natAbs den : Nat)

/-- The residual of a plane at a pixel in permille (R337). -/
def State.residual (s : State) (d : Nat) (p : Nat × Nat) (l : OutLine) (x : Nat) (sx y : Int) : Int :=
  let v : Int := ((l.pix[x]?).bind (fun px => px[p.2]?)).getD 0
  roundFreeInt 3371 (1000 * (s.expected d p.2 x sx y - v)) (s.inkOf d p.1 p.2)

/-- The position that a line views under an along-web shift in 1/4 camera line (R336, log entry 98). -/
def State.viewAlong (s : State) (i : Image) (sy : Int) (l : OutLine) : Int := s.viewedAt i.port l.x + (sy * i.pitch + 128) / 256

/-- The position that a line of a registered frame views. -/
def State.lineView (s : State) (i : Image) (l : OutLine) : Int := s.viewAlong i i.sy l

/-- Pixels across a frame. -/
def Image.width (i : Image) : Nat := (i.lines.head?).elim 0 (fun l => l.pix.length)

/-- A chart fired at a position within the planes and columns that a frame sees: such a line takes part in no analysis (R340). -/
def State.chartLine (s : State) (i : Image) (y : Int) : Bool :=
  let planes := maskUnits 4 (s.viewPar Par.inspView0Planes i.port)
  let lo := (s.pixelSpan i.port 0 i.sx).1
  let hi := (s.pixelSpan i.port (i.width - 1) i.sx).2
  s.insp.tap.any (fun q => q.chart && q.y == y && planes.contains q.plane && decide (lo < ((q.col : Int) + 1) * 65536) && decide ((q.col : Int) * 65536 < hi))

/-- The lines of a frame that an analysis takes, with the position that each views (R335, R340). -/
def State.analysed (s : State) (i : Image) : List (OutLine × Int) :=
  if !i.registered then []
  else (i.lines.map (fun l => (l, s.lineView i l))).filter (fun e => s.copied e.2 && !s.chartLine i e.2)

/-! ## Registration, engines and coverage (R338-R342) -/

/-- The median of shifts; of an even number it lies between the two middle ones, free there (R338). -/
def median (xs : List Int) : Int :=
  let ys := sortLe (fun a b => decide (a ≤ b)) xs
  let lo := nth ys 0 ((ys.length - 1) / 2)
  let hi := nth ys 0 (ys.length / 2)
  lo + (Config.medianOf ys % ((hi - lo).toNat + 1) : Nat)

/-- The pixels of a frame that the renderer's copy covers, by tiles of 256 pixels by 64 lines (R338). -/
def State.tiles (s : State) (i : Image) : List (List (OutLine × Nat)) :=
  let ls := i.lines.zipIdx.filter (fun e => s.copied (s.viewAlong i 0 e.1))
  (List.range (ceilDiv i.lines.length 64)).flatMap (fun r => (List.range (ceilDiv i.width 256)).map (fun c =>
    (ls.filter (fun e => e.2 / 64 == r)).flatMap (fun e =>
      (((List.range 256).map (· + 256 * c)).filter (fun x => decide (x < e.1.pix.length))).map (fun x => (e.1, x)))))

/-- The sum of |v − v̂| over a tile at a shift (R338). -/
def State.tileCost (s : State) (i : Image) (ch : Nat) (tile : List (OutLine × Nat)) (q : Int × Int) : Nat :=
  (tile.map (fun e =>
    let v : Nat := ((e.1.pix[e.2]?).bind (fun (px : List Nat) => px[ch]?)).getD 0
    ((v : Int) - s.expected i.port ch e.2 q.1 (s.viewAlong i q.2 e.1)).natAbs)).sum

/-- The shifts that the search goes through: 16 pixels and 16 camera lines to either side of zero, in quarter steps (R338). -/
def searchShifts : List (Int × Int) :=
  (List.range 129).flatMap (fun (b : Nat) => (List.range 129).map (fun (a : Nat) => ((a : Int) - 64, (b : Int) - 64)))

/-- A valid tile's shift, across in 1/4 pixel and along in 1/4 camera line: the one of the least sum (R338). -/
def State.tileShift (s : State) (i : Image) (p : Nat × Nat) (tile : List (OutLine × Nat)) : Option (Int × Int) :=
  match tile.map (fun e => s.expected i.port p.2 e.2 0 (s.viewAlong i 0 e.1)) with
  | [] => none
  | v :: vs =>
    if 1000 * (vs.foldl max v - vs.foldl min v) < s.par Par.inspRegContrast * s.inkOf i.port p.1 p.2 then none
    else
      let costs := searchShifts.map (fun q => (q, s.tileCost i p.2 tile q))
      let least := costs.foldl (fun m c => min m c.2) (s.tileCost i p.2 tile (0, 0))
      let best := (costs.filter (fun c => c.2 == least)).map Prod.fst
      best[Config.tileTie best % best.length]?

/-- The shifts of a frame's valid tiles, judged in the primary channel of the lowest plane in view that yields a residual (R338). -/
def State.tileShifts (s : State) (i : Image) : List (Int × Int) :=
  match s.viewPlanes i.port with
  | [] => []
  | p :: _ => (s.tiles i).filterMap (s.tileShift i p)

/-- The expected image of a frame is free of ink (R339). -/
def State.inkFree (s : State) (i : Image) : Bool :=
  (s.tiles i).all (fun tile => tile.all (fun e =>
    (maskUnits 4 (s.viewPar Par.inspView0Planes i.port)).all (fun p => s.pixelCover i.port p e.2 0 (s.viewAlong i 0 e.1) == 0)))

/-- The shift of a frame, and whether it is registered or blank (R338, R339). -/
def State.registration (s : State) (i : Image) (v : ViewReg) : Bool × Int × Int :=
  let tiles := s.tileShifts i
  let mx := median (tiles.map Prod.fst)
  let my := median (tiles.map Prod.snd)
  let near := (tiles.filter (fun t => decide ((t.1 - mx).natAbs ≤ 4) && decide ((t.2 - my).natAbs ≤ 4))).length
  if s.par Par.inspRegTiles ≤ tiles.length ∧ 2 * tiles.length ≤ 3 * near then (true, mx, my)
  else if tiles.isEmpty && s.inkFree i then (true, v.sx, v.sy)
  else (false, 0, 0)

/-- Whether the port's view is analysed. -/
def State.viewOn (s : State) (d : Nat) : Bool := s.camLeads d && s.viewPar Par.inspView0Planes d != 0

/-- Coverage in permille over the last `w` ns, of one engine or of the device, of analysis 0 defects, 1 nozzle health or 2
alignment (R341). -/
def State.coverage (s : State) (e : Option Nat) (w k : Nat) : Nat :=
  let cs := s.insp.cover.filter (fun c => s.now < c.t + w && (e.isNone || c.engine == e))
  let n := (cs.map Cover.lines).sum
  if n = 0 then (Config.emptyCoverage (e.getD 8) k).toNat
  else 1000 * (cs.map (fun (c : Cover) => if k = 0 then c.defects else if k = 1 then c.nozzles else c.align)).sum / n

/-- The device's defect coverage over 60 s against INSP.COVER_ALARM (R341). -/
def State.checkCover (s : State) : State :=
  let seen := s.insp.cover.any (fun c => s.now < c.t + 60000000000)
  let v := s.coverage none 60000000000 0
  let low := seen && v < s.par Par.inspCoverAlarm
  let s := { s with insp := { s.insp with coverLow := if low then some (s.insp.coverLow.getD s.now) else none } }
  s.when (seen && s.par Par.inspCoverAlarm < v) (State.endCond Ev.coverageLow 0)

/-- Notes lines that an analysis of a frame took. -/
def State.noteCover (port num k n : Nat) (s : State) : State :=
  { s with insp := { s.insp with cover := s.insp.cover.map (fun (c : Cover) =>
    if c.port == port && c.num == num then
      { c with defects := if k = 0 then n else c.defects, nozzles := if k = 1 then n else c.nozzles, align := if k = 2 then n else c.align }
    else c) } }.checkCover

/-- Releases the buffers that R342 no longer holds; frames stand in the order in which they closed. -/
def State.pruneImages (s : State) : State :=
  let newest := (List.range 4).flatMap (fun d =>
    (((s.insp.images.filter (fun i => i.port == d)).reverse.take (s.par Par.inspHoldFrames))).map (fun i => (i.port, i.num)))
  let keep := fun (i : Image) => i.stage < 3 || !i.charts.isEmpty || newest.contains (i.port, i.num)
  let gone := (s.insp.images.filter (fun i => !keep i)).flatMap Image.pods
  { s with insp := { s.insp with images := s.insp.images.filter keep } }.freePods gone

/-- The in-service engine with the fewest frames, the lower number on ties, among those with room in the queue behind the frame in work (R340,
DEDUCED, log entry 171). -/
def State.pickEngine (s : State) : Option Nat :=
  ((List.range 8).filter (fun e => !(s.engine e).out && (s.engine e).queue.length ≤ s.par Par.inspQueueFrames)).foldl (fun b e => match b with
    | none => some e
    | some f => if (s.engine e).queue.length < (s.engine f).queue.length then some e else some f) none

/-- Assigns a frame to an engine; where every queue is full it receives no analysis, or none of those that it has not had (R340). -/
def State.assign (port num : Nat) (s : State) : State :=
  match s.pickEngine with
  | some e =>
    let s := s.modEngine e (fun x => { x with queue := x.queue ++ [(port, num)] })
    { s with insp := { s.insp with cover := s.insp.cover.map (fun (c : Cover) =>
      if c.port == port && c.num == num then { c with engine := some e } else c) } }
  | none =>
    let done := (s.image port num).elim false Image.done
    ((s.modImage port num (fun i => { i with stage := 3 })).bump (if done then Par.inspFramesAnalysed else Par.inspFramesSkipped) 1).pruneImages

/-- The chart segments whose lines a frame holds. -/
def State.chartsIn (s : State) (port : Nat) (lines : List OutLine) : List Nat :=
  let ys := lines.map (fun l => s.viewedAt port l.x)
  ((s.insp.tap.filter (fun q => q.chart && ys.contains q.y)).map Shot.handle).eraseDups

/-- A frame with a buffered image is registered and assigned (R338-R340). -/
def State.takeImage (i : Image) (s : State) : State :=
  let d := i.port
  let v := nth s.insp.views ⟨0, 0, 0⟩ d
  let (ok, sx, sy) := s.registration i v
  let view : ViewReg := if ok then ⟨sx, sy, 0⟩ else { v with lost := v.lost + 1 }
  let s := { s with insp := { s.insp with
    views := modNth (fun _ => view) d s.insp.views
    images := s.insp.images ++ [{ i with registered := ok, sx := sx, sy := sy, run := view.lost }] } }
  let s := if ok then s.endCond Ev.registrationLost d
    else
      let s := s.bump Par.inspFramesUnregistered 1
      s.when (s.par Par.inspRegLossFrames ≤ view.lost && !s.cond Ev.registrationLost d) (State.raiseKeyed Ev.registrationLost 0 d [BitVec.ofNat 8 d])
  s.assign d i.num

/-- A closed frame goes to inspection under the values that held when it opened (R338-R340). -/
def State.frameClosed (port : Nat) (f : CamFrame) (out : List (Int × List (List Px))) (s : State) : State :=
  let lines : List OutLine := out.map (fun l => ⟨l.1, l.2.map (fun px => px.map Prod.fst)⟩)
  let on := s.viewOn port
  let s := if on then { s with insp := { s.insp with cover :=
      ⟨s.now, none, port, f.num, out.length + f.lost, 0, 0, 0⟩ :: s.insp.cover.filter (fun c => s.now < c.t + 60000000000) } }.checkCover else s
  if f.unbuffered || f.format then s.freePods f.pods
  else
    let i : Image := ⟨port, f.num, f.set.seq, f.set.channels port, f.set.par Par.camUTrigPitch port, lines, f.pods, 0, false, false, 0, 0,
      s.chartsIn port lines, f.insp, 0⟩
    if on then s.takeImage i
    else { s with insp := { s.insp with images := s.insp.images ++ [{ i with stage := 3 }] } }.pruneImages

/-- CAMERA_FRAME_CLOSE (R328, R330, R333, R334, R338-R340): the oldest closed frame of a port goes through the pipeline.
`yielded` says that its writes to DRAM yielded beyond the line queue, and `missing` names the positions whose copy could not be written
because DRAM yielded (R335). -/
def execCameraFrameClose (t port : Nat) (yielded : Bool) (missing : List Int) (_tiles _blank : Computed) (s : State) : Outcome State Fault Refusal :=
  let s := s.at_ t
  match (s.cam port).closing with
  | [] => .next s
  | f :: rest =>
    let drop := yielded && !f.unbuffered
    let f := { f with unbuffered := f.unbuffered || yielded }
    let out := f.set.pipeline port f.lines
    let r := f.stat port out
    let s := s.modCam port (fun x => { x with
      closing := rest, stats := (x.stats ++ [r]).drop (x.stats.length + 1 - 1024) })
    let s := s.when drop (State.bump (Par.at_ Par.camUFramesUnbuffered port) 1)
    let s := (s.irregular port f.num r.flags).loseCopy missing
    .next (s.underFrame f.insp (State.frameClosed port f out))

/-- An inspection engine leaves service (R15, R340): EV065, and its frames are assigned afresh. An analysis that has ended is not made again
(DESIGN CHOICE, log entry 171). -/
def State.engineOut (engine : Nat) (s : State) : State :=
  if 8 ≤ engine ∨ (s.engine engine).out then s
  else
    let q := (s.engine engine).queue
    let s := (s.modEngine engine (fun _ => ⟨true, []⟩)).raise Ev.inspEngineOut 0 [BitVec.ofNat 8 engine]
    s.each q (fun e s => s.assign e.1 e.2)

/-- INSP_ENGINE_FAIL (R15, R340). -/
def execInspEngineFail (t engine : Nat) (s : State) : Outcome State Fault Refusal := .next ((s.at_ t).engineOut engine)

/-- The frame in work on an engine; a firmware switch stops the engines (R455). -/
def State.working (s : State) (e : Nat) : Option Image := if s.power.switching.isSome || s.saveMode then none else (s.engine e).queue.head?.bind (fun q => s.image q.1 q.2)

/-- The frame in work on an engine ends: every analysis has ended or been skipped (R342). -/
def State.endFrame (e : Nat) (i : Image) (s : State) : State :=
  let s := s.modEngine e (fun x => { x with queue := x.queue.drop 1 })
  let s := s.when i.done (State.bump Par.inspFramesAnalysed 1)
  (s.modImage i.port i.num (fun j => { j with stage := 3 })).pruneImages

/-- COVERAGE_LOW (R341): the coverage has stayed below the alarm level for 10 s. -/
def execCoverageLow (t : Nat) (s : State) : Outcome State Fault Refusal :=
  let s := (s.at_ t).checkCover
  match s.insp.coverLow with
  | some l => if s.now < l + 10000000000 ∨ s.cond Ev.coverageLow 0 then .next s else .next (s.raise Ev.coverageLow 0 [])
  | none => .next s

/-- FRAME_BUFFER_HOLD_EXPIRY (R342): 60 s after its chart finished, a frame is no longer held for it. -/
def execFrameBufferHoldExpiry (t port frame : Nat) (s : State) : Outcome State Fault Refusal :=
  let s := s.at_ t
  let past := fun h => (s.seg h).isNone && !s.spool.records.any (fun (r : Record) => r.seg.handle == h && s.ring < r.seg.tLast + 60000000000)
  .next ((s.modImage port frame (fun i => { i with charts := i.charts.filter (fun h => !past h) })).pruneImages)

/-! ## Defects (R343, R344, R351) -/

/-- Fields of INSP.CLASSn. -/
def State.classPar (s : State) (n : Nat) : Nat := s.par (Par.inspClass1 + (n - 1))
def classEnable (v : Nat) : Bool := bitAt v 0
def classReject (v : Nat) : Bool := bitAt v 1
def classThresh (v : Nat) : Nat := bitsAt v 16 16
def classSize (v : Nat) : Nat := bitsAt v 32 16
def classCount (v : Nat) : Nat := bitsAt v 48 16

/-- A pixel with its residual: line index, pixel, first and last plane column, position viewed and ρ. -/
structure RhoPx where
  line : Nat
  x : Nat
  c0 : Int
  c1 : Int
  y : Int
  rho : Int
deriving DecidableEq, Repr

/-- The residuals of a plane over the lines of a frame that analyses take. -/
def State.rhoMap (s : State) (i : Image) (p : Nat × Nat) : List RhoPx :=
  let ls := s.analysed i
  (i.lines.zipIdx).flatMap (fun (l, n) =>
    match ls.find? (fun e => e.1 == l) with
    | none => []
    | some (_, y) => (List.range l.pix.length).map (fun x =>
      let sp := s.pixelSpan i.port x i.sx
      ⟨n, x, sp.1 / 65536, (sp.2 - 1) / 65536, y, s.residual i.port p l x i.sx y⟩))

/-- The threshold of a class over a pixel: doubled for classes 3 and 5 over columns of a head at depth 2 (R343). -/
def State.threshOver (s : State) (n plane : Nat) (c0 c1 : Int) : Nat :=
  let low := (List.range 16).any (fun h => s.plane h == plane && decide ((s.colFirst h : Int) ≤ c1) && decide (c0 < s.colFirst h + s.colCount h)
    && s.par (Par.at_ Par.headUDepth h) == 2)
  classThresh (s.classPar n) * (if (n == 3 || n == 5) && low then 2 else 1)

/-- A pixel meets a class's threshold on a sign. -/
def State.meets (s : State) (n plane : Nat) (dark : Bool) (q : RhoPx) : Bool :=
  let th : Int := s.threshOver n plane q.c0 q.c1
  if dark then decide (th ≤ q.rho) else decide (q.rho ≤ -th)

/-- Two pixels touch, corners included. -/
def touches (a b : RhoPx) : Bool := decide (a.x ≤ b.x + 1) && decide (b.x ≤ a.x + 1) && decide (a.line ≤ b.line + 1) && decide (b.line ≤ a.line + 1)

/-- Grows a region by the pixels that touch it, until none does. -/
def growRegion : Nat → List RhoPx → List RhoPx → List RhoPx × List RhoPx
  | 0, reg, rest => (reg, rest)
  | fuel + 1, reg, rest =>
    let near := rest.filter (fun q => reg.any (touches q))
    if near.isEmpty then (reg, rest) else growRegion fuel (reg ++ near) (rest.filter (fun q => !reg.any (touches q)))

/-- The 8-connected regions of marked pixels. -/
def regionsOf : Nat → List RhoPx → List (List RhoPx)
  | 0, _ => []
  | _, [] => []
  | fuel + 1, q :: rest =>
    let g := growRegion rest.length [q] rest
    g.1 :: regionsOf fuel g.2

/-- From the least to the greatest of some numbers, both counted. -/
def extent (xs : List Nat) : Nat := match xs with
  | [] => 0
  | x :: rest => rest.foldl max x + 1 - rest.foldl min x

/-- The class of a region in the order of *Defect classes*, by its pixels that meet each class's threshold. -/
def State.classOf (s : State) (plane : Nat) (dark : Bool) (reg : List RhoPx) : Option Nat :=
  let streak := if dark then 2 else 1
  let blob := if dark then 4 else 3
  let px := reg.filter (s.meets streak plane dark)
  let wide := extent (px.map RhoPx.x)
  if wide != 0 && wide ≤ 8 && classSize (s.classPar streak) ≤ extent (px.map RhoPx.line) then some streak
  else if classSize (s.classPar blob) ≤ (reg.filter (s.meets blob plane dark)).length && reg.any (s.meets blob plane dark) then some blob
  else none

/-- Tiles of 256 pixels by 64 lines. -/
def tilesOf (px : List RhoPx) : List (List RhoPx) :=
  ((px.map (fun q => (q.line / 64, q.x / 256))).eraseDups).map (fun t => px.filter (fun q => q.line / 64 == t.1 && q.x / 256 == t.2))

/-- The segment whose column fired a pixel; 0 when none. -/
def State.firedBy (s : State) (plane : Nat) (q : RhoPx) : Nat :=
  ((s.insp.tap.find? (fun z => z.plane == plane && decide (q.c0 ≤ z.col) && decide ((z.col : Int) ≤ q.c1) && z.y == q.y)).map Shot.handle).getD 0

/-- The first pixel of a region: the first line, and there the lowest pixel. -/
def firstPx (reg : List RhoPx) : RhoPx :=
  reg.foldl (fun b q => if q.line < b.line ∨ (q.line = b.line ∧ q.x < b.x) then q else b) ((reg.head?).getD ⟨0, 0, 0, 0, 0, 0⟩)

/-- The defect record of a region, not yet numbered. -/
def State.defectOf (s : State) (i : Image) (plane cls : Nat) (reg : List RhoPx) : Defect :=
  let f := firstPx reg
  let lo := reg.foldl (fun m q => min m q.c0) f.c0
  let hi := reg.foldl (fun m q => max m q.c1) f.c1
  let peak := reg.foldl (fun m q => if m.natAbs < q.rho.natAbs then q.rho else m) 0
  ⟨0, s.firedBy plane f, f.y * 65536, cls, i.port, plane, false, lo.toNat, (hi - lo + 1).toNat, (reg.map RhoPx.line).eraseDups.length,
    max (-32768) (min 32767 peak)⟩

/-- The segments that supplied a column of a defect at a position from its first viewed line less 63 to its last (R351). -/
def State.suppliers (s : State) (d : Defect) (last : Int) : List Nat :=
  ((s.insp.tap.filter (fun q => q.plane == d.plane && d.colFirst ≤ q.col && q.col < d.colFirst + d.colCount
    && decide (d.pos / 65536 - 63 ≤ q.y) && decide (q.y ≤ last))).map Shot.handle).eraseDups

/-- The output of a product's candidate, and its reference position in 1/65,536 line (R261). -/
def State.productRef (s : State) (handle : Nat) : Option (Nat × Int) :=
  let g := (s.seg handle).orElse (fun _ => (s.spool.records.reverse.find? (fun (r : Record) => r.seg.handle == handle)).map Record.seg)
  g.map (fun g => if g.printGo then (s.pgoOut g.pgo, g.edge.getD 0) else (s.par Par.posRejAbsOut, 65536 * g.p0))

/-- An inspection reject names a product (R351): its queued candidate is a reject; where that has fallen due and was
dropped, the output asserts at once. Answers whether a pulse was scheduled. -/
def State.inspReject (handle : Nat) (s : State) : State × Bool :=
  match s.productRef handle with
  | none => (s, false)
  | some (n, ref) =>
    match lookup handle (s.rej n).dropped with
    | some w =>
      let s := s.modRej n (fun o => { o with dropped := o.dropped.filter (fun d => d.1 != handle) })
      ((((s.assertRej n w).bump Par.posRejLate 1).raise Ev.rejectFault 0 [BitVec.ofNat 8 n, 3]).bump Par.inspRejects 1, true)
    | none =>
      if (s.rej n).queue.any (fun c => c.handle == some handle) then
        if (s.rej n).queue.any (fun c => c.handle == some handle && c.insp) then (s, true)
        else ((s.modRej n (fun o => { o with queue := o.queue.map (fun c => if c.handle == some handle then { c with insp := true } else c) })).bump
          Par.inspRejects 1, true)
      else if s.pos.hw * 65536 < ref + 65536 * s.rejPar Par.posRej0Distance n then ((s.refCand n ref (some handle) false true).bump Par.inspRejects 1, true)
      else (s, false)

/-- Records a defect (R343, R344, R351). -/
def State.recordDefect (d : Defect) (last : Int) (s : State) : State :=
  let v := s.classPar d.cls
  if !classEnable v then s
  else
    let r := if classReject v then (s.suppliers d last).foldl (fun (acc : State × Bool) h =>
        let (s, hit) := acc.1.inspReject h
        (s, acc.2 || hit)) (s, false) else (s, false)
    let s := r.1
    let d := { d with num := s.insp.nextDefect, rejected := r.2 }
    let sec := s.now / 1000000000
    let row := ((s.insp.seconds.find? (fun e => e.1 == sec && e.2.1 == d.view)).map (fun e => e.2.2)).getD (List.replicate 6 0)
    let row := modNth (· + 1) (d.cls - 1) row
    let a := nth s.insp.alarms ⟨false, [], 0⟩ (d.cls - 1)
    let times := s.now :: a.times.filter (fun l => s.now < l + 1000000000)
    let full := decide (classCount v ≤ times.length)
    let high := if full then nth times s.now (classCount v - 1) + 1000000000 else a.high
    let s := { s with insp := { s.insp with
      nextDefect := s.insp.nextDefect + 1
      defects := (d :: s.insp.defects).take 1024
      seconds := (sec, d.view, row) :: s.insp.seconds.filter (fun e => !(e.1 == sec && e.2.1 == d.view) && decide (sec < e.1 + 3600))
      alarms := modNth (fun _ => ⟨a.on || full, times, max a.high high⟩) (d.cls - 1) s.insp.alarms } }
    let s := s.bump Par.inspDefects 1
    s.when (full && !a.on) (State.raiseKeyed Ev.defectAlarm 0 d.cls [BitVec.ofNat 8 d.cls, BitVec.ofNat 8 d.view])

/-- The mean ρ of a tile lies beyond the threshold of class 5 (*Defect classes*). -/
def State.denseTile (s : State) (plane : Nat) (dark : Bool) (tile : List RhoPx) : Bool :=
  let f := firstPx tile
  let th : Int := s.threshOver 5 plane (tile.foldl (fun m q => min m q.c0) f.c0) (tile.foldl (fun m q => max m q.c1) f.c1) * tile.length
  let sum := (tile.map RhoPx.rho).sum
  if dark then decide (th < sum) else decide (sum < -th)

/-- The defects of a registered frame in one plane: regions of each sign, then of each sign the tiles of class 5, of which those that touch
are one region of MIN_SIZE tiles or more (R343, DEDUCED, log entry 99). -/
def State.findDefects (s : State) (i : Image) (p : Nat × Nat) : List (Defect × Int) :=
  let px := s.rhoMap i p
  let regions := [false, true].flatMap (fun dark =>
    let streak := if dark then 2 else 1
    let blob := if dark then 4 else 3
    let marked := px.filter (fun q => s.meets streak p.1 dark q || s.meets blob p.1 dark q)
    (regionsOf marked.length marked).filterMap (fun reg => (s.classOf p.1 dark reg).map (fun n => (n, reg))))
  let dense := [false, true].flatMap (fun dark =>
    let hot := (tilesOf px).filter (fun tile => s.denseTile p.1 dark tile)
    let marks := hot.map (fun tile => { firstPx tile with line := (firstPx tile).line / 64, x := (firstPx tile).x / 256 })
    ((regionsOf marks.length marks).filter (fun reg => decide (classSize (s.classPar 5) ≤ reg.length))).map (fun reg =>
      (5, (hot.filter (fun tile => reg.any (fun m => m.line == (firstPx tile).line / 64 && m.x == (firstPx tile).x / 256))).flatten)))
  (regions ++ dense).map (fun r => (s.defectOf i p.1 r.1 r.2, r.2.foldl (fun m q => max m q.y) (firstPx r.2).y))

/-- Defect detection of a frame (R343, R344, R351). -/
def State.defectPass (engine : Nat) (i : Image) (s : State) : State :=
  if !i.registered then
    let d : Defect := ⟨0, 0, ((i.lines.head?).map (fun l => s.viewedAt i.port l.x * 65536)).getD 0, 6, i.port, 0, false, 0, 0, i.lines.length, 0⟩
    let s := s.when (classSize (s.classPar 6) ≤ i.run) (State.recordDefect d (d.pos / 65536))
    s.endFrame engine i
  else
    let found := (s.viewPlanes i.port).flatMap (s.findDefects i)
    let ls := s.analysed i
    let s := s.each found (fun d s => s.recordDefect d.1 d.2)
    let viewed := s.insp.viewed.map (fun (v : Viewed) => if v.view == i.port && ls.any (fun e => e.1.x == v.x) then { v with done := true } else v)
    let s := { s with insp := { s.insp with viewed := viewed } }
    ((s.noteCover i.port i.num 0 ls.length).modImage i.port i.num (fun j => { j with stage := 1, done := true }))

/-- DEFECT_ANALYSIS (R343, R344, R351): the frame in work on an engine. -/
def execDefectAnalysis (t engine : Nat) (s : State) : Outcome State Fault Refusal :=
  let s := s.at_ t
  match s.working engine with
  | none => .next s
  | some i => if i.stage ≠ 0 then .next s else .next (s.underFrame i.insp (State.defectPass engine i))

/-- DEFECT_ALARM_CLEAR (R344): 10 s with fewer defects than ALARM_COUNT. -/
def execDefectAlarmClear (t cls : Nat) (s : State) : Outcome State Fault Refusal :=
  let s := s.at_ t
  let a := nth s.insp.alarms ⟨false, [], 0⟩ (cls - 1)
  if cls = 0 ∨ 6 < cls ∨ !a.on ∨ s.now < a.high + 10000000000 then .next s
  else .next ({ s with insp := { s.insp with alarms := modNth (fun a => { a with on := false }) (cls - 1) s.insp.alarms } }.endCond Ev.defectAlarm cls)

/-! ## Nozzle health and density (R345-R349) -/

/-- A column of a plane on one line: its firing set, its coverage and the mean of −ρ over its pixels. -/
structure ColLine where
  set : List (Nat × Nat)
  cover : Nat
  rho : Int
  solo : Bool
deriving DecidableEq, Repr

/-- The columns whose pixels lie wholly within a frame of a view. -/
def State.wholeCols (s : State) (i : Image) : List Int :=
  let a := (s.pixelSpan i.port 0 i.sx).1
  let b := (s.pixelSpan i.port (i.width - 1) i.sx).2
  let c0 := -((-a) / 65536)
  (List.range (b / 65536 - c0).toNat).map (fun (k : Nat) => c0 + (k : Int))

/-- A column of a plane on some lines of a frame. -/
def State.colOver (s : State) (i : Image) (p : Nat × Nat) (ls : List (OutLine × Int)) (col : Int) : List ColLine :=
  ls.map (fun (l, y) =>
    let shots := s.insp.tap.filter (fun q => q.plane == p.1 && (q.col : Int) == col && q.y == y)
    let xs := (List.range l.pix.length).filter (fun x =>
      let sp := s.pixelSpan i.port x i.sx
      decide (sp.1 < (col + 1) * 65536) && decide (col * 65536 < sp.2))
    let rho := roundFreeInt 345 ((xs.map (fun x => s.residual i.port p l x i.sx y)).sum) xs.length
    ⟨sortLe (fun (a b : Nat × Nat) => a.1 < b.1 || (a.1 == b.1 && a.2 ≤ b.2)) (shots.map (fun q => (q.head, q.slot))).eraseDups, s.coverAt p.1 col y, rho,
      shots.any Shot.solo⟩)

/-- The lines of a column that the analyses of a frame may use. -/
def State.colLines (s : State) (i : Image) (p : Nat × Nat) (col : Int) : List ColLine := s.colOver i p (s.analysed i) col

/-- The verdict of one firing set of a column (R345). -/
def State.verdictOf (s : State) (set : List (Nat × Nat)) (ls : List ColLine) : Option Noz :=
  let mine := ls.filter (fun l => l.set == set)
  let deficit := -((mine.map ColLine.rho).sum)
  match set with
  | [] => none
  | (h, _) :: _ =>
    if mine.length < s.par Par.inspNozMinLines || set.any (fun x => x.1 != h) then none
    else if (s.par Par.inspNozThresh : Int) * mine.length ≤ deficit then some ⟨h, set.map Prod.snd, true⟩
    else if deficit ≤ (s.par Par.inspNozClear : Int) * mine.length then some ⟨h, set.map Prod.snd, false⟩
    else none

/-- The verdicts of a frame (R345). -/
def State.verdicts (s : State) (i : Image) : List Noz :=
  (s.viewPlanes i.port).flatMap (fun p => (s.wholeCols i).flatMap (fun col =>
    let ls := (s.colLines i p col).filter (fun l => s.par Par.inspNozMinCover ≤ l.cover)
    ((ls.map ColLine.set).eraseDups).filterMap (fun set => s.verdictOf set ls)))

/-- Density evidence of a firing set (R349): at INSP.DENS_LINES the mean decides, and the accumulator restarts. -/
def State.density (h : Nat) (slots : List Nat) (n : Nat) (sum : Int) (s : State) : State :=
  let old := (s.insp.density.find? (fun d => d.head == h && d.slots == slots)).getD ⟨h, slots, 0, 0⟩
  let d : Density := ⟨h, slots, old.lines + n, old.sum + sum⟩
  let rest := s.insp.density.filter (fun d => !(d.head == h && d.slots == slots))
  if d.lines < s.par Par.inspDensLines then { s with insp := { s.insp with density := d :: rest } }
  else
    let tol : Int := s.par Par.inspDensTol * (if s.par (Par.at_ Par.headUDepth h) = 2 then 2 else 1)
    let s := { s with insp := { s.insp with density := rest } }
    if tol * d.lines < d.sum then s.each slots (fun x s => s.stepRemap h x false)
    else if d.sum < -(tol * d.lines) then s.each slots (fun x s => s.stepRemap h x true)
    else s

/-- Mid-tone lines of a frame, by firing sets whose nozzles fire through their REMAP (R349). -/
def State.densityOf (s : State) (i : Image) : List (Nat × List Nat × Nat × Int) :=
  (s.viewPlanes i.port).flatMap (fun p => (s.wholeCols i).flatMap (fun col =>
    let ls := (s.colLines i p col).filter (fun l => 250 ≤ l.cover && l.cover ≤ 750 && !l.solo)
    ((ls.map ColLine.set).eraseDups).filterMap (fun set =>
      let mine := ls.filter (fun l => l.set == set)
      match set with
      | [] => none
      | (h, _) :: _ => if set.any (fun x => x.1 != h) then none else some (h, set.map Prod.snd, mine.length, (mine.map ColLine.rho).sum))))

/-- Nozzle health of a frame (R345-R349). -/
def State.nozzlePass (i : Image) (s : State) : State :=
  let vs := s.verdicts i
  let ds := s.densityOf i
  let n := (s.analysed i).length
  let s := s.applyVerdicts vs
  let s := s.each ds (fun d s => s.density d.1 d.2.1 d.2.2.1 d.2.2.2)
  (s.noteCover i.port i.num 1 n).modImage i.port i.num (fun j => { j with stage := 2 })

/-- NOZZLE_HEALTH_ANALYSIS (R340, R345-R349): skipped, with alignment, when more than 3 frames wait. -/
def execNozzleHealthAnalysis (t engine : Nat) (s : State) : Outcome State Fault Refusal :=
  let s := s.at_ t
  match s.working engine with
  | none => .next s
  | some i =>
    if i.stage ≠ 1 then .next s
    else if 3 < (s.engine engine).queue.length - 1 then .next (s.endFrame engine i)
    else .next (s.underFrame i.insp (State.nozzlePass i))

/-! ## Alignment (R350) -/

/-- Edges of a band gather with the nozzles that fired it; at INSP.ALIGN_EDGES the mean decides, and the band restarts (R350). -/
def State.bandEdges (plane band : Nat) (shifts : List Int) (nozzles : List (Nat × Nat)) (s : State) : State :=
  let old := (s.insp.bands.find? (fun b => b.plane == plane && b.band == band)).getD ⟨plane, band, 0, 0, []⟩
  let b : Band := ⟨plane, band, old.edges + shifts.length, old.sum + shifts.sum, (old.nozzles ++ nozzles).eraseDups⟩
  let rest := s.insp.bands.filter (fun b => !(b.plane == plane && b.band == band))
  if b.edges < s.par Par.inspAlignEdges then { s with insp := { s.insp with bands := b :: rest } }
  else
    let s := { s with insp := { s.insp with bands := rest } }
    if b.sum.natAbs < s.par Par.inspAlignTol * b.edges then s
    else s.each b.nozzles (fun x s => s.stepVernier x.1 x.2 (decide (b.sum < 0)))

/-- The lines of a frame at which e_p of a column of a band steps by 500 or more from the camera line before, by their index (R350, DEDUCED, log
entry 101). -/
def State.edgeLines (s : State) (plane band : Nat) (ls : List (OutLine × Int)) : List Nat :=
  let cols := (List.range 16).map (fun (k : Nat) => ((16 * band + k : Nat) : Int))
  let cover := ls.map (fun l => cols.map (fun c => s.coverAt plane c l.2))
  (((cover.zip (cover.drop 1)).zipIdx).filter (fun e => (e.1.1.zip e.1.2).any (fun v => decide (v.1 + 500 ≤ v.2) || decide (v.2 + 500 ≤ v.1)))).map
    (fun e => e.2 + 1)

/-- The expected and the measured values of a band's pixels along a frame, summed per line. -/
def State.bandProfile (s : State) (i : Image) (p : Nat × Nat) (band : Nat) (ls : List (OutLine × Int)) : List (Int × Int) :=
  ls.map (fun (l, y) =>
    let xs := (List.range l.pix.length).filter (fun x =>
      let sp := s.pixelSpan i.port x i.sx
      decide (sp.1 < (16 * (band : Int) + 16) * 65536) && decide (16 * (band : Int) * 65536 < sp.2))
    ((xs.map (fun x => s.expected i.port p.2 x i.sx y)).sum,
      (xs.map (fun x => ((((l.pix[x]?).bind (fun px => px[p.2]?)).getD 0 : Nat) : Int))).sum))

/-- The bands of 16 plane columns that lie wholly within a frame. -/
def State.wholeBands (s : State) (i : Image) : List Nat :=
  let cs := s.wholeCols i
  ((cs.filter (fun c => decide (0 ≤ c) && c % 16 == 0)).map (fun c => (c / 16).toNat)).filter (fun b => cs.contains (16 * (b : Int) + 15))

/-- Alignment of a frame (R350): each edge line of each band with the shift estimated there. -/
def State.alignPass (i : Image) (s : State) : State :=
  let ls := s.analysed i
  let found := (s.viewPlanes i.port).flatMap (fun p => (s.wholeBands i).map (fun b =>
    let profile := s.bandProfile i p b ls
    let shots := s.insp.tap.filter (fun q => q.plane == p.1 && q.col / 16 == b && ls.any (fun l => l.2 == q.y))
    (p.1, b, (s.edgeLines p.1 b ls).map (fun n => signed 16 (Config.edgeShift profile n).toNat), (shots.map (fun q => (q.head, q.slot))).eraseDups)))
  (s.each found (fun e s => s.bandEdges e.1 e.2.1 e.2.2.1 e.2.2.2)).noteCover i.port i.num 2 ls.length

/-- ALIGNMENT_ANALYSIS (R340, R350): skipped when more than 2 frames wait. -/
def execAlignmentAnalysis (t engine : Nat) (_edges : Computed) (s : State) : Outcome State Fault Refusal :=
  let s := s.at_ t
  match s.working engine with
  | none => .next s
  | some i =>
    if i.stage ≠ 2 then .next s
    else if 2 < (s.engine engine).queue.length - 1 then .next (s.endFrame engine i)
    else .next ((s.underFrame i.insp (State.alignPass i)).endFrame engine i)

/-! ## Chart measurement (R353, R354) -/

/-- A finished chart by its handle. -/
def State.chartRecord (s : State) (handle : Nat) : Option Seg :=
  (s.spool.records.reverse.find? (fun (r : Record) => r.seg.handle == handle && r.seg.chart.isSome)).map Record.seg

/-- The chart lines of a slot (*Chart kinds*), by repeat or level. -/
def State.chartLinesOf (s : State) (kind h slot k : Nat) : Nat × Nat :=
  if kind = 1 then (16 + 16 * (slot % 16), 8)
  else if kind = 2 then (16 + 512 * k + 32 * (slot % 16) + 16, 1)
  else
    let first := match s.colOf h slot with | some c => (s.slotsOf h c).head? == some slot | none => true
    if first then (16 + 80 * (k - 1), 32) else (48 + 80 * (k - 1), 32)

/-- Lines of a chart of which a range of kind 0 or 1 holds any. -/
def chartBroken (g : Seg) (h : Nat) (ls : Nat × Nat) : Bool :=
  g.ranges.any (fun r => r.head == h && r.kind ≤ 1 && r.first < ls.1 + ls.2 && ls.1 < r.first + r.count)

/-- The ladder table that minimises the squared distance of the responses to the targets; the one nearer 6 on ties (R353). -/
def State.bestTable (s : State) (plane : Nat) (resp : Nat → Int) : Int :=
  let err := fun t => ((List.range 7).map (fun b =>
    let d := resp (s.table t (b + 1)) - (tWord (s.par (Par.inspDensTargetP0 + plane)) (b + 1) : Int)
    d * d)).sum
  ([6, 5, 7, 4, 8, 3, 9, 2, 10, 1, 11, 0, 12].foldl (fun b t => if err t < err b then t else b) 6 : Nat)

/-- The coverage of a column on a line as measured: what is expected and the residual (R337, DEDUCED, log entry 101). -/
def ColLine.measured (l : ColLine) : Int := l.cover + l.rho

/-- The lines of held and registered frames of a chart that view some of its lines in a column, from the lowest view that sees them all; at a
TRIG_PITCH above 64 a view sees a part of the lines only (R353, DEDUCED, log entry 101). -/
def State.chartView (s : State) (pics : List Image) (g : Seg) (plane col first n : Nat) : List (ColLine × Int × Int) :=
  let lo := g.p0 + first
  let views := (List.range 4).map (fun d =>
    (pics.filter (fun i => i.port == d)).flatMap (fun i =>
      let s := s.frameTake i.insp
      match (s.viewPlanes d).find? (fun p => p.1 == plane) with
      | none => []
      | some p =>
        let ls := (i.lines.map (fun l => (l, s.lineView i l))).filter (fun e => decide (lo ≤ e.2) && decide (e.2 < lo + n) && s.copied e.2)
        if (s.wholeCols i).contains (col : Int) then (s.colOver i p ls col).zip (ls.map (fun e =>
          (e.2, 64 * (e.1.x - s.viewPar Par.inspView0Distance d * 65536) / 65536 + i.sy * i.pitch / 4))) else []))
  (views.find? (fun v => !v.isEmpty && (pics.any (fun i => decide (64 < i.pitch)) ||
    (List.range n).all (fun k => v.any (fun e => e.2.1 == lo + (k : Int)))))).getD []

/-- The along-web centroid of a dot line, in 1/64 line, over the 32 lines about it (R353); `none` where it is not found. -/
def dotPlace (ls : List (ColLine × Int × Int)) : Option Int :=
  let profile := ls.map (fun e => (e.2.2, max 0 e.1.measured))
  let mass := (profile.map Prod.snd).sum
  if mass = 0 ∨ Config.dotFound profile = 0 then none
  else some (roundFreeInt 3531 ((profile.map (fun e => e.1 * e.2)).sum) mass.toNat)

/-- What a chart's image tells of one slot (R353): for NOZZLE_CHECK 1 where it printed, for PLACEMENT its place in 1/64 line, for DENSITY its table;
`none` where it is unmeasured. A slot of which no coverage is expected is unmeasured (DESIGN CHOICE, log entry 101). -/
def State.slotResult (s : State) (pics : List Image) (g : Seg) (kind h slot : Nat) : Option Int :=
  match s.colOf h slot with
  | none => none
  | some c =>
    let view := fun (first n : Nat) => s.chartView pics g (s.plane h) (s.colFirst h + c) first n
    if kind = 1 then
      let r := s.chartLinesOf 1 h slot 0
      let ls := (view r.1 r.2).map Prod.fst
      let want := (ls.map ColLine.cover).sum
      if chartBroken g h r || want == 0 then none
      else some (if (s.par Par.inspChartPrint : Int) * want ≤ 1000 * (ls.map ColLine.measured).sum then 1 else 0)
    else if kind = 2 then
      let places := (List.range 4).filterMap (fun m =>
        let r := s.chartLinesOf 2 h slot m
        if chartBroken g h r then none
        else (dotPlace (view (r.1 - 16) 32)).map (fun x => x - 64 * (g.p0 + r.1)))
      if pics.any (fun i => decide (32 < i.pitch)) || places.length < 3 then none
      else some (roundFreeInt 353 places.sum places.length + ePlace (s.entry h slot))
    else
      let resp := (List.range 7).filterMap (fun k =>
        let r := s.chartLinesOf 3 h slot (k + 1)
        let ls := (view (r.1 + 8) 16).map Prod.fst
        if chartBroken g h r || ls.isEmpty then none else some (roundFreeInt 3532 ((ls.map ColLine.measured).sum) ls.length))
      if resp.length < 7 then none else some (s.bestTable (s.plane h) (fun v => if v = 0 then 0 else nth resp 0 (v - 1)))

/-- INSP_CHART_MEASURE (R353). -/
def effInspChartMeasure : Effect := fun c s =>
  needLen c 12 s <|
  let chart := leAt c.body 0 8
  let views := leAt c.body 8 1
  if 16 ≤ views then refuse St.reservedNonzero 16 s
  else needZero c 9 3 s <|
  if views = 0 then refuse St.valueRange 16 s
  else
    match s.seg chart, s.chartRecord chart with
    | some g, _ =>
      if g.chart.isNone then refuse St.unknownHandle 0 s
      else needChange c .inspStats s <| needOwner c s <| refuse St.segmentState g.state s
    | none, none => refuse St.unknownHandle 0 s
    | none, some _ =>
      needChange c .inspStats s <| needOwner c s <|
      ({ s with insp := { s.insp with runs := s.insp.runs ++ [⟨c.cid, chart, views⟩] } }, .pending)

/-- CHART_MEASURE_DONE (R353, R354): the oldest measurement of a chart ends. -/
def execChartMeasureDone (t chart : Nat) (_found : Computed) (s : State) : Outcome State Fault Refusal :=
  let s := s.at_ t
  match s.insp.runs.find? (fun r => r.chart == chart), s.chartRecord chart with
  | some r, some g =>
    let kind := g.chart.elim 0 Prod.fst
    let pics := s.insp.images.filter (fun i => i.registered && i.charts.contains chart && bitAt r.views i.port)
    let slots := if pics.isEmpty then [] else g.headList.flatMap (fun h =>
      ((List.range (s.slots h)).filter (fun x => s.slotState h x != 5)).filterMap (fun x => (s.slotResult pics g kind h x).map (fun v => (h, x, v))))
    let handle := (Config.measureHandle s.insp.nextMeasure).toNat
    let m : Measure := ⟨handle, kind, g.heads, g.headList.map (fun h => (h, some (s.head h).identity)), slots, s.now⟩
    let all := s.insp.measures ++ [m]
    let s := { s with insp := { s.insp with
      runs := s.insp.runs.filter (fun x => x.cid != r.cid), nextMeasure := s.insp.nextMeasure + 1, measures := all.drop (all.length - 16) } }
    let s := ((s.bump Par.inspMeasurements 1).releaseCharts (· == chart)).pruneImages
    let per := g.headList.flatMap (fun h =>
      let n := (slots.filter (fun x => x.1 == h)).length
      let total := ((List.range (s.slots h)).filter (fun x => s.slotState h x != 5)).length
      leBytes 2 n ++ leBytes 2 (total - n))
    .next (s.finish r.cid St.ok 0 (.bytes (leBytes 8 handle ++ leBytes 1 kind ++ [0, 0, 0] ++ leBytes 2 g.heads ++ [0, 0] ++ per)))
  | _, _ => .next s

/-- MEASUREMENT_EXPIRY (R354): 600 s after its FINAL. -/
def execMeasurementExpiry (t handle : Nat) (s : State) : Outcome State Fault Refusal :=
  let s := s.at_ t
  .next { s with insp := { s.insp with measures := s.insp.measures.filter (fun m => !(m.handle == handle && decide (m.t + 600000000000 ≤ s.now))) } }

/-! ## Reads -/

/-- A defect record, 32 bytes. -/
def Defect.bytes (d : Defect) : List Byte :=
  leBytes 8 d.handle ++ leBytes 8 (twos 64 d.pos) ++ leBytes 1 d.cls ++ leBytes 1 (d.view + 4 * d.plane + bit d.rejected 4) ++ [0, 0]
    ++ leBytes 2 d.colFirst ++ leBytes 2 d.colCount ++ leBytes 4 d.lines ++ leBytes 2 (twos 16 d.peak) ++ [0, 0]

/-- INSP_STATS_READ. -/
def effInspStatsRead : Effect := fun c s =>
  needLen c 8 s <|
  let kind := leAt c.body 0 1
  let view := leAt c.body 1 1
  let n := leAt c.body 2 2
  let first := leAt c.body 4 4
  if 2 < kind then refuse St.badEnum 8 s
  else if 4 ≤ view ∧ view ≠ 0xFF then refuse St.valueRange 9 s
  else if kind ≠ 0 ∧ (n = 0 ∨ 256 < n) then refuse St.valueRange 10 s
  else if kind = 0 then
    match learnRight c.role .inspStats with
    | .none => refuse St.classForbidden 0 s
    | _ => okay 0 (leBytes 4 (((List.range 6).map (fun k => bit (nth s.insp.alarms ⟨false, [], 0⟩ k).on (k + 1))).sum)) s
  else needLearn c .inspStats s <|
  let mine := fun (v : Nat) => view == 0xFF || v == view
  if kind = 1 then
    let sec := s.now / 1000000000
    let rows := ((List.range n).map (fun k => first + k)).filter (fun b => b < 3600 && b ≤ sec)
    okay 0 (rows.flatMap (fun b =>
      let es := s.insp.seconds.filter (fun e => e.1 == sec - b && mine e.2.1)
      leBytes 4 (sec - b) ++ (List.range 6).flatMap (fun k => leBytes 2 (min 65535 ((es.map (fun e => nth e.2.2 0 k)).sum))))) s
  else okay 0 ((((s.insp.defects.drop first).take n).filter (fun d => mine d.view)).flatMap Defect.bytes) s

/-- INSP_COVERAGE_READ (R341). -/
def effInspCoverageRead : Effect := fun c s =>
  needLen c 0 s <|
  match learnRight c.role .inspStats with
  | .none => refuse St.classForbidden 0 s
  | _ =>
    let row := fun (st : Nat) (e : Option Nat) => leBytes 1 st ++ [0]
      ++ [1000000000, 60000000000].flatMap (fun w => [0, 1, 2].flatMap (fun k => leBytes 2 (s.coverage e w k))) ++ [0, 0]
    okay 0 ((List.range 8).flatMap (fun e => row (if (s.engine e).out then 0 else 1) (some e)) ++ row 1 none) s

/-- The job of a segment handle. -/
def State.jobOf (s : State) (handle : Nat) : Option Nat :=
  ((s.seg handle).map Seg.job).orElse (fun _ => (s.spool.records.reverse.find? (fun (r : Record) => r.seg.handle == handle)).map (fun r => r.seg.job))

/-- MASK of one camera line for a job (R355): 0 returned, 1 another job or none, 2 not held. -/
def State.lineMask (s : State) (job d : Nat) (px : Nat × Nat) (x : Int) : Nat :=
  match s.insp.images.find? (fun i => i.port == d && i.lines.any (fun l => l.x == x)) with
  | none => 2
  | some i =>
    let s := s.frameTake i.insp
    let y := s.viewedAt d x
    let cols : Int × Int := ((s.pixelSpan d px.1 0).1, (s.pixelSpan d px.2 0).2)
    let planes := maskUnits 4 (s.viewPar Par.inspView0Planes d)
    let shots := s.insp.tap.filter (fun q => planes.contains q.plane && decide (cols.1 ≤ (q.col : Int) * 65536 + 65535) && decide ((q.col : Int) * 65536 < cols.2)
      && decide (y - 63 ≤ q.y) && decide (q.y ≤ y))
    if shots.any (fun q => !q.chart && s.jobOf q.handle == some job) && shots.all (fun q => !q.chart && s.jobOf q.handle == some job) then 0 else 1

/-- The stamp positions of a view's camera lines from a position on, ascending: of the triggers that left lately and of the lines in a buffer (R355,
DEDUCED, log entry 103). -/
def State.stampsFrom (s : State) (d : Nat) (first : Int) : List Int :=
  let xs := (s.insp.viewed.filter (fun v => v.view == d && v.stamped)).map Viewed.x
    ++ (s.insp.images.filter (fun i => i.port == d)).flatMap (fun i => i.lines.map OutLine.x)
  sortLe (fun a b => decide (a ≤ b)) ((xs.filter (fun x => decide (first ≤ x))).eraseDups)

/-- An image under the image key of a job key and the request nonce (R150): ciphertext, then tag. -/
def sealImage (key : Nat) (nonce plain : List Byte) : List Byte :=
  let sealed_ := gcmSeal 16 (hkdfExpand (hkdfExtract nonce (beBytes 32 key)) (ascii "alaten image") 32) (List.replicate 12 0) [] plain
  sealed_.1 ++ sealed_.2

/-- The reply of an image request (R150, R355): N in clear, then the image sealed under the image key of its job, whose key may have
been erased while the samples were packed (log entry 174). A reply above the capacity of R91 draws 0x0405 with the length needed. -/
def State.imageReply (cid job : Nat) (nonce header samples : List Byte) (s : State) : State :=
  let need := 16 + up4 (32 + header.length + samples.length + 16)
  match s.shell.keys.find? (fun k => k.job == job) with
  | none => s.finish cid St.noJobKey 0 (.bytes [])
  | some k =>
    if 9120 < need then s.finish cid St.replyTooLarge need (.bytes [])
    else s.finish cid St.ok 0 (.bytes (nonce ++ sealImage k.key nonce (header ++ samples)))

/-- INSP_IMAGE_REQUEST (R150, R355). -/
def effInspImageRequest : Effect := fun c s =>
  let b := c.body
  needLen c 28 s <|
  let job := leAt b 0 8
  let b8 := leAt b 8 1
  let d := b8 % 4
  let byte := bitAt b8 2
  let pack := bitAt b8 3
  let mask := leAt b 9 1
  let step := leAt b 10 1
  let first := leAt b 12 8
  let n := leAt b 20 2
  let px := leAt b 22 2
  let pn := leAt b 24 2
  let width := s.par (Par.at_ Par.camUWidth d)
  if 16 ≤ b8 then refuse St.reservedNonzero 16 s
  else if 32 ≤ mask then refuse St.reservedNonzero 17 s
  else if 16 ≤ step then refuse St.reservedNonzero 18 s
  else needZero c 11 1 s <| needZero c 26 2 s <|
  if job = 0 then refuse St.valueRange 8 s
  else if step = 0 then refuse St.valueRange 18 s
  else if n = 0 ∨ 256 < n then refuse St.valueRange 28 s
  else if width ≤ px then refuse St.valueRange 30 s
  else if pn = 0 ∨ 16384 < pn ∨ width < px + (pn - 1) * step + 1 then refuse St.valueRange 32 s
  else if learnRight c.role .images != .key then refuse St.classForbidden 0 s
  else if !s.holdsKey c.sn job then refuse St.noJobKey 0 s
  else needRandom s <|
    let vs := s.stampsFrom d (signed 64 first * 65536)
    let pick := (List.range n).map (fun i => vs[i * step]?)
    let masks := pick.map (fun x => x.elim 2 (s.lineMask job d (px, px + (pn - 1) * step)))
    let held := pick.map (fun x => x.bind (fun x => s.insp.images.findSome? (fun i => if i.port == d then (i.lines.find? (fun l => l.x == x)).map (fun l => (i, l)) else none)))
    let codes := ((held.findSome? id).map (fun e => e.1.codes.length)).getD 1
    let chans := maskUnits (min 5 codes) mask
    let samples := (held.zip masks).flatMap (fun (e, m) => (List.range pn).flatMap (fun k => chans.flatMap (fun ch =>
      let v := match e with
        | some (_, l) => if m = 0 then ((l.pix[px + k * step]?).bind (fun q => q[ch]?)).getD 0 else 0
        | none => 0
      if byte then leBytes 1 (v / 256) else leBytes 2 v)))
    let header := leBytes 4 0x47494C41 ++ leBytes 1 1 ++ leBytes 1 (bit byte 0) ++ leBytes 1 ((chans.map (fun k => 2 ^ k)).sum) ++ leBytes 1 step
      ++ leBytes 8 (twos 64 ((pick.findSome? id).getD (signed 64 first * 65536))) ++ leBytes 2 n ++ leBytes 2 pn
      ++ leBytes 4 (((held.findSome? id).map (fun e => e.1.seq)).getD 0)
      ++ leBytes 64 ((masks.zipIdx.map (fun (m, i) => m * 4 ^ i)).sum)
    let nonce := randomBytes s.draws 32
    if pack && !s.pack.out then
      ({ s.draw with pack := { s.pack with jobs := s.pack.jobs ++
        [⟨c.cid, c.sn, c.tag, 1, 0, .image job nonce header, 0, samples.length, 2 ^ 32, samples, 0, false, none⟩] } }, .later)
    else (s.draw.imageReply c.cid job nonce header samples, .later)

def execInspStatsRead (t : Nat) (h : Hdr) (b : List Byte) (s : State) : Outcome State Fault Refusal :=
  .next (hostRow (.inspStatsRead t h b) 0x0E01 t h b effInspStatsRead s)

def execInspImageRequest (t : Nat) (h : Hdr) (b : List Byte) (s : State) : Outcome State Fault Refusal :=
  .next (hostRow (.inspImageRequest t h b) 0x0E02 t h b effInspImageRequest s)

def execInspCoverageRead (t : Nat) (h : Hdr) (b : List Byte) (s : State) : Outcome State Fault Refusal :=
  .next (hostRow (.inspCoverageRead t h b) 0x0E03 t h b effInspCoverageRead s)

def execInspChartMeasure (t : Nat) (h : Hdr) (b : List Byte) (s : State) : Outcome State Fault Refusal :=
  .next (hostRow (.inspChartMeasure t h b) 0x0E04 t h b effInspChartMeasure s)

end Sys2Proof.Machine
end

