-- ==== Sys2Proof/Machine/Pack.lean ====
section
/-! DEFINITION. Events as commands read them (18_events_and_trouble_log.md) the pack engine (17_pack_engine.md), and TEST_BIST (R492). -/
namespace Sys2Proof.Machine
open Host

/-! ## The trouble log (R408-R417) -/

/-- Whether a reader skips an entry (R413). -/
def LogEntry.skips (learns : Cls → Bool) (e : LogEntry) : Bool := (e.handle && !learns .spool) || (e.counters && !learns .counters)

/-- An entry for a reader (R413): zeroed where its arguments carry a class that the reader does not learn. -/
def LogEntry.shownTo (learns : Cls → Bool) (e : LogEntry) : LogEntry := if learns e.argCls then e else e.redact

/-- The entries held at or after a SEQ (R412), which wraps. -/
def State.logFrom (s : State) (first : Nat) : List LogEntry :=
  let oldest := (s.evt.log.head?).elim s.evt.nextSeq LogEntry.seq
  let d := (first + 2 ^ 32 - oldest) % 2 ^ 32
  if 2 ^ 31 ≤ d then s.evt.log else s.evt.log.drop d

/-- Takes up to `n` entries, passing over those that the reader skips: the entries and the number skipped. -/
def takeLog (learns : Cls → Bool) : Nat → List LogEntry → List LogEntry × Nat
  | _, [] => ([], 0)
  | 0, _ => ([], 0)
  | n + 1, e :: es =>
    if e.skips learns then
      let r := takeLog learns (n + 1) es
      (r.1, r.2 + 1)
    else
      let r := takeLog learns n es
      (e.shownTo learns :: r.1, r.2)

/-- The reply of a log read (R412). -/
def State.logReply (s : State) (learns : Cls → Bool) (first n : Nat) : List Byte :=
  let r := takeLog learns n (s.logFrom first)
  leBytes 4 ((r.1.head?).elim s.evt.nextSeq LogEntry.seq) ++ leBytes 2 r.1.length ++ leBytes 2 r.2 ++ r.1.flatMap LogEntry.bytes

/-- EVT_LOG_READ (R412, R413). -/
def effEvtLogRead : Effect := fun c s =>
  needLen c 8 s <|
  let n := leAt c.body 4 2
  if n = 0 ∨ 256 < n then refuse St.badCount 0 s
  else needZero c 6 2 s <|
  if learnRight c.role .log == .none then refuse St.classForbidden 0 s
  else okay 0 (s.logReply (learnsArgs c.role) (leAt c.body 0 4) n) s

/-- EVT_SUBSCRIBE (R415). -/
def effEvtSubscribe : Effect := fun c s =>
  needLen c 20 s <|
  if 2 ≤ leAt c.body 16 1 then refuse St.reservedNonzero 24 s
  else needZero c 17 3 s <|
  let mask := ((maskUnits 128 (leAt c.body 0 16)).filter (fun n => (evRow n).isSome)).foldl (fun a n => a + 2 ^ n) 0
  okay 0 [] (s.modSession c.sn (fun x => { x with subMask := mask, subRing := bitAt (leAt c.body 16 1) 0 }))

/-- Whether an event was raised at the present instant, so that a clearing leaves its latch set (R6, R409). -/
def State.raisedNow (s : State) (ev : Nat) : Bool := s.evt.log.any (fun e => !e.record && !e.preReset && e.code == ev && e.t == s.ring)

/-- EVT_CLEAR for one event (R408, R409): its status, the latch and the log record. -/
def State.clearEvent (sn ev : Nat) (s : State) : State × Nat :=
  match evRow ev with
  | none => (s, St.valueRange)
  | some r =>
    match r.clearing with
    | .oneShot => (s, St.ok)
    | .toReset => (s, St.segmentState)
    | .self => (s, if s.evt.conds.any (fun c => c.1 == ev) then St.segmentState else St.ok)
    | .held =>
      if bitAt s.evt.latched ev && !s.raisedNow ev then
        ({ s with evt := { s.evt with latched := s.evt.latched - 2 ^ ev } }.record 4 0x11 0 (leBytes 1 ev ++ leBytes 1 sn), St.ok)
      else (s, St.ok)

/-- EVT_CLEAR (R408, R409). -/
def effEvtClear : Effect := fun c s =>
  let n := leAt c.body 0 2
  if n = 0 ∨ 64 < n then refuse St.badCount 0 s
  else needLen c (4 + up4 n) s <| needZero c 2 2 s <| needZero c (4 + n) (up4 n - n) s <|
  needChange c .log s <| needOwner c s <|
    let (s, es) := (List.range n).foldl (fun (a : State × List (Nat × Nat)) i =>
      let ev := leAt c.body (4 + i) 1
      let r := a.1.clearEvent c.sn ev
      (r.1, a.2 ++ [(ev, r.2)])) (s, [])
    perEntry (es.filter (fun e => e.2 != St.ok)).length
      (leBytes 2 n ++ [0, 0] ++ es.flatMap (fun e => leBytes 1 e.1 ++ [0] ++ leBytes 2 e.2)) s

/-- EVENT_PIN_PULSE_END (R417). -/
def execEventPinPulseEnd (t pin : Nat) (s : State) : Outcome State Fault Refusal :=
  let s := s.at_ t
  let s := { s with evt := { s.evt with pulses := s.evt.pulses.filter (fun p => p.1 != pin || decide (s.now < p.2)) } }
  .next (s.emit (.pin "EVT_N" (2 * pin + if s.pinLow pin then 0 else 1)))

/-! ## Pack jobs (R397-R404) -/

/-- The entries that SOURCE 1 names (R399): an entry overwritten before the copy is taken stands in its newer form. -/
def State.logCopy (s : State) (first n : Nat) : List LogEntry :=
  (List.range n).filterMap (fun i => s.evt.log.find? (fun e => e.seq % 8192 == (first + i) % 8192))

/-- The source of a job as it stands at its start (R399), with the entries left out. -/
def State.packSource (s : State) (j : PackJob) : List Byte × Nat :=
  let learns := learnsArgs (s.role j.sn)
  if j.use = .logExport then
    let r := takeLog learns j.count (s.logFrom j.first)
    (r.1.flatMap LogEntry.bytes, r.2)
  else if j.source = 1 then
    let es := s.logCopy j.first j.count
    let kept := es.filter (fun e => !e.skips learns)
    (kept.flatMap (fun e => (e.shownTo learns).bytes), es.length - kept.length)
  else if j.source = 2 then ((((s.session j.sn).elim [] Session.capture).drop j.first).take j.count, 0)
  else (j.data, 0)

/-- A job leaves the engine, and its work area is free again. -/
def State.packLeave (j : PackJob) (s : State) : State :=
  { s with pack := { s.pack with jobs := s.pack.jobs.filter (fun k => k.cid != j.cid) } }.freePods j.pod.toList

/-- The reply of a job that gave its output (R397, R413, R355, R493); `packed` says whether the output is packed or, under NO_GAIN, the
raw data of a job of another user than PACK_SUBMIT. -/
def State.packReply (j : PackJob) (packed : Bool) (bytesIn : Nat) (out : List Byte) (s : State) : State :=
  match j.use with
  | .image job nonce header =>
    s.imageReply j.cid job nonce (if packed then header.set 5 (header.getD 5 0 ||| 2) else header) out
  | .capture point start len =>
    s.finish j.cid St.ok 0 (.bytes (leBytes 4 len ++ leBytes 1 point ++ leBytes 1 (bit packed 0) ++ [0, 0] ++ leBytes 8 start ++ pad4 out))
  | _ =>
    let need := 32 + up4 out.length
    if 9120 < need then s.finish j.cid St.replyTooLarge need (.bytes [])
    else s.finish j.cid St.ok 0 (.bytes (leBytes 4 bytesIn ++ leBytes 4 out.length ++ leBytes 4 j.skipped ++ leBytes 4 0 ++ pad4 out))

/-- The reply of a job that failed (R401-R404): BYTES_OUT 0 and no output. -/
def State.packFailed (j : PackJob) (st detail bytesIn : Nat) (s : State) : State :=
  match j.use with
  | .image _ _ _ => s.finish j.cid st detail (.bytes [])
  | .capture _ _ _ => s.finish j.cid st detail (.bytes [])
  | _ => s.finish j.cid st detail (.bytes (leBytes 4 bytesIn ++ leBytes 4 0 ++ leBytes 4 j.skipped ++ leBytes 4 0))

/-- A job ends (R401-R404): the counters and its reply. After NO_GAIN only PACK_SUBMIT fails; the other users send their data raw. -/
def State.packEnd (j : PackJob) (st detail bytesIn : Nat) (out : List Byte) (s : State) : State :=
  let s := ((s.packLeave j).bump Par.packJobs 1).bump Par.packBytesIn bytesIn
  if st = St.ok then (s.bump Par.packBytesOut out.length).packReply j true bytesIn out
  else if st = St.outputFull then (s.bump Par.packFailFull 1).packFailed j st detail bytesIn
  else if st = St.noGain then
    let s := s.bump Par.packFailGain 1
    if j.use = .host then s.packFailed j st detail bytesIn else s.packReply j false j.data.length j.data
  else (s.bump Par.packFailData 1).packFailed j st detail bytesIn

/-- A compression (R397, R401): the lower bound governs, NO_GAIN where the two are equal. -/
def State.compress (j : PackJob) (s : State) : State :=
  let n := j.data.length
  let out := packOut j.data
  if (if j.source = 1 then 32 * j.count else j.count) ≤ j.limit ∧ n ≤ out.length then
    s.packEnd j St.noGain 0 (packReadGain j.data) []
  else if j.limit < out.length then
    let r := packReadFull j.data j.limit
    s.packEnd j St.outputFull r r []
  else s.packEnd j St.ok 0 n out

/-- A decompression (R402); a fault of the stream is found at the source byte that inflation reached. -/
def State.decompress (j : PackJob) (s : State) : State :=
  let b := j.data
  let raw := leAt b 8 4
  if leAt b 0 4 ≠ 0x4B504C41 then s.packEnd j St.valueRange 0 16 []
  else if leAt b 4 1 ≠ 1 then s.packEnd j St.valueRange 4 16 []
  else if leAt b 5 1 ≠ 0 then s.packEnd j St.valueRange 5 16 []
  else if leAt b 6 2 ≠ 0 then s.packEnd j St.valueRange 6 16 []
  else
    let lim := j.limit - 16
    let r := inflate (b.drop 16) (min raw lim) [] none
    let at_ := 16 + r.zreach
    if r.reason = 0x21 ∧ lim < raw then s.packEnd j St.outputFull at_ at_ []
    else if r.reason ≠ 0 ∨ r.out.length ≠ raw ∨ crc32 r.out ≠ leAt b 12 4 then s.packEnd j St.valueRange at_ at_ []
    else s.packEnd j St.ok 0 b.length r.out

/-- The pack engine fails its self-check (R403): EV090, and the job in progress and every queued one fail. -/
def State.packFault (s : State) : State :=
  if s.pack.out then s
  else
    let jobs := s.pack.jobs
    let s := { s with pack := { s.pack with out := true } }.raise Ev.packUnitFault 0 []
    s.each jobs (fun j => State.packEnd j St.unitFault 0x1000 0 [])

/-! ## TEST_BIST (R492) -/

/-- The state of the earliest segment that keeps a set of targets from running. -/
def State.bistBlocked (s : State) (mask : Nat) : Option Nat :=
  ((sortBy Seg.order s.spool.segs).find? (fun g =>
    (bitAt mask 0 && (g.state == Sg.inHorizon || g.state == Sg.printing)) || (bitAt mask 4 && (g.live || g.state == Sg.retained)))).map Seg.state

/-- Pods that the DRAM test takes: up to 64 of the free list. -/
def State.bistPods (s : State) : List Nat := ((s.spool.free.flatMap (fun r => (List.range (min 64 r.2)).map (· + r.1))).take 64)

/-- The units of a target with the byte of each before its test: 2 where it does not run (R492). -/
def State.bistUnits (s : State) (target : Nat) : List (Nat × Nat) :=
  match target with
  | 0 => (List.range 32).map (fun u => (u, if bitAt s.spool.inflateUnits u then 0 else 2))
  | 1 => (List.range 32).map (fun u => (u, if bitAt s.spool.checkUnits u then 0 else 2))
  | 2 => (List.range 8).map (fun u => (u, if (s.engine u).out then 2 else 0))
  | 3 => [(0, if s.pack.out then 2 else 0)]
  | 4 => (List.range 16).map (fun u => (u, 0))
  | 5 => s.bistPods.map (fun p => (p, 0))
  | _ => (List.range 4).map (fun u => (u, if s.par (Par.at_ Par.camUEnable u) = 1 then 2 else 0))

/-- The service of a target. -/
def bistService (target : Nat) : Nat := nth [0x07, 0x07, 0x0E, 0x10, 0x08, 0x06, 0x0D] 0 target

/-- A unit that fails its test (R492): EV119, and the rule that takes it out of service. -/
def State.bistFail (target unit : Nat) (s : State) : State :=
  let s := s.happen.bump Par.testBistFails 1
  let s := match target with
    | 0 => s.inflateOut unit
    | 1 => s.checkOut unit
    | 2 => s.engineOut unit
    | 3 => s.packFault
    | 4 => ((s.modHead unit (fun x => { x with out := true })).raise Ev.headFault unit [5, 0]).hpenUpdate unit
    | 5 => s.retirePod unit
    | _ => s
  s.raise Ev.bistFailed 0 (leBytes 1 (bistService target) ++ leBytes 2 unit)

/-- The bytes of the units of some targets, tested (R492); `failed` holds target and unit of each failure. -/
def State.bistUnitsRun (mask : Nat) (failed : List (Nat × Nat)) (s : State) : State × List Byte :=
  let units : List (Nat × Nat × Nat) := (maskUnits 7 mask).flatMap (fun k => (s.bistUnits k).map (fun u => (k, u.1, u.2)))
  let out := units.map (fun u => (u.1, u.2.1, if u.2.2 = 0 ∧ failed.contains (u.1, u.2.1) then 1 else u.2.2))
  let s := s.bump Par.testBistRuns (out.filter (fun u => u.2.2 != 2)).length
  (s.each (out.filter (fun u => u.2.2 == 1)) (fun u s => s.bistFail u.1 u.2.1), out.map (fun u => BitVec.ofNat 8 u.2.2))

/-- The pack pipeline of a TEST_BIST is tested once the jobs queued before it have left, and the command replies (R492). -/
def State.bistNext (s : State) : State :=
  let live := s.pack.jobs.map PackJob.cid
  s.each (s.test.bist.filter (fun r => r.jobs.all (fun c => !live.contains c))) (fun r s =>
    let s := { s with test := { s.test with bist := s.test.bist.filter (fun x => x.cid != r.cid) } }
    let (s, b) := s.bistUnitsRun 8 (if r.failed then [(3, 0)] else [])
    s.finish r.cid St.ok 0 (.bytes (pad4 (r.before ++ b ++ r.after))))

/-- TEST_BIST (R492). `failed` holds target and unit of each failure. -/
def effTestBist (failed : List (Nat × Nat)) : Effect := fun c s =>
  needLen c 4 s <|
  let mask := leAt c.body 0 4
  if 128 ≤ mask then refuse St.valueRange 8 s
  else needChange c .oper s <| needOwner c s <|
  match s.bistBlocked mask with
  | some st => refuse St.segmentState st s
  | none =>
    let (s, x) := s.bistUnitsRun (mask % 8) failed
    let (s, z) := s.bistUnitsRun (mask / 16 * 16) failed
    if bitAt mask 3 && !s.pack.jobs.isEmpty then
      ({ s with test := { s.test with bist := s.test.bist ++ [⟨c.cid, x, z, failed.contains (3, 0), s.pack.jobs.map PackJob.cid⟩] } }, .later)
    else
      let (s, y) := s.bistUnitsRun (mask / 8 % 2 * 8) failed
      okay 0 (pad4 (x ++ y ++ z)) s

/-! ## Commands of the pack engine -/

/-- PACK_SUBMIT (R398-R400). -/
def effPackSubmit : Effect := fun c s =>
  let b := c.body
  let op := leAt b 0 1
  let src := leAt b 1 1
  let len := leAt b 4 4
  let first := leAt b 8 4
  let limit := leAt b 12 2
  if b.length < 16 then refuse St.badLength 16 s
  else if 4 ≤ op then refuse St.reservedNonzero 8 s
  else if op = 0 ∨ op = 3 then refuse St.badEnum 8 s
  else if 4 ≤ src then refuse St.reservedNonzero 9 s
  else if src = 3 then refuse St.badEnum 9 s
  else needZero c 2 2 s <| needZero c 14 2 s <|
  if len = 0 ∨ (src = 0 ∧ 9096 < len) ∨ (src = 1 ∧ 8192 < len) then refuse St.valueRange 12 s
  else if limit < 17 ∨ 9088 < limit then refuse St.valueRange 20 s
  else needLen c (16 + if src = 0 then up4 len else 0) s <|
  let hold := (s.session c.sn).elim [] Session.capture
  if op = 2 ∧ src ≠ 0 then refuse St.valueRange 9 s
  else if src = 0 ∧ first ≠ 0 then refuse St.valueRange 16 s
  else if src = 1 ∧ s.evt.nextSeq < first + len then refuse St.valueRange 16 s
  else if src = 2 ∧ hold.isEmpty then refuse St.unknownHandle 0 s
  else if src = 2 ∧ hold.length < first + len then refuse St.valueRange 16 s
  else if src = 1 ∧ learnRight c.role .log == .none then refuse St.classForbidden 0 s
  else if s.pack.out then refuse St.unitFault 0x1000 s
  else
    let j : PackJob := ⟨c.cid, c.sn, c.tag, op, src, .host, first, len, limit, if src = 0 then (b.drop 16).take len else [], 0, false, none⟩
    ({ s with pack := { s.pack with jobs := s.pack.jobs ++ [j] } }, .later)

/-- EVT_LOG_EXPORT (R413): a job of SOURCE 1; raw data once the engine is out (R403). -/
def effEvtLogExport : Effect := fun c s =>
  needLen c 8 s <|
  let n := leAt c.body 4 4
  if n = 0 ∨ 8192 < n then refuse St.badCount 0 s
  else if learnRight c.role .log == .none then refuse St.classForbidden 0 s
  else
    let j : PackJob := ⟨c.cid, c.sn, c.tag, 1, 1, .logExport, leAt c.body 0 4, n, 9088, [], 0, false, none⟩
    if s.pack.out then
      let r := s.packSource j
      (s.packReply { j with data := r.1, skipped := r.2 } false r.1.length r.1, .later)
    else ({ s with pack := { s.pack with jobs := s.pack.jobs ++ [j] } }, .later)

/-- PACK_ABORT (R404): the job that its tag names fails; a job that has ended, whether its FINAL reply waits or was sent, stands. -/
def effPackAbort : Effect := fun c s =>
  needLen c 4 s <| needZero c 2 2 s <|
  let tag := leAt c.body 0 2
  match s.pack.jobs.find? (fun j => j.sn == c.sn && j.tag == tag && j.use == .host) with
  | some j => okay 0 [] (s.packEnd j St.outputFull 0xFFFFFFFF 0 []).bistNext
  | none =>
    if s.flights.any (fun f => f.of c.sn && f.tag == tag && f.opcode == 0x1001)
      || s.results.any (fun r => r.session == c.sn && r.endedAt.isNone && r.tag == tag && r.opcode == 0x1001) then okay 0 [] s
    else refuse St.noSuchResult 0 s

/-- PACK_JOB_START (R399, R400): the oldest job starts when the engine is free, and its source is copied into its work area, one pod
(log entry 153). -/
def execPackJobStart (t : Nat) (s : State) : Outcome State Fault Refusal :=
  let s := s.at_ t
  if s.pack.jobs.any PackJob.running || s.saveMode then .next s
  else
    match s.pack.jobs with
    | [] => .next s
    | j :: js =>
      let r := s.packSource j
      let (s, pod) := State.allocPod 2 4096 s
      .next { s with pack := { s.pack with jobs := { j with data := r.1, skipped := r.2, running := true, pod := pod } :: js } }

/-- PACK_JOB_COMPLETE (R397, R401-R403): the running job ends; `huskOk` says that no word of it failed the husk code. -/
def execPackJobComplete (t : Nat) (huskOk : Bool) (s : State) : Outcome State Fault Refusal :=
  let s := s.at_ t
  match (s.pack.jobs.find? PackJob.running).filter (fun _ => !s.saveMode) with
  | none => .next s
  | some j =>
    if !huskOk then .next (s.packEnd j St.dataUncorrectable 0 0 []).bistNext
    else if j.op = 1 then .next (s.compress j).bistNext
    else .next (s.decompress j).bistNext

/-- PACK_UNIT_FAULT (R403). -/
def execPackUnitFault (t : Nat) (s : State) : Outcome State Fault Refusal := .next (s.at_ t).packFault.bistNext

def execPackCompress (t : Nat) (h : Hdr) (b : List Byte) (s : State) : Outcome State Fault Refusal :=
  .next (hostRow (.packCompress t h b) 0x1001 t h b effPackSubmit s)

def execPackDecompress (t : Nat) (h : Hdr) (b : List Byte) (s : State) : Outcome State Fault Refusal :=
  .next (hostRow (.packDecompress t h b) 0x1001 t h b effPackSubmit s)

def execPackAbort (t : Nat) (h : Hdr) (b : List Byte) (s : State) : Outcome State Fault Refusal :=
  .next (hostRow (.packAbort t h b) 0x1002 t h b effPackAbort s)

def execEvtSubscribe (t : Nat) (h : Hdr) (b : List Byte) (s : State) : Outcome State Fault Refusal :=
  .next (hostRow (.evtSubscribe t h b) 0x1101 t h b effEvtSubscribe s)

def execEvtLogRead (t : Nat) (h : Hdr) (b : List Byte) (s : State) : Outcome State Fault Refusal :=
  .next (hostRow (.evtLogRead t h b) 0x1102 t h b effEvtLogRead s)

def execEvtClear (t : Nat) (h : Hdr) (b : List Byte) (s : State) : Outcome State Fault Refusal :=
  .next (hostRow (.evtClear t h b) 0x1103 t h b effEvtClear s)

def execEvtLogExport (t : Nat) (h : Hdr) (b : List Byte) (s : State) : Outcome State Fault Refusal :=
  .next (hostRow (.evtLogExport t h b) 0x1104 t h b effEvtLogExport s)

end Sys2Proof.Machine
end

