-- ==== Sys2Proof/Machine/Dram.lean ====
section
/-! DEFINITION. The DRAM island and the husk code (16_dram_and_husk_code.md): discovery, the address map, ports, queues,
refresh, power-down, retraining, the code itself, patrol scrub and the error actions. -/
namespace Sys2Proof.Machine
open Host

/-! ## The husk code (R389, R390) -/

/-- Multiplication by 0x02 in GF(2^8) modulo 0x11D. -/
def xtime (a : Nat) : Nat := if a < 128 then 2 * a else (2 * a) ^^^ 0x11D

/-- The product in GF(2^8) modulo 0x11D, over the low `n` bits of the second factor. -/
def gmulN : Nat → Nat → Nat → Nat
  | 0, _, _ => 0
  | n + 1, a, b => (if b % 2 = 1 then a else 0) ^^^ gmulN n (xtime a) (b / 2)

/-- The product in GF(2^8) modulo 0x11D. -/
def gmul (a b : Nat) : Nat := gmulN 8 a b

/-- 0x02 to a power. -/
def alphaPow : Nat → Nat
  | 0 => 1
  | n + 1 => xtime (alphaPow n)

/-- One step of the check computation (R389). -/
def huskStep (r : Nat × Nat × Nat × Nat) (m : Nat) : Nat × Nat × Nat × Nat :=
  let f := m ^^^ r.1
  (r.2.1 ^^^ gmul f 0x0F, r.2.2.1 ^^^ gmul f 0x36, r.2.2.2 ^^^ gmul f 0x78, gmul f 0x40)

/-- The check bytes of a word (R389). -/
def huskCheck (m : List Nat) : List Nat :=
  let r := m.foldl huskStep (0, 0, 0, 0)
  [r.1 ^^^ 0xFF, r.2.1 ^^^ 0xFF, r.2.2.1 ^^^ 0xFF, r.2.2.2 ^^^ 0xFF]

/-- The value of the codeword's polynomial at a point (R390), by Horner's rule, symbol 0 first. -/
def polyAt (c : List Nat) (x : Nat) : Nat := c.foldl (fun a m => gmul a x ^^^ m) 0

/-- The syndromes S_0 to S_3 of 36 received symbols, the inversion of the check bytes undone (R390). -/
def syndromes (c : List Nat) : List Nat :=
  let c := c.take 32 ++ (c.drop 32).map (fun x => x ^^^ 0xFF)
  (List.range 4).map (fun i => polyAt c (alphaPow i))

/-- The syndromes of errors at symbols, as symbol and value. -/
def errSyndromes (es : List (Nat × Nat)) : List Nat :=
  (List.range 4).map (fun i => es.foldl (fun a e => a ^^^ gmul e.2 (alphaPow (i * (35 - e.1) % 255))) 0)

/-- The inverse in GF(2^8): the 254th power. -/
def ginv (a : Nat) : Nat := (List.range 253).foldl (fun p _ => gmul p a) a

/-- The one symbol in error that explains the syndromes. -/
def oneError (syn : List Nat) : Option (Nat × Nat) :=
  ((List.range 36).map (fun j => (j, nth syn 0 0))).find? (fun e => errSyndromes [e] == syn)

/-- The values that two symbols in error must have: S_0 is their sum and S_1 the sum weighted by their locators. -/
def pairValues (syn : List Nat) (j k : Nat) : List (Nat × Nat) :=
  let xj := alphaPow (35 - j)
  let xk := alphaPow (35 - k)
  let ej := gmul (nth syn 0 1 ^^^ gmul (nth syn 0 0) xk) (ginv (xj ^^^ xk))
  [(j, ej), (k, nth syn 0 0 ^^^ ej)]

/-- The two symbols in error that explain the syndromes. -/
def twoErrors (syn : List Nat) : Option (List (Nat × Nat)) :=
  (List.range 36).findSome? (fun j => (List.range (35 - j)).findSome? (fun d =>
    let es := pairValues syn j (j + 1 + d)
    if errSyndromes es == syn then some es else none))

/-- What the decoder finds of a word: the symbols to correct, or nothing when it is uncorrectable (R390). -/
def huskDecode (expert : Bool) (c : List Nat) : Option (List (Nat × Nat)) :=
  let syn := syndromes c
  if syn == [0, 0, 0, 0] then some []
  else
    match oneError syn with
    | some e => some [e]
    | none => if expert then twoErrors syn else none

/-! ## The burst (R392) -/

/-- The 40 lines of a burst of two words and a tag. -/
def burstLines (data tag : List Byte) : List Nat :=
  let w0 := (data.take 32).map BitVec.toNat
  let w1 := ((data.drop 32).take 32).map BitVec.toNat
  let pair : List Nat → List Nat → List Nat := fun a b => (a.zip b).map (fun e => e.1 + 256 * e.2)
  pair w0 w1 ++ pair (huskCheck w0) (huskCheck w1)
    ++ pair ((tag.take 4).map BitVec.toNat) (((tag.drop 4).take 4).map BitVec.toNat)

/-- The 64 data bytes and the 8 tag bytes that the lines of a burst carry. -/
def burstBytes (lines : List Nat) : List Byte × List Byte :=
  let part := fun (ls : List Nat) => ls.map (fun l => BitVec.ofNat 8 l) ++ ls.map (fun l => BitVec.ofNat 8 (l / 256))
  (part (lines.take 32), part ((lines.drop 36).take 4))

/-- The 36 symbols of word `w` of a burst. -/
def wordSymbols (lines : List Nat) (w : Nat) : List Nat := (lines.take 36).map (fun l => l / 256 ^ w % 256)

/-- The lines of a burst with symbols of a word corrected. -/
def fixLines (w : Nat) (es : List (Nat × Nat)) (lines : List Nat) : List Nat :=
  es.foldl (fun ls e => modNth (fun l => l ^^^ (e.2 * 256 ^ w)) e.1 ls) lines

/-! ## Configuration and the address map (R378-R380, R172, R173) -/

/-- Sub-channels of the configuration, in the order of the address map: DA0, DA1, or DA0, DB0, DA1, DB1. -/
def State.subOrder (s : State) : List Nat := if s.par Par.dramChannels = 2 then [0, 2, 1, 3] else if s.par Par.dramChannels = 1 then [0, 1] else []

/-- DRAM.STATE ready. -/
def State.dramReady (s : State) : Bool := s.par Par.dramState == 1 && !s.saveMode

/-- The place of a burst (R380): sub-channel, bank group, bank, burst of the row, rank and row. -/
structure DramPlace where
  sub : Nat
  group : Nat
  bank : Nat
  burst : Nat
  rank : Nat
  row : Nat
deriving DecidableEq, Repr

/-- The address map (R380). -/
def State.place (s : State) (a : Nat) : DramPlace :=
  let n := max 1 s.subOrder.length
  let banks := if s.par Par.dramDensity = 16 then 2 else 4
  let ranks := max 1 (s.par Par.dramRanks)
  let x := a / n
  ⟨nth s.subOrder 0 (a % n), x % 8, x / 8 % banks, x / 8 / banks % 64, x / 8 / banks / 64 % ranks, x / 8 / banks / 64 / ranks⟩

/-- Bursts of the whole memory. -/
def State.bursts (s : State) : Nat := s.par Par.dramCapacity / 64

/-- The pod of a burst. -/
def podOf (a : Nat) : Nat := a / 16384

/-- The value of SPOOL.DRAM_RESERVABLE and the peak in MB/s (*Peak bandwidth and reservable read rate*). -/
def dramPeaks (rate channels : Nat) : Nat × Nat :=
  let one := if rate = 3 then 51200 else if rate = 2 then 44800 else 38400
  let p := one * channels
  (p, p * 4455 / 10000)

/-- The worst case of a strip with so many raster bytes (R173). -/
def stripWorst (r : Nat) : Nat := r + 5 * ceilDiv r 65535 + 256

/-- The most lines below 4,096 whose strip fits so many pods, at 3,072 raster bytes a line. -/
def linesIn (pods : Nat) : Nat :=
  [2048, 1024, 512, 256, 128, 64, 32, 16, 8, 4, 2, 1].foldl (fun r d =>
    if ceilDiv (stripWorst ((r + d) * 3072)) 1048576 ≤ pods then r + d else r) 0

/-- SPOOL.MAX_SEGMENT_LINES for a limit in pods (R173). -/
def maxLines (pods : Nat) : Nat :=
  let each_ := pods / 16
  let full := each_ / 13
  if 64 ≤ full then 262144 else full * 4096 + (if each_ % 13 = 0 then 0 else linesIn (each_ % 13))

/-- Where the signature of a board record stands. -/
def boardSig (b : List Byte) : Nat := 68 + up4 (leAt b 64 2)

/-- A board record is well formed (*Board record*). -/
def boardForm (b : List Byte) : Bool :=
  let c := leAt b 5 1
  let d := leAt b 6 1
  leAt b 0 4 == 0x44524241 && leAt b 4 1 == 1 && [1, 2].contains (c % 4) && [1, 2].contains (c / 4) && d % 4 != 3 && [1, 2, 3].contains (d / 4)
    && decide (leAt b 7 1 < 2) && decide (2097152 ≤ leAt b 8 4) && decide (leAt b 12 1 < 128) && decide (820 ≤ leAt b 14 2) && zeroAt b 16 48
    && decide (1 ≤ leAt b 64 2) && decide (leAt b 64 2 ≤ 3900) && zeroAt b 66 2 && decide (boardSig b + 96 ≤ b.length)

/-- The signature of a board record verifies to an unrevoked Integrator slot (R133, R437); it is not checked while slot 0 is empty. -/
def State.boardSigned (b : List Byte) (c : Chain) (s : State) : Bool :=
  (s.slot 0).kind == 0 || (c.valid && c.notBefore ≤ s.utcEstimate + 86400 && s.utcEstimate ≤ c.notAfter
    && s.shell.slots.any (fun t => t.kind == 1 && !t.revoked && t.digest == c.root)
    && ecdsaVerify c.pub (b.take (boardSig b)) ((b.drop (boardSig b)).take 96))

/-- The fields of a board record. -/
def boardOf (b : List Byte) : Board :=
  ⟨leAt b 5 1 % 4, leAt b 5 1 / 4 % 4, leAt b 6 1 % 4, leAt b 6 1 / 4 % 4, bitAt (leAt b 7 1) 0, leAt b 8 4, leAt b 12 1 % 128, leAt b 13 1, leAt b 14 2⟩

/-- DRAM_DISCOVERY (R379, R437): `boards` gives the copies A and B of the board record with what the check of the chain of each finds;
`osc` and `temp` the readings at the end of training; `fail` the sub-channel and reason of a failure. -/
def execDramDiscovery (t : Nat) (boards : List (List Byte × Chain)) (osc temp : List Nat) (fail : Option (Nat × Nat)) (s : State) :
    Outcome State Fault Refusal :=
  let s := s.at_ t
  if s.par Par.dramState ≠ 0 ∨ s.power.down ∨ s.par Par.powerPhase = 0 then .next s
  else
    let failed := fun (sub reason : Nat) (s : State) =>
      (((s.setPar (Par.at_ Par.dramUState sub) 5).setPar Par.dramState 3).raise Ev.dramDiscoveryFailed sub [BitVec.ofNat 8 reason])
    match (boards.take 2).find? (fun x => boardForm x.1 && s.boardSigned x.1 x.2) with
    | none => .next (failed 0 1 s)
    | some x =>
      let board := boardOf x.1
      let s := { s with power := { s.power with board := some board } }
      let (channels, ranks, density, rate) := (board.channels, board.ranks, board.density, board.rate)
      match fail with
      | some (sub, reason) => .next (failed sub reason s)
      | none =>
        let gbit := 16 + 8 * density
        let cap := channels * 2 * ranks * 4 * gbit * 1073741824 / 8
        let total := cap / 1048576
        let spool := total - s.par Par.spoolPodsReserved
        let peak := dramPeaks rate channels
        let s := ((((s.setPar Par.dramRate rate).setPar Par.dramChannels channels).setPar Par.dramRanks ranks).setPar Par.dramDensity gbit).setPar
          Par.dramCapacity cap
        let s := (((s.setPar Par.dramPeak peak.1).setPar Par.spoolDramReservable peak.2).setPar Par.dramState 1).setPar Par.spoolPodsTotal total
        let s := (s.setPar Par.spoolMaxSegmentBytes (spool / 2 * 1048576)).setPar Par.spoolMaxSegmentLines (maxLines (spool / 2))
        let s := s.each s.subOrder (fun u => State.setPar (Par.at_ Par.dramUState u) 2)
        let subs := s.dram.subs.zipIdx.map (fun ((x, u) : SubCh × Nat) =>
          if s.subOrder.contains u then
            { x with
              ranks := List.replicate ranks ⟨false, false, s.now, s.now⟩
              osc := nth osc 0 u
              oscNow := nth osc 0 u
              oscAt := s.now
              temp := nth temp 0 u
              tempNow := nth temp 0 u }
          else x)
        .next { s with dram := { s.dram with subs := subs, passAt := s.now }, spool := { s.spool with
          free := [(0, spool)], bufs := [(spool, s.par Par.camBufferPods)]
          works := [(spool + s.par Par.camBufferPods, s.par Par.spoolPodsReserved - s.par Par.camBufferPods)] } }

/-! ## Queues (R381-R388) -/

def noSub : SubCh := ⟨[], [], [], false, [], 0, 0, 0, 0, 0, none, false, 0, none, [], none⟩

/-- A sub-channel. -/
def State.sub (s : State) (u : Nat) : SubCh := nth s.dram.subs noSub u

/-- Changes one sub-channel. -/
def State.modSub (u : Nat) (f : SubCh → SubCh) (s : State) : State := { s with dram := { s.dram with subs := modNth f u s.dram.subs } }

/-- Changes one rank. -/
def State.modRank (u r : Nat) (f : Rank → Rank) (s : State) : State := s.modSub u (fun x => { x with ranks := modNth f r x.ranks })

/-- The maximum of a port in ns (*Port latency targets*). -/
def portMax (port : Nat) : Nat := nth [2000, 20000, 20000, 200000, 1000000, 10000000] 10000000 port

/-- Whether a sub-channel is in a retraining window. -/
def State.inWindow (s : State) (u : Nat) : Bool := (s.sub u).windowAt.isSome && decide (s.now < (s.sub u).windowEnd)

/-- DRAM[s].STATE: retraining and power-down as they stand, else the stored state. -/
def State.subState (s : State) (u : Nat) : Nat :=
  let v := s.par (Par.at_ Par.dramUState u)
  if v ≠ 2 then v
  else if s.inWindow u then 3
  else if !(s.sub u).ranks.isEmpty && (s.sub u).ranks.all Rank.down then 4 else 2

/-- A request for a rank wakes it (R383). -/
def State.touchRank (a : Nat) (s : State) : State :=
  let p := s.place a
  s.modRank p.sub p.rank (fun (r : Rank) => { r with down := false, last := s.now })

/-- A burst enters a write queue (R386, R387): it replaces an entry of its burst, and a full queue stalls the writer, as does an earlier
write of the burst that still stalls. -/
def SubCh.push (w : DramWrite) (x : SubCh) : SubCh :=
  if x.writes.any (fun e => e.addr == w.addr) && x.strait.all (fun e => e.addr != w.addr) then { x with writes := x.writes.map (fun (e : DramWrite) => if e.addr == w.addr then { e with lines := w.lines } else e) }
  else if x.writes.length < 64 ∧ x.strait.isEmpty then { x with writes := x.writes ++ [w] }
  else { x with strait := x.strait ++ [w] }

/-- Stalled writers go on while the queue has room; their wait starts as they enter the island. -/
def SubCh.takeStrait (now : Nat) : Nat → SubCh → SubCh
  | 0, x => x
  | fuel + 1, x =>
    match x.strait with
    | [] => x
    | w :: r =>
      if x.writes.length < 64 then
        SubCh.takeStrait now fuel ({ x with strait := [] }.push { w with since := now } |> fun (y : SubCh) => { y with strait := r })
      else x

/-- The nonce of a burst at rest (R145): its pod, the pod's epoch and its place in the pod. -/
def State.burstNonce (s : State) (a : Nat) : List Byte := leBytes 4 (podOf a) ++ leBytes 4 (s.podEpoch (podOf a)) ++ leBytes 4 (a % 16384)

/-- The lines of a burst at rest (R145, R389, R392): its 64 bytes under AES-256-GCM with the spool key and a tag of 8 bytes, no
additional data, and the check fields of the ciphertext. -/
def State.sealBurst (s : State) (a : Nat) (data : List Byte) : List Nat :=
  let c := gcmSeal 8 (beBytes 32 s.shell.spoolKey) (s.burstNonce a) [] data
  burstLines c.1 c.2

/-- The 64 bytes that the lines of a burst hold, where their tag holds (R145, R148). -/
def State.openBurst (s : State) (a : Nat) (lines : List Nat) : Option (List Byte) :=
  let c := burstBytes lines
  gcmOpen (beBytes 32 s.shell.spoolKey) (s.burstNonce a) [] c.1 c.2

/-- DRAM_WRITE_REQUEST (R145, R386, R387, R389, R392): the Shell encrypts the 64 bytes for rest, and the burst with its check fields
and tag enters the queue of its sub-channel. -/
def execDramWriteRequest (t port burst : Nat) (data : List Byte) (_tag : Computed) (s : State) : Outcome State Fault Refusal :=
  let s := s.at_ t
  if !s.dramReady || s.bursts ≤ burst || 5 < port || data.length != 64 then .next s
  else
    let u := (s.place burst).sub
    let s := (s.modSub u (SubCh.push (⟨burst, port, s.now, false, s.sealBurst burst data⟩ : DramWrite))).touchRank burst
    .next { s with dram := { s.dram with backs := s.dram.backs.map (fun (b : BackWrite) => if b.addr == burst then { b with written := true } else b) } }

/-- Issues the oldest write of a queue (R381): its wait ends, and a stalled writer takes the place. -/
def State.issueWrite (u : Nat) (s : State) : State :=
  match (s.sub u).writes with
  | [] => s
  | w :: r =>
    let s := s.emit (.dram u 2 (w.addr :: w.lines))
    let s := s.modSub u (fun x => { x with writes := r }.takeStrait s.now (x.strait.length + 1))
    s.when (w.port != 0 && decide (w.since + portMax w.port < s.now)) (State.bump (Par.at_ Par.dramULate u) 1)

/-- A request of ports 1 to 5 is urgent once its wait reaches 75 % of its port's maximum (R385). -/
def urgentAt (now port since : Nat) : Bool := port != 0 && decide (since + portMax port * 3 / 4 ≤ now)

/-- A write is urgent, noted so or by its wait. -/
def DramWrite.isUrgent (now : Nat) (w : DramWrite) : Bool := w.urgent || urgentAt now w.port w.since

/-- A read is urgent, noted so or by its wait. -/
def DramRead.isUrgent (now : Nat) (r : DramRead) : Bool := r.urgent || urgentAt now r.port r.since

/-- A print read that has waited 1.5 µs (R386). -/
def SubCh.pressing (now : Nat) (x : SubCh) : Bool := x.reads.any (fun r => r.port == 0 && decide (r.since + 1500 ≤ now))

/-- Whether a drain goes on (R386). -/
def SubCh.wantsDrain (now : Nat) (x : SubCh) : Bool := decide (16 < x.writes.length) || x.writes.any (DramWrite.isUrgent now)

/-- Issues up to `n` writes of a drain, pausing for a print read. -/
def State.drain (u : Nat) : Nat → State → State
  | 0, s => s
  | n + 1, s => if (s.sub u).wantsDrain s.now && !(s.sub u).pressing s.now then State.drain u n (s.issueWrite u) else s

/-- WRITE_DRAIN (R384, R386): a drain starts or goes on, and `n` writes issue. -/
def execWriteDrain (t sub n : Nat) (s : State) : Outcome State Fault Refusal :=
  let s := s.at_ t
  let x := s.sub sub
  let starts := !x.draining && (decide (48 ≤ x.writes.length) || (x.writes.head?).elim false (DramWrite.isUrgent s.now))
  if s.inWindow sub || !(x.draining || starts) then .next s
  else
    let s := s.when starts (fun s => (s.modSub sub (fun x => { x with draining := true })).bump (Par.at_ Par.dramUDrains sub) 1)
    let s := s.drain sub n
    .next (s.modSub sub (fun x => { x with draining := x.wantsDrain s.now }))

/-- REQUEST_URGENT (R385): a request of ports 1 to 5 whose wait reaches 75 % of its maximum. -/
def execRequestUrgent (t sub port burst : Nat) (s : State) : Outcome State Fault Refusal :=
  let s := s.at_ t
  let due := fun (p a since : Nat) => p == port && a == burst && urgentAt s.now p since
  .next (s.modSub sub (fun x => { x with
    reads := x.reads.map (fun (r : DramRead) => if due r.port r.addr r.since then { r with urgent := true } else r)
    writes := x.writes.map (fun (w : DramWrite) => if due w.port w.addr w.since then { w with urgent := true } else w) }))

/-- DRAM_PRINT_LATE (R388): a print read that waits above 2 µs is counted, and EV083 is raised at most once per second. -/
def execDramPrintLate (t sub : Nat) (s : State) : Outcome State Fault Refusal :=
  let s := s.at_ t
  let late := fun (r : DramRead) => r.port == 0 && !r.late && decide (r.since + 2000 < s.now)
  match (s.sub sub).reads.find? late with
  | none => .next s
  | some q =>
    let s := s.modSub sub (fun x => { x with reads := x.reads.map (fun (r : DramRead) => if r == q then { r with late := true } else r) })
    .next ((s.bump (Par.at_ Par.dramULate sub) 1).raiseLimited Ev.dramPrintLate sub sub [])

/-! ## Error records and actions (R393, R396) -/

/-- Whether a pod is allocated: in no free list and not retired. -/
def State.podUsed (s : State) (p : Nat) : Bool :=
  !s.spool.retired.contains p && !(s.spool.runs (s.podArea p)).any (fun r => r.1 ≤ p && decide (p < r.1 + r.2))

/-- A pod is retired when next freed. -/
def State.markPod (p : Nat) (s : State) : State :=
  if s.spool.retired.contains p || s.dram.marked.contains p then s else { s with dram := { s.dram with marked := p :: s.dram.marked } }

/-- Writes an error record; further detections of a burst and kind within 1 s merge (*DRAM error record*). -/
def State.dramRecord (e : DramErr) (s : State) : State :=
  let same := fun (x : DramErr) => x.addr == e.addr && x.kind == e.kind && decide (e.t < x.t + 1000000000)
  let errs := if s.dram.errors.any same then
      s.dram.errors.map (fun (x : DramErr) => if same x then { x with again := min (2 ^ 32 - 1) (x.again + 1) } else x)
    else (e :: s.dram.errors).take 256
  { s with dram := { s.dram with errors := errs } }

/-- A corrected burst counts (R396): for its pod in the present pass, and for the alarm of its sub-channel. -/
def State.countCorrected (a two : Nat) (s : State) : State :=
  let u := (s.place a).sub
  let p := podOf a
  let s := s.bump (Par.at_ (if two = 1 then Par.dramUCorrected2 else Par.dramUCorrected1) u) 1
  let n := (lookup p s.dram.podErrs).getD 0 + 1
  let s := { s with dram := { s.dram with podErrs := assoc p n s.dram.podErrs } }
  let s := s.when (decide (s.par Par.dramCePodLimit ≤ n)) (State.markPod p)
  let times := s.now :: (s.sub u).corrected.filter (fun q => decide (s.now < q + 3600000000000))
  let s := s.modSub u (fun x => { x with corrected := times })
  let due := match (s.sub u).alarmAt with
    | some l => decide (l + 3600000000000 ≤ s.now)
    | none => true
  if decide (s.par Par.dramCeAlarm ≤ times.length) && due then
    (s.modSub u (fun x => { x with alarmAt := some s.now })).raise Ev.dramCorrectedRate u []
  else s

/-- What the decoder finds of a burst (R390): the corrections of each word, and the lowest word beyond correction. -/
structure BurstFound where
  e0 : List (Nat × Nat)
  e1 : List (Nat × Nat)
  bad : Option Nat
deriving DecidableEq, Repr

/-- Decodes a burst under DRAM.HUSK_MODE. -/
def decodeBurst (expert : Bool) (lines : List Nat) : BurstFound :=
  let d0 := huskDecode expert (wordSymbols lines 0)
  let d1 := huskDecode expert (wordSymbols lines 1)
  ⟨d0.getD [], d1.getD [], if d0.isNone then some 0 else if d1.isNone then some 1 else none⟩

/-- The burst with its corrections made. -/
def BurstFound.fixed (f : BurstFound) (lines : List Nat) : List Nat := fixLines 1 f.e1 (fixLines 0 f.e0 lines)

/-- What a burst serves holds its pod: a strip of the segment or of the one that it repeats, the frame, or a work area. -/
def State.useFits (s : State) (p : Nat) : DramUse → Bool
  | .nothing => true
  | .spool handle head _ _ =>
    let holds := fun (h : Nat) => (s.seg h).elim false (fun g => g.strips.any (fun x => x.head == head && x.pods.contains p))
    holds handle || ((s.seg handle).bind Seg.source).elim false holds
  | .frame port num => (s.image port num).elim false (fun i => i.pods.contains p)
  | .copy _ | .job _ => s.podArea p == 2

/-- The action on a burst that is uncorrectable or whose tag failed, by what reads it (R396). -/
def State.burstLost (a kind : Nat) (use : DramUse) (s : State) : State :=
  let p := podOf a
  match (if s.useFits p use then use else .nothing) with
  | .nothing => s
  | .spool handle head first count =>
    let s := s.modSeg handle (fun g => { g with bad := g.bad ++ [(head, first, count)] })
    (s.raise Ev.spoolUncorrectable (s.place a).sub (leBytes 4 p ++ leBytes 1 kind)).markPod p
  | .frame port num =>
    let s := (List.range 8).foldl (fun (s : State) e => s.modEngine e (fun x => { x with queue := x.queue.filter (fun q => q != (port, num)) })) s
    let cover := s.insp.cover.map (fun (c : Cover) => if c.port == port && c.num == num then { c with defects := 0, nozzles := 0, align := 0 } else c)
    let s := { s with insp := { s.insp with cover := cover } }.checkCover
    let done := (s.image port num).elim false (fun i => i.done && i.stage < 3)
    let s := s.when done (State.bump Par.inspFramesAnalysed 1)
    ((s.markPod p).modImage port num (fun i => { i with stage := 3 })).pruneImages
  | .copy y => s.loseCopy [y]
  | .job cid =>
    match s.pack.jobs.find? (fun j => j.cid == cid) with
    | some j => (s.packEnd j St.dataUncorrectable 0 0 []).bistNext
    | none => s.finish cid St.dataUncorrectable 0 (.bytes [])

/-- A burst is delivered to a port: the plaintext (R391), but for the scrub, which reads no content. -/
def State.deliverBurst (a port : Nat) (data : List Byte) (s : State) : State :=
  s.emit (.dram (s.place a).sub 1 (a :: port :: data.map BitVec.toNat))

/-- A burst returns from the devices to a port (R145, R148, R390, R391, R393, R395, R396): decoded in the mode of its start, checked
against its tag and decrypted but by the scrub, recorded and counted; a corrected burst of an allocated pod waits to be written back. -/
def State.burstBack (a port : Nat) (expert : Bool) (b : Burst) (s : State) : State :=
  let f := decodeBurst expert b.lines
  let u := (s.place a).sub
  let two := f.e0.length == 2 || f.e1.length == 2
  let fixed := f.bad.isNone && !(f.e0.isEmpty && f.e1.isEmpty)
  let w := if two then (if f.e0.length == 2 then 0 else 1) else if f.e0.isEmpty then 1 else 0
  let es := if w = 0 then f.e0 else f.e1
  let sym := fun (i : Nat) => (es[i]?).elim 255 Prod.fst
  let s := s.when fixed (State.countCorrected a (if two then 1 else 0))
  match f.bad with
  | some w =>
    let s := (s.bump (Par.at_ Par.dramUUncorrectable u) 1).dramRecord ⟨s.ring, a, w, 3, 255, 255, port, 0⟩
    if port = 5 then (if s.podUsed (podOf a) then s.markPod (podOf a) else if s.spool.retired.contains (podOf a) then s else s.retirePod (podOf a))
    else s.burstLost a 3 b.use
  | none =>
    let lines := f.fixed b.lines
    let clear := s.openBurst a lines
    if port ≠ 5 && clear.isNone then
      ((s.bump (Par.at_ Par.dramUTagFail u) 1).dramRecord ⟨s.ring, a, 0, 4, 255, 255, port, 0⟩).burstLost a 4 b.use
    else
      let s := if port = 5 then s else s.deliverBurst a port (clear.getD [])
      if !fixed then s
      else
        let s := s.dramRecord ⟨s.ring, a, w, if two then 2 else 1, sym 0, sym 1, port, 0⟩
        if !s.podUsed (podOf a) then s
        else { s with dram := { s.dram with
          backs := s.dram.backs.filter (fun (x : BackWrite) => x.addr != a) ++ [(⟨a, lines, s.podEpoch (podOf a),
            (s.sub u).writes.any (fun w => w.addr == a) || (s.sub u).strait.any (fun w => w.addr == a)⟩ : BackWrite)] } }

/-- The read that a sub-channel serves next (R385), and in a drain only a print read that has waited 1.5 µs (R386). -/
def SubCh.nextRead (now : Nat) (x : SubCh) : Option DramRead :=
  if x.draining then x.reads.find? (fun r => r.port == 0 && decide (r.since + 1500 ≤ now))
  else
    match x.reads.find? (fun r => r.port == 0) with
    | some r => some r
    | none =>
      match x.reads.find? (fun r => r.isUrgent now && decide (3 ≤ r.port)) with
      | some r => some r
      | none => (sortBy DramRead.port x.reads).head?

/-- Removes the first element equal to a value. -/
def dropOne {α : Type} [DecidableEq α] (a : α) : List α → List α
  | [] => []
  | x :: xs => if x = a then xs else x :: dropOne a xs

/-- The patrol scrub goes on to the next burst (R394); a completed pass counts, and the pods' counts of corrected bursts start again. -/
def State.scrubOn (s : State) : State :=
  let n := s.dram.scrub + 1
  if n < s.bursts then { s with dram := { s.dram with scrub := n } }.setPar Par.dramScrubProgress (n * 1000 / s.bursts)
  else ({ s with dram := { s.dram with scrub := 0, passAt := s.now, tPass := s.ring, podErrs := [] } }.setPar Par.dramScrubProgress 0).bump Par.dramScrubPasses 1

/-- Serves a read: from the write queue when its burst is queued there (R387), else with what the devices return. One that exceeded its port's
target is counted, a print read once (R385, R388). -/
def State.serveRead (u : Nat) (r : DramRead) (b : Burst) (s : State) : State :=
  let s := s.modSub u (fun x => { x with reads := dropOne r x.reads })
  let late := decide (r.since + portMax r.port < s.now) && !r.late
  let s := s.when late (State.bump (Par.at_ Par.dramULate u) 1)
  let s := s.when (late && r.port == 0) (State.raiseLimited Ev.dramPrintLate u u [])
  let s := match (s.sub u).writes.find? (fun w => w.addr == r.addr) with
    | some w => (s.when (r.port != 5) (State.deliverBurst r.addr r.port ((s.openBurst r.addr w.lines).getD []))).bump (Par.at_ Par.dramUForwarded u) 1
    | none => s.burstBack r.addr r.port r.expert b
  s.when (r.port == 5) State.scrubOn

/-- DRAM_READ_REQUEST (R381, R383, R385-R387, R390, R396): a port's read enters the queue of its sub-channel, and where the
devices return a burst, the read chosen next is served with it. Port 5 has its own row, SCRUB_READ. -/
def execDramReadRequest (t sub : Nat) (new : Option (Nat × Nat)) (served : Option Burst) (s : State) : Outcome State Fault Refusal :=
  let s := s.at_ t
  if !s.dramReady then .next s
  else
    let s := match new with
      | some (port, burst) =>
        if 5 ≤ port || s.bursts ≤ burst || (s.place burst).sub != sub then s
        else (s.modSub sub (fun x => { x with reads := x.reads ++ [(⟨burst, port, s.now, false, false, s.par Par.dramHuskMode == 1⟩ : DramRead)] })).touchRank burst
      | none => s
    match served, (s.sub sub).nextRead s.now with
    | some b, some r => if s.inWindow sub then .next s else .next (s.serveRead sub r b)
    | _, _ => .next s

/-! ## Refresh, power-down and retraining (R382-R384) -/

/-- REFRESH_DUE (R382, R383): an all-bank refresh to a rank at tREFI or half of it; `temp` says what mode register 4 reports:
0 at or below 85 °C, 1 above 85 °C, 2 above 95 °C. -/
def execRefreshDue (t sub rank temp : Nat) (s : State) : Outcome State Fault Refusal :=
  let s := s.at_ t
  match (s.sub sub).ranks[rank]? with
  | none => .next s
  | some r =>
    if s.now < r.refreshAt + (if r.hot then 1950 else 3900) ∨ s.par Par.testPinDriven = 1 then .next s
    else
      let s := s.modRank sub rank (fun (r : Rank) => { r with hot := decide (1 ≤ temp), refreshAt := s.now, down := false })
      let s := s.emit (.dram sub 3 [rank])
      let key := 2 * sub + rank
      if 2 ≤ temp then .next (if s.cond Ev.dramTemperature key then s else s.raiseKeyed Ev.dramTemperature sub key [BitVec.ofNat 8 rank])
      else .next (s.endCond Ev.dramTemperature key)

/-- POWER_DOWN_ENTRY (R383). -/
def execPowerDownEntry (t sub rank : Nat) (s : State) : Outcome State Fault Refusal :=
  let s := s.at_ t
  let timer := s.par (Par.at_ Par.dramUPdTimer sub)
  let x := s.sub sub
  let busy := x.reads.any (fun r => (s.place r.addr).rank == rank) || (x.writes ++ x.strait).any (fun w => (s.place w.addr).rank == rank)
  match x.ranks[rank]? with
  | none => .next s
  | some r =>
    if timer = 0 ∨ r.down ∨ busy ∨ s.inWindow sub ∨ s.now < r.last + timer then .next s
    else .next ((s.modRank sub rank (fun (r : Rank) => { r with down := true })).emit (.dram sub 4 [rank]))

/-- DQS_OSCILLATOR_READ (R384): every 1 ms while the sub-channel is ready, the count and the temperature step. -/
def execDqsOscillatorRead (t sub count temp : Nat) (s : State) : Outcome State Fault Refusal :=
  let s := s.at_ t
  if !s.dramReady || !s.subOrder.contains sub || decide (s.now < (s.sub sub).oscAt + 1000000) then .next s
  else
    let x := s.sub sub
    let drift := if count < x.osc then x.osc - count else count - x.osc
    let step := if temp < x.temp then x.temp - temp else temp - x.temp
    let due := x.dueAt.isSome || decide (x.osc < 50 * drift) || decide (2 ≤ step)
    let high := due && !x.highSeen && decide (x.osc < 25 * drift)
    let s := s.modSub sub (fun x => { x with
      oscNow := count, oscAt := s.now, tempNow := temp, dueAt := if due then some (x.dueAt.getD s.now) else none, highSeen := x.highSeen || high })
    .next (s.when high (State.bump (Par.at_ Par.dramUDriftHigh sub) 1))

/-- RETRAIN_WINDOW (R384): a window of at most 1.0 µs, when one is due, no other runs, 16 ms have passed since the
sub-channel's latest, and no drain of its write queue runs. -/
def execRetrainWindow (t sub len : Nat) (s : State) : Outcome State Fault Refusal :=
  let s := s.at_ t
  let x := s.sub sub
  let soon := match x.windowAt with
    | some w => decide (s.now < w + 16000000)
    | none => false
  if x.dueAt.isNone || x.draining || soon || (List.range 4).any s.inWindow || len = 0 || 1000 < len then .next s
  else
    let s := s.modSub sub (fun x => { x with
      osc := x.oscNow, temp := x.tempNow, dueAt := none, highSeen := false, windowAt := some s.now, windowEnd := s.now + len })
    .next ((s.emit (.dram sub 5 [len])).bump (Par.at_ Par.dramURetrains sub) 1)

/-! ## Patrol scrub (R394, R395) -/

/-- The next scrub read is due (R394): by the pace that ends a pass within DRAM.SCRUB_PERIOD, or because no other port has a request on the
sub-channel. -/
def State.scrubDue (u : Nat) (s : State) : Bool :=
  decide (s.dram.passAt + 1000000000 * s.par Par.dramScrubPeriod * s.dram.scrub / s.bursts ≤ s.now)
    || ((s.sub u).reads.isEmpty && (s.sub u).writes.isEmpty && (s.sub u).strait.isEmpty)

/-- SCRUB_READ (R385, R387, R390, R394-R396): the scrub's read of the next burst in ascending address enters the queue when it is due, and is
served when its turn has come, with what the devices return. -/
def execScrubRead (t : Nat) (data : Option Burst) (s : State) : Outcome State Fault Refusal :=
  let s := s.at_ t
  if !s.dramReady then .next s
  else
    let a := s.dram.scrub
    let u := (s.place a).sub
    let s := if (s.sub u).reads.any (fun r => r.port == 5) || !s.scrubDue u then s
      else (s.modSub u (fun x => { x with reads := x.reads ++ [(⟨a, 5, s.now, false, false, s.par Par.dramHuskMode == 1⟩ : DramRead)] })).touchRank a
    match data, (s.sub u).nextRead s.now with
    | some b, some r => if r.port ≠ 5 ∨ s.inWindow u then .next s else .next (s.serveRead u r b)
    | _, _ => .next s

/-- SCRUB_WRITE_BACK (R146, R395): the corrected burst is written, unless a write to it entered the queue or its pod's epoch
changed. -/
def execScrubWriteBack (t burst : Nat) (s : State) : Outcome State Fault Refusal :=
  let s := s.at_ t
  match s.dram.backs.find? (fun b => b.addr == burst) with
  | none => .next s
  | some b =>
    let u := (s.place burst).sub
    if s.inWindow u then .next s
    else
    let s := { s with dram := { s.dram with backs := s.dram.backs.filter (fun x => x.addr != burst) } }
    if b.written || s.podEpoch (podOf burst) != b.epoch then .next (s.bump (Par.at_ Par.dramUScrubDropped u) 1)
    else .next ((s.emit (.dram u 2 (burst :: b.lines))).touchRank burst)

/-! ## Status (R110, R396) -/

/-- DRAM_STATUS. -/
def effDramStatus : Effect := fun c s =>
  needLen c 0 s <|
  okay 0 (leBytes 1 (s.par Par.dramRate + 4 * s.par Par.dramChannels + 16 * s.par Par.dramRanks)
    ++ leBytes 1 (s.par Par.dramDensity + 64 * s.par Par.dramHuskMode) ++ leBytes 1 (s.par Par.dramState) ++ [0]
    ++ (List.range 4).flatMap (fun u => leBytes 1 (s.subState u)) ++ leBytes 8 (s.par Par.dramCapacity)
    ++ leBytes 2 (s.par Par.dramScrubProgress) ++ [0, 0] ++ leBytes 4 (s.par Par.dramScrubPasses) ++ leBytes 8 s.dram.tPass) s

/-- An error record as it is read. -/
def State.dramErrBytes (s : State) (e : DramErr) : List Byte :=
  let p := s.place e.addr
  leBytes 8 e.t ++ leBytes 1 (p.sub + 4 * p.rank) ++ leBytes 1 (p.group + 8 * p.bank) ++ leBytes 4 p.row ++ leBytes 1 (p.burst + 64 * e.word)
    ++ leBytes 1 e.kind ++ leBytes 1 e.symA ++ leBytes 1 e.symB ++ leBytes 1 e.port ++ [0] ++ leBytes 4 (podOf e.addr) ++ leBytes 4 e.again
    ++ leBytes 4 0

/-- DRAM_ERROR_READ (R396). -/
def effDramErrorRead : Effect := fun c s =>
  needLen c 4 s <|
  let n := leAt c.body 2 2
  if n = 0 ∨ 64 < n then refuse St.badCount 0 s
  else
    let es := (s.dram.errors.drop (leAt c.body 0 2)).take n
    okay 0 (leBytes 2 es.length ++ [0, 0] ++ es.flatMap s.dramErrBytes) s

def execDramStatus (t : Nat) (h : Hdr) (b : List Byte) (s : State) : Outcome State Fault Refusal :=
  .next (hostRow (.dramStatus t h b) 0x0601 t h b effDramStatus s)

def execDramErrorRead (t : Nat) (h : Hdr) (b : List Byte) (s : State) : Outcome State Fault Refusal :=
  .next (hostRow (.dramErrorRead t h b) 0x0602 t h b effDramErrorRead s)

end Sys2Proof.Machine
end

