-- ==== Sys2Proof/Machine/Test.lean ====
section
/-! DEFINITION. Boundary scan and test access (23_boundary_scan_and_test.md): the TAP, TEST_EN, built-in self-tests and diagnostic
capture. -/
namespace Sys2Proof.Machine
open Host

/-! ## TEST_EN and pin-driving instructions (R489-R491) -/

/-- Pin-driving instructions (*TAP instructions*). -/
def pinDriving (code : Nat) : Bool := [0x00, 0x04, 0x05, 0x06, 0x07].contains code

/-- The restart report's entry of a segment that a pin-driving instruction ends (R490, R451). -/
def State.drivenSeg (s : State) (g : Seg) : SavedSeg := if g.state = Sg.printing then s.saved g else reportOf (some []) g.handle

/-- A segment finishes as BROKEN over its remaining lines (R490): kind 0 and cause 0x0C. -/
def State.breakDriven (g : Seg) (s : State) : State :=
  let left := g.headList.filter (fun h => g.passed h < g.lines)
  let rs := left.map (fun h => (⟨h, g.passed h, g.lines - g.passed h, 0xC, 0, 0⟩ : Range))
  let first := (left.map (fun h => g.passed h)).foldl min g.lines
  let s := s.modSeg g.handle (fun g => { g with ranges := g.ranges ++ rs })
  let s := s.when (!left.isEmpty) (State.breakPromise g.handle 0xC ((left.map (fun h => 2 ^ h)).sum) first 0)
  let s := match s.seg g.handle with
    | some g => s.finishSeg g
    | none => s
  match s.seg g.handle with
  | some g => s.endRelease g
  | none => s

/-- A pin-driving instruction acts (R490): sessions end with cause 0x05, accepted segments break, refresh stops and the spool is lost. -/
def State.drivePins (s : State) : State :=
  if s.par Par.testPinDriven = 1 then s
  else
    let s := s.setPar Par.testPinDriven 1
    let s := s.each (s.sessions.map Session.num) (fun n s => s.endSession n 5)
    let live := s.acceptedSet
    let s := { s with power := { s.power with driven := s.power.driven ++ live.map s.drivenSeg } }
    let s := s.each live State.breakDriven
    s.each (s.spool.segs.filter (fun g => g.state != Sg.retained)) (fun g s => s.refuseSeg g St.notReady (s.par Par.powerPhase) (.bytes []))

/-- DEV.STATE of a running device. -/
def State.devStateOf (s : State) : Nat :=
  if s.par Par.testTestEn = 1 then 4 else if s.shell.recoveryFw then 3
  else if s.par Par.powerPhase = 5 then (if s.par Par.shellCommissionState = 1 then 2 else 1) else 0

/-- The balls follow the boundary register under a pin-driving instruction. -/
def State.driveBalls (s : State) : State :=
  s.emit (.pin (nth ["EXTEST", "", "", "", "CLAMP", "HIGHZ", "EXTEST_PULSE", "EXTEST_TRAIN"] "" (s.par Par.testInstruction)) s.test.boundary)

/-- TEST_EN_RISE (R489, R490): EV118, HPEN low and cause 0x0C. -/
def execTestEnRise (t : Nat) (s : State) : Outcome State Fault Refusal :=
  let s := s.at_ t
  if s.par Par.testTestEn = 1 then .next s
  else
    let s := s.setPar Par.testTestEn 1
    let s := s.setPar Par.devState s.devStateOf
    let s := s.each (List.range 16) State.hpenUpdate
    let drive := pinDriving (s.par Par.testInstruction)
    .next ((s.raise Ev.testEnActive 0 []).when drive (fun s => s.drivePins.driveBalls))

/-- TEST_EN_FALL (R491): EV118 clears; heads power again unless a pin-driving instruction was current since the rise. -/
def execTestEnFall (t : Nat) (s : State) : Outcome State Fault Refusal :=
  let s := s.at_ t
  if s.par Par.testTestEn = 0 then .next s
  else
    let s := s.setPar Par.testTestEn 0
    let s := s.setPar Par.devState s.devStateOf
    .next ((s.each (List.range 16) State.hpenUpdate).endCond Ev.testEnActive 0)

/-! ## The TAP (R487, R488) -/

/-- What the instruction register captures (R487). -/
def State.irCapture (s : State) : Nat := 1 + bit (s.par Par.testTestEn == 1) 2 + bit (s.heads.all (fun (x : Head) => !x.hpen)) 3

/-- An instruction becomes current. -/
def State.loadInstruction (code : Nat) (s : State) : State :=
  let c := s.irCapture
  let s := ({ s with test := { s.test with irCapture := c } }.emit (.scan 0 c)).setPar Par.testInstruction code
  s.when (pinDriving code && s.par Par.testTestEn == 1) State.drivePins

/-- The boundary register captures and shifts out; it is loaded where the instruction loads it (994 cells). -/
def State.scanBoundary (captured : Nat) (load : Option Nat) (s : State) : State :=
  let c := captured % 2 ^ 994
  ({ s with test := { s.test with captured := c, boundary := (load.elim s.test.boundary (fun v => v % 2 ^ 994)) } }).emit (.scan 3 c)

/-- A current instruction drives the balls from the boundary register only while TEST_EN is high (R489); HPEN0-HPEN15 stay low. -/
def State.drive (s : State) : State := s.when (s.par Par.testTestEn == 1) State.driveBalls

/-- TAP_RESET (R487): Test-Logic-Reset loads IDCODE. -/
def execTapReset (t : Nat) (s : State) : Outcome State Fault Refusal := .next ((s.at_ t).setPar Par.testInstruction 3)

/-- A scan of the boundary register under a pin-driving instruction: while TEST_EN is low it behaves as under SAMPLE (R489). -/
def State.scanDriving (captured load : Nat) (s : State) : State :=
  s.scanBoundary captured (if s.par Par.testTestEn = 1 then some load else none)

/-- EXTEST (R487, R489): while TEST_EN is low it behaves as SAMPLE. -/
def execExtest (t captured load : Nat) (s : State) : Outcome State Fault Refusal :=
  .next ((((s.at_ t).loadInstruction 0).scanDriving captured load).drive)

/-- SAMPLE (R487). -/
def execSample (t captured : Nat) (s : State) : Outcome State Fault Refusal :=
  .next (((s.at_ t).loadInstruction 1).scanBoundary captured none)

/-- PRELOAD (R487). -/
def execPreload (t captured load : Nat) (s : State) : Outcome State Fault Refusal :=
  .next (((s.at_ t).loadInstruction 2).scanBoundary captured (some load))

/-- IDCODE (R487): the device ID register. -/
def execIdcode (t : Nat) (s : State) : Outcome State Fault Refusal :=
  .next (((s.at_ t).loadInstruction 3).emit (.scan 2 0x1A7169A7))

/-- CLAMP (R487, R489): outputs held from the boundary register, bypass selected. -/
def execClamp (t : Nat) (s : State) : Outcome State Fault Refusal :=
  .next ((((s.at_ t).loadInstruction 4).emit (.scan 1 0)).drive)

/-- HIGHZ (R487, R489): every output and enable off, bypass selected. -/
def execHighz (t : Nat) (s : State) : Outcome State Fault Refusal :=
  .next ((((s.at_ t).loadInstruction 5).emit (.scan 1 0)).drive)

/-- EXTEST_PULSE (R487, R489). -/
def execExtestPulse (t captured load : Nat) (s : State) : Outcome State Fault Refusal :=
  .next ((((s.at_ t).loadInstruction 6).scanDriving captured load).drive)

/-- EXTEST_TRAIN (R487, R489). -/
def execExtestTrain (t captured load : Nat) (s : State) : Outcome State Fault Refusal :=
  .next ((((s.at_ t).loadInstruction 7).scanDriving captured load).drive)

/-- BYPASS (R487): every opcode that the table does not list acts as it. -/
def execBypass (t opcode : Nat) (s : State) : Outcome State Fault Refusal :=
  let s := s.at_ t
  let code := opcode % 256
  if code < 8 then .next s else .next ((s.loadInstruction code).emit (.scan 1 0))

/-! ## Diagnostic capture (R493) -/

/-- TEST_CAPTURE (R493): the capture starts at the next microsecond, and replaces the one before. -/
def effTestCapture : Effect := fun c s =>
  needLen c 8 s <|
  let p := leAt c.body 0 1
  let n := leAt c.body 4 4
  if p = 0 ∨ 5 < p then refuse St.badEnum 8 s
  else if n < 4 ∨ 1048576 < n ∨ n % 4 ≠ 0 then refuse St.valueRange 12 s
  else needZero c 1 3 s <| needChange c .oper s <| needOwner c s <|
  if p ≤ 2 ∧ s.par (Par.at_ Par.posUMode (p - 1)) ≠ 2 then refuse St.segmentState 0 s
  else
    let s := s.freePods ((s.session c.sn).bind Session.capturePod).toList
    let (s, pod) := State.allocPod 2 4096 s
    let s := s.modSession c.sn (fun x => { x with capture := [], capturePod := pod })
    ({ s with test := { s.test with captures := s.test.captures ++ [⟨c.cid, c.sn, p, n, (s.ring / 1000 + 1) * 1000⟩] } }, .later)

/-- How long a capture takes (*Capture points*): two samples per 50 ns of a converter pair, one per 100 ns of HOLD_SNS, three per ms of the
temperature sensors, every pace ring per 100 µs, 2 bytes each. -/
def captureNs (point len : Nat) : Nat :=
  let of := fun (bytes period : Nat) => ceilDiv len bytes * period
  match point with
  | 1 | 2 => of 4 50
  | 3 => of 2 100
  | 4 => of 6 1000000
  | _ => of (2 * ((List.range 21).map (fun n => ringsOf (n + 1))).sum) 100000

/-- CAPTURE_COMPLETE (R493): once all of them are taken, the samples are held, and the reply carries the first of them. -/
def execCaptureComplete (t cid : Nat) (samples : List Byte) (s : State) : Outcome State Fault Refusal :=
  let s := s.at_ t
  match s.test.captures.find? (fun r => r.cid == cid && decide (r.len ≤ samples.length) && decide (r.start + captureNs r.point r.len ≤ s.ring)) with
  | none => .next s
  | some r =>
    let s := { s with test := { s.test with captures := s.test.captures.filter (fun r => r.cid != cid) } }
    let data := samples.take r.len
    let s := s.modSession r.sn (fun x => { x with capture := data })
    let src := data.take 8192
    let j : PackJob := ⟨cid, r.sn, 0, 1, 0, .capture r.point r.start r.len, 0, src.length, 2 ^ 32, src, 0, false, none⟩
    if s.pack.out then .next (s.packReply j false src.length src)
    else .next { s with pack := { s.pack with jobs := s.pack.jobs ++ [j] } }

def execTestBist (t : Nat) (h : Hdr) (b : List Byte) (failed : List (Nat × Nat)) (s : State) : Outcome State Fault Refusal :=
  .next (hostRow (.testBist t h b failed) 0x1501 t h b (effTestBist failed) s)

def execTestCapture (t : Nat) (h : Hdr) (b : List Byte) (s : State) : Outcome State Fault Refusal :=
  .next (hostRow (.testCapture t h b) 0x1502 t h b effTestCapture s)

end Sys2Proof.Machine
end

