-- ==== Sys2Proof/Machine/Params.lean ====
section
/-! DEFINITION. Reading parameters and results (04_commands.md, 24_parameter_groups.md): the value in force of every parameter,
DEV_PARAM_READ, the session's stage, the retained results, DEV_STATUS and DEV_ECHO. -/
namespace Sys2Proof.Machine
open Host

/-! ## Values in force -/

/-- A degraded mode holds in a service (R498). -/
def State.degraded (s : State) (n : Nat) : Bool :=
  match n with
  | 0x03 => (List.range 4).any (s.cond Ev.fresyPortDown)
  | 0x07 => s.spool.inflateUnits != 2 ^ 32 - 1 || s.spool.checkUnits != 2 ^ 32 - 1
  | 0x09 => s.usedChans.any (fun c => (s.chan c).inFault)
  | 0x0C => s.fire.heads.any (fun f => f.lost != 0)
  | 0x0E => s.insp.engines.any Engine.out
  | 0x0F => s.cause.openA || s.cause.openB
  | 0x10 => s.pack.out
  | _ => false

/-- Start-up has brought a service into use (R498): the Shell at the end of its ROM, DRAM when it is ready, what sessions and the
management port reach from phase 3 on, and the rest when the device is ready to print (DESIGN CHOICE, log entry 177). -/
def State.inUse (s : State) (n : Nat) : Bool :=
  let ph := s.par Par.powerPhase
  if n = 0x02 then decide (1 ≤ ph)
  else if n = 0x06 then s.par Par.dramState == 1
  else if [0x01, 0x03, 0x04, 0x11, 0x12, 0x13].contains n then decide (3 ≤ ph)
  else ph == 5

/-- DEV.SVC_STATEnn (R498): READY, FAULT, DEGRADED and SLOW of a service. -/
def State.svcState (s : State) (n : Nat) : Nat :=
  let slow := s.cond Ev.paceBelowFloor n
  let fault := evRows.any (fun r => r.sev == 3 && bitAt s.evt.latched r.ev && (if r.ev = Ev.paceBelowFloor then slow else r.svc == n))
  bit (s.inUse n) 0 + bit fault 1 + bit (s.degraded n) 2 + bit slow 3

/-- A session parameter (R499), by index: SHELL's on service 0x02, OWN's on service 0x04. -/
def State.sessionPar (s : State) (x : Session) (svc idx : Nat) : Nat :=
  match svc, idx with
  | 0x02, 0x10 => (s.shell.keys.filter (fun k => k.holders.contains x.num)).length
  | 0x02, 0x11 => bit x.epochRx 0 + bit x.epochTx 1
  | 0x02, 0x12 => x.txc
  | 0x02, 0x13 => x.rxTxc
  | 0x02, 0x14 => x.rekeys
  | 0x02, 0x15 => x.subject
  | 0x04, 0x10 => x.role
  | 0x04, 0x11 => maskOf (s.portSet x)
  | 0x04, 0x12 => x.opened
  | 0x04, 0x13 => x.lastCmd
  | 0x04, 0x14 => (s.flights.filter (fun f => f.of x.num)).length
  | 0x04, 0x15 => s.undelivered x.num
  | 0x04, 0x16 => x.stage.length
  | 0x04, 0x17 => x.subMask
  | 0x04, 0x18 => x.commands
  | _, _ => 0

/-- The value of a parameter that the state holds elsewhere than in its store, on unit 0 of its service. -/
def State.derived0 (s : State) (sn id : Nat) : Option Nat :=
  match id with
  | 0x01000016 => some s.now
  | 0x01000043 => some s.pins.length
  | 0x01000044 => some (s.results.filter (fun r => r.session == sn && r.endedAt.isNone)).length
  | 0x02000011 => some (((List.range 4).map (fun n => 8 ^ n * ((s.slot n).kind + bit (s.slot n).revoked 2))).sum)
  | 0x02000013 => some 0
  | 0x02000015 => some s.shell.keys.length
  | 0x02000020 => some (s.slot 0).digest
  | 0x02000021 => some (s.slot 1).digest
  | 0x02000022 => some (s.slot 2).digest
  | 0x02000023 => some (s.slot 3).digest
  | 0x04000010 => some s.own.holder
  | 0x04000011 => some s.own.state
  | 0x04000012 => some s.own.leaseEnd
  | 0x04000017 => some s.own.target
  | 0x05000013 => some s.decodeReserved
  | 0x05000014 => some s.dramReserved
  | 0x05000019 => some s.podsFree
  | 0x08000080 => some (leNat ((List.range 16).flatMap (fun h => leBytes 2 (s.outCount h))))
  | 0x08000084 => some s.nozzlePins
  | 0x09000010 => some (twos 64 s.pos.hw)
  | 0x09000011 => some (twos 64 s.pos.p)
  | 0x09000013 => some s.pos.active
  | 0x0F000023 => some s.ring
  | 0x10000106 => some s.pack.jobs.length
  | 0x11000010 => some s.evt.latched
  | 0x11000011 => some s.evt.nextSeq
  | 0x13000033 => some s.comp.journal.length
  | 0x14000010 => some s.elementState
  | 0x15000102 => some ((s.session sn).elim 0 (fun x => x.capture.length))
  | _ => none

/-- The value of a parameter that the state holds elsewhere than in its store. -/
def State.derived (s : State) (sn id : Nat) : Option Nat :=
  let u := idUnit id
  let i := idIdx id
  match idSvc id with
  | 0x01 => if 0x21 ≤ i ∧ i ≤ 0x35 then some (s.svcState (i - 0x20)) else s.derived0 sn id
  | 0x02 => if u = 0 then s.derived0 sn id else some ((s.session u).elim 0 (fun x => s.sessionPar x 0x02 i))
  | 0x03 => if i = 0x114 ∨ i = 0x115 then some (Config.reading id s.now).toNat else none
  | 0x04 => if u = 0 then s.derived0 sn id else some ((s.session u).elim 0 (fun x => s.sessionPar x 0x04 i))
  | 0x06 => if i = 0x100 then some (s.subState u) else none
  | 0x09 => if i = 0x110 then some (s.chanState u) else if i = 0x112 then some (twos 64 (s.chan u).count) else s.derived0 sn id
  | 0x0C =>
    if i = 0x35 then some (min 15 (s.flapsOf u).length)
    else if 0x30 ≤ i ∧ i ≤ 0x32 then
      some (if s.par (Par.at_ Par.laneUState u) = 3 then (Config.reading id (s.now / 1000000)).toNat % 2 ^ ((descOf id).elim 32 Desc.width) else 0)
    else none
  | _ => s.derived0 sn id

/-- What a read of a parameter by a session returns (R6, R92): the value in force. -/
def State.readParam (s : State) (sn id : Nat) : Nat := (s.derived sn id).getD (s.par id)

/-- Parameters of the Observer summaries (*Observer summaries*), which an Observer session and the management port read. -/
def inSummary (id : Nat) : Bool :=
  [Par.evtLatched, Par.evtNextSeq, Par.evtRaised, Par.evtSuppressed, Par.evtQueueDropped, Par.compOutPerHead].contains id
    || (idSvc id == 0x11 && 0x200 ≤ idIdx id && (evRow (idIdx id - 0x200)).elim true (fun r => r.args != .spool && r.args != .counters))

/-- The status of a read of an ID by a role (R89, R130). -/
def readStatus (role id : Nat) : Nat :=
  match idCheck id with
  | some st => st
  | none =>
    match learnRight role ((descOf id).elim .oper Desc.cls) with
    | .all => St.ok
    | .summary => if inSummary id then St.ok else St.classForbidden
    | .key => St.noJobKey
    | .none => St.classForbidden

/-- One entry of a read reply (*Parameter read and write bodies*). -/
def State.readEntry (s : State) (sn role id : Nat) : List Byte :=
  let st := readStatus role id
  let n := if st = St.ok then (descOf id).elim 0 Desc.vlen else 0
  leBytes 4 id ++ leBytes 2 st ++ leBytes 2 n ++ pad4 (leBytes n (s.readParam sn id))

/-- Refuses a reply longer than 9,120 bytes (R91). -/
def fits (len : Nat) (s : State) (k : State × Verdict) : State × Verdict :=
  if 9120 < 16 + len then refuse St.replyTooLarge (16 + len) s else k

/-- DEV_PARAM_READ (R89, R91, R496, R504). -/
def effDevParamRead : Effect := fun c s =>
  let n := leAt c.body 0 2
  if n = 0 ∨ 64 < n then refuse St.badCount 0 s
  else needLen c (4 + 4 * n) s <| needZero c 2 2 s <|
  let ids := items 4 n (c.body.drop 4)
  let body := leBytes 2 n ++ [0, 0] ++ ids.flatMap (s.readEntry c.sn c.role)
  fits body.length s <| perEntry (ids.filter (fun id => readStatus c.role id != St.ok)).length body s

/-! ## The stage -/

/-- DEV_STAGE_CLEAR (R100). -/
def effDevStageClear : Effect := fun c s => needLen c 0 s <| okay 0 [] (s.modSession c.sn (fun x => { x with stage := [] }))

/-- DEV_STAGE_READ: the staged entries, in the layout of a stage request (log entry 20). -/
def effDevStageRead : Effect := fun c s =>
  needLen c 0 s <|
  let es := (s.session c.sn).elim [] Session.stage
  let entry := fun (e : StageEntry) =>
    let n := (descOf e.id).elim 0 Desc.vlen
    leBytes 4 e.id ++ leBytes 2 n ++ [0, 0] ++ pad4 (leBytes n e.value)
  let body := leBytes 2 es.length ++ [0, 0] ++ es.flatMap entry
  fits body.length s <| okay 0 body s

/-! ## Results (R104-R109) -/

/-- A body with the target's opcode and tag in front (R104). -/
def Body.after (opcode tag : Nat) : Body → Body
  | .bytes b => .bytes (leBytes 2 opcode ++ leBytes 2 tag ++ b)
  | .fields f => .fields ([("OPCODE", opcode), ("TAG", tag)] ++ f)

/-- A result that its session's end has not released (R105). -/
def Result.lives (r : Result) (now : Nat) : Bool := match r.endedAt with
  | some e => decide (now < e + 8000000000)
  | none => true

/-- The target of DEV_RESULT_READ that a session may read: in its own session, else of an ended session of the same subject, the
latest first (R107). -/
def State.ownTarget (s : State) (sn subject n tag : Nat) : Option (Flight ⊕ Result) :=
  let fl := s.flights.filter (fun f => f.session == n && f.tag == tag && (if f.endedAt.isNone then n == sn else f.subject == subject))
  let rs := s.results.filter (fun r => r.session == n && r.tag == tag && r.lives s.now && (if r.endedAt.isNone then n == sn else r.subject == subject))
  let here : Option (Flight ⊕ Result) :=
    (fl.find? (fun f => f.endedAt.isNone)).elim ((rs.find? (fun r => r.endedAt.isNone)).map .inr) (fun f => some (.inl f))
  let ended : List (Nat × (Flight ⊕ Result)) :=
    fl.map (fun f => (f.endedAt.getD 0, Sum.inl f)) ++ rs.map (fun r => (r.endedAt.getD 0, Sum.inr r))
  here.orElse (fun _ => ((sortBy Prod.fst ended).getLast?).map Prod.snd)

/-- Any result or command in flight of a session number and tag (R107). -/
def State.anyTarget (s : State) (n tag : Nat) : Bool :=
  s.flights.any (fun f => f.session == n && f.tag == tag) || s.results.any (fun r => r.session == n && r.tag == tag && r.lives s.now)

/-- DEV_RESULT_READ (R104, R106, R107): the reply copies the target's status, progress, DETAIL and REPEAT. A target whose work has ended
and whose FINAL reply has not left gives its final result, and that reply then carries REPEAT (R109). -/
def effDevResultRead : Effect := fun c s =>
  needLen c 4 s <| needZero c 1 1 s <|
  let n := leAt c.body 0 1
  let tag := leAt c.body 2 2
  match s.ownTarget c.sn ((s.session c.sn).elim 0 Session.subject) n tag with
  | some (.inl f) =>
    match f.final with
    | some r =>
      let len := 4 + r.body.size f.opcode
      fits len s <|
      let s := s.modFlight f.cid (fun g => { g with final := some { r with again := true } })
      (s.finishWith c.cid r.status r.progress r.detail r.again (some f.cid) (r.body.after f.opcode f.tag), .later)
    | none =>
      let (s, p) := s.readProgress f
      (s.finishWith c.cid St.pending p 0 false none (.bytes (leBytes 2 f.opcode ++ leBytes 2 f.tag)), .later)
  | some (.inr r) =>
    let len := 4 + r.body.size r.opcode
    fits len s <|
    (s.finishWith c.cid r.status r.progress r.detail r.delivered (some r.cid) (r.body.after r.opcode r.tag), .later)
  | none => if s.anyTarget n tag then refuse St.otherSessionResult 0 s else refuse St.noSuchResult 0 s

/-- The retained result that a release of a tag names (R105): of the session, else of the session of the same subject that ended
last. -/
def State.toRelease (s : State) (sn subject tag : Nat) : Option Nat :=
  match s.results.find? (fun r => r.session == sn && r.tag == tag && r.endedAt.isNone) with
  | some r => some r.cid
  | none =>
    let ended := s.results.filter (fun r => r.endedAt.isSome && r.subject == subject && r.tag == tag && r.lives s.now)
    ((sortBy (fun (r : Result) => r.endedAt.getD 0) ended).getLast?).map Result.cid

/-- Releases one tag and gives its status (R105). -/
def State.release (sn subject tag : Nat) (s : State) : State × Nat :=
  if s.flights.any (fun f => f.of sn && f.tag == tag) then (s, St.inFlight)
  else match s.toRelease sn subject tag with
  | some cid => ({ s with results := s.results.filter (fun r => r.cid != cid) }, St.ok)
  | none => (s, St.noSuchResult)

/-- DEV_RESULT_RELEASE (R105, R504). -/
def effDevResultRelease : Effect := fun c s =>
  let n := leAt c.body 0 2
  if n = 0 ∨ 64 < n then refuse St.badCount 0 s
  else needLen c (up4 (2 + 2 * n)) s <| needZero c (2 + 2 * n) 2 s <|
  let tags := items 2 n (c.body.drop 2)
  let step := fun (a : State × List (Nat × Nat)) tag =>
    let (s, st) := a.1.release c.sn ((s.session c.sn).elim 0 Session.subject) tag
    (s, a.2 ++ [(tag, st)])
  let (s, sts) := tags.foldl step (s, [])
  perEntry (sts.filter (fun e => e.2 != 0)).length (leBytes 2 n ++ [0, 0] ++ sts.flatMap (fun e => leBytes 2 e.1 ++ leBytes 2 e.2)) s

/-! ## DEV_STATUS and DEV_ECHO -/

/-- DEV_STATUS: device state, start-up phase and segments accepted, which an Observer reads as 0xFFFF_FFFF (*Observer summaries*). -/
def effDevStatus : Effect := fun c s =>
  needLen c 0 s <|
  okayF [("STATE", s.par Par.devState), ("PHASE", s.par Par.powerPhase),
    ("SEGMENTS_ACCEPTED", if c.role = roleObserver then 0xFFFFFFFF else s.par Par.spoolSegAccepted)] s

/-- DEV_ECHO: the same bytes, at most 256. -/
def effDevEcho : Effect := fun c s => if 256 < c.body.length then refuse St.badLength 256 s else okay 0 c.body s

def execDevParamRead (t : Nat) (h : Hdr) (b : List Byte) (s : State) : Outcome State Fault Refusal :=
  .next (hostRow (.devParamRead t h b) 0x0101 t h b effDevParamRead s)

def execDevStageClear (t : Nat) (h : Hdr) (b : List Byte) (s : State) : Outcome State Fault Refusal :=
  .next (hostRow (.devStageClear t h b) 0x0105 t h b effDevStageClear s)

def execDevStageRead (t : Nat) (h : Hdr) (b : List Byte) (s : State) : Outcome State Fault Refusal :=
  .next (hostRow (.devStageRead t h b) 0x0106 t h b effDevStageRead s)

def execDevResultRead (t : Nat) (h : Hdr) (b : List Byte) (s : State) : Outcome State Fault Refusal :=
  .next (hostRow (.devResultRead t h b) 0x0107 t h b effDevResultRead s)

def execDevResultRelease (t : Nat) (h : Hdr) (b : List Byte) (s : State) : Outcome State Fault Refusal :=
  .next (hostRow (.devResultRelease t h b) 0x0108 t h b effDevResultRelease s)

def execDevStatus (t : Nat) (h : Hdr) (b : List Byte) (s : State) : Outcome State Fault Refusal :=
  .next (hostRow (.devStatus t h b) 0x0109 t h b effDevStatus s)

def execDevEcho (t : Nat) (h : Hdr) (b : List Byte) (s : State) : Outcome State Fault Refusal :=
  .next (hostRow (.devEcho t h b) 0x010A t h b effDevEcho s)

end Sys2Proof.Machine
end

