-- ==== Sys2Proof/Machine/Check.lean ====
section
/-! DEFINITION. What the units check at a commit (R98, R99): the rules of every chapter that depend on the present state or on
other parameters, against the values that the commit would leave in force. A check answers the entries that it refuses with
their statuses. -/
namespace Sys2Proof.Machine

/-- Entries refused: ID and status. -/
abbrev Refused := List (Nat × Nat)

/-- The staged value of a parameter. -/
def stagedOf (st : List StageEntry) (id : Nat) : Option Nat := (st.find? (fun e => e.id == id)).map StageEntry.value

/-- The value that a commit of the stage would leave in force. -/
def State.after (s : State) (st : List StageEntry) (id : Nat) : Nat := (stagedOf st id).getD (s.par id)

/-- The stage changes a parameter. -/
def State.changes (s : State) (st : List StageEntry) (id : Nat) : Bool := match stagedOf st id with
  | some v => v != s.par id
  | none => false

/-- A rule that fails refuses with 0x0101 the staged entries of the parameters on whose definition it stands, else those of its
other parameters (R98). -/
def rule (bad : Bool) (st : List StageEntry) (home others : List Nat) : Refused :=
  if !bad then []
  else
    let mine := home.filter (fun id => (stagedOf st id).isSome)
    ((if mine.isEmpty then others.filter (fun id => (stagedOf st id).isSome) else mine)).map (fun id => (id, St.valueRange))

/-- The entries of a list that the stage changes draw a status on a condition. -/
def State.blockIf (s : State) (st : List StageEntry) (bad : Bool) (status : Nat) (ids : List Nat) : Refused :=
  if bad then (ids.filter (s.changes st)).map (fun id => (id, status)) else []

/-- A segment in any state that uses a head holds it against changes of its window and mapping (R191, R211). -/
def State.headInUse (s : State) (h : Nat) : Bool := s.spool.segs.any (fun g => bitAt g.heads h)

/-- A segment is inside its horizon (R248, R370). -/
def State.insideHorizon (s : State) : Bool := s.spool.segs.any (fun g => g.state == Sg.inHorizon || g.state == Sg.printing)

/-! ## FRESY, OWN and SHELL -/

/-- Parameters whose change takes a port down (R77). -/
def portPars : List Nat := [Par.fresyUMedium, Par.fresyUFec, Par.fresyUVlanMode, Par.fresyUVid, Par.fresyUEnable]

/-- The ports that a commit would take down. -/
def State.takesDown (s : State) (st : List StageEntry) : List Nat :=
  s.upPorts.filter (fun p => portPars.any (fun q => s.changes st (Par.at_ q p)))

/-- LAST_PORT (R77): when the ports that the commit would take down include every port that is up in the committing session's set, the
highest of those that it would take down refuses. -/
def State.lastPort (s : State) (sn : Nat) (st : List StageEntry) : Refused :=
  let mine := (s.session sn).elim [] s.portSet
  let down := s.takesDown st
  match down.getLast? with
  | some p => s.blockIf st (!mine.isEmpty && mine.all down.contains) St.lastPort (portPars.map (fun q => Par.at_ q p))
  | none => []

/-- FRESY.KEEPALIVE is at most PORT_SILENCE / 2, and the last port stays (R77). -/
def State.checkFresy (s : State) (sn : Nat) (st : List StageEntry) : Refused :=
  rule (s.after st Par.fresyPortSilence < 2 * s.after st Par.fresyKeepalive) st [Par.fresyKeepalive] [Par.fresyPortSilence]
    ++ s.lastPort sn st

/-- OWN.IDLE_LIMIT is not below LEASE_DEFAULT; the UTC floor is not below the estimate (R132); SVN_COMMIT is within its bound (R155),
and the Shell refuses it after a tamper (R158). -/
def State.checkShell (s : State) (st : List StageEntry) : Refused :=
  rule (s.after st Par.ownIdleLimit < s.after st Par.ownLeaseDefault) st [Par.ownIdleLimit] [Par.ownLeaseDefault]
    ++ rule ((stagedOf st Par.shellUtcFloor).any (fun v => v < s.utcEstimate)) st [Par.shellUtcFloor] []
    ++ (if s.shell.tampered && (stagedOf st Par.shellSvnCommit).isSome then [(Par.shellSvnCommit, St.shellFault)] else [])
    ++ rule ((stagedOf st Par.shellSvnCommit).any s.svnRefused) st [Par.shellSvnCommit] []

/-! ## HEAD and FIRE -/

/-- The window of a head after a commit: plane, first column and the column after its last. -/
def State.windowAfter (s : State) (st : List StageEntry) (h : Nat) : Nat × Nat × Nat :=
  let first := s.after st (Par.at_ Par.headUColFirst h)
  (s.after st (Par.at_ Par.headUPlane h), first, first + s.after st (Par.at_ Par.headUColCount h))

/-- Columns that two windows share. -/
def overlapOf (a b : Nat × Nat × Nat) : Nat := if a.1 = b.1 then min a.2.2 b.2.2 - max a.2.1 b.2.1 else 0

/-- A window that overlaps another by more than 256 columns, or has a column in three windows (R219). -/
def State.crowded (s : State) (st : List StageEntry) (h : Nat) : Bool :=
  let w := s.windowAfter st h
  let others := ((List.range 16).filter (· != h)).map (s.windowAfter st)
  others.any (fun v => 256 < overlapOf w v)
    || others.zipIdx.any (fun v => others.zipIdx.any (fun u => v.2 < u.2 && v.1.1 == w.1 && u.1.1 == w.1 &&
        max (max w.2.1 v.1.2.1) u.1.2.1 < min (min w.2.2 v.1.2.2) u.1.2.2))

/-- FIRE_WINDOW of the head at a port; with no head, longer than any pulse. -/
def State.recipeWindow (s : State) (h : Nat) : Nat := if s.attached h then fireWindow (s.head h).mem else 8191

/-- The rules of one head (R189, R191, R211, R219, R273, the nozzle map and the temperature thresholds). -/
def State.checkHead (s : State) (st : List StageEntry) (h : Nat) : Refused :=
  let at_ := fun id => Par.at_ id h
  let v := fun id => s.after st (at_ id)
  let window := [at_ Par.headUPlane, at_ Par.headUColFirst, at_ Par.headUColCount]
  let mapping := [at_ Par.headUNozPerCol, at_ Par.headUPairMode, at_ Par.headUColReverse]
  s.blockIf st (s.headInUse h) St.segmentState (window ++ mapping ++ [at_ Par.fireULineOffset])
    ++ rule (65536 < v Par.headUColFirst + v Par.headUColCount) st [] [at_ Par.headUColFirst, at_ Par.headUColCount]
    ++ rule (s.slots h != 0 && decide (s.slots h < v Par.headUColCount * v Par.headUNozPerCol)) st [at_ Par.headUColCount] [at_ Par.headUNozPerCol]
    ++ rule (v Par.headUPairMode == 1 && s.slots h % 2 == 1) st [at_ Par.headUPairMode] []
    ++ s.blockIf st (window.any (s.changes st) && s.crowded st h) St.valueRange window
    ++ rule (v Par.headUTempWarn < v Par.headUTempSet + 80) st [] [at_ Par.headUTempSet, at_ Par.headUTempWarn]
    ++ rule (v Par.headUTempLimit ≤ v Par.headUTempWarn) st [] [at_ Par.headUTempWarn, at_ Par.headUTempLimit]
    ++ rule ((stagedOf st (at_ Par.headURecipe)).any (fun r => !recipeOk r (s.recipeWindow h))) st [at_ Par.headURecipe] []

/-! ## LANE -/

/-- The lanes of an island run at one rate (R290), which changes only while no segment uses its heads (R291). -/
def State.checkIsland (s : State) (st : List StageEntry) (k : Nat) : Refused :=
  let ids := (List.range 4).map (fun i => Par.at_ Par.laneURate (4 * k + i))
  let v := ids.map (s.after st)
  s.blockIf st (v.any (fun x => x != v.headD 0)) St.valueRange ids
    ++ s.blockIf st (s.headInUse (2 * k) || s.headInUse (2 * k + 1)) St.segmentState ids

/-! ## COMP -/

/-- The three parameters of a zone of a plane on a side: peer, first column and width. -/
def zonePars (plane side : Nat) : List Nat :=
  (if side = 0 then [Par.compUEastPeer, Par.compUEastFirst, Par.compUEastCols] else [Par.compUWestPeer, Par.compUWestFirst, Par.compUWestCols]).map
    (fun id => Par.at_ id plane)

/-- A zone's columns after a commit, from the first to the one after the last. -/
def State.zoneAfter (s : State) (st : List StageEntry) (plane side : Nat) : Nat × Nat :=
  let v := (zonePars plane side).map (s.after st)
  (nth v 0 1, nth v 0 1 + nth v 0 2)

/-- A zone that does not end, or start, at the edge of its plane's windows, or has a width and no peer (R222). -/
def State.badZone (s : State) (st : List StageEntry) (plane side : Nat) : Bool :=
  let z := s.zoneAfter st plane side
  let ws := ((List.range 16).map (s.windowAfter st)).filter (fun w => w.1 == plane)
  let hi := (ws.map (fun w => w.2.2)).foldl max 0
  let lo := (ws.map (fun w => w.2.1)).foldl min 65536
  z.1 != z.2 && ((if side = 0 then z.2 != hi else z.1 != lo) || s.after st (nth (zonePars plane side) 0 0) == 0x7FF)

/-- A segment uses a head that prints a column of a zone, before or after the commit (R222); `inner` counts the zones between heads
of this AL716. -/
def State.zoneInUse (s : State) (st : List StageEntry) (plane : Nat) (inner : Bool) : Bool :=
  (List.range 16).any (fun h =>
    let w := s.windowAfter st h
    let meets := fun (z : Nat × Nat) => decide (max z.1 w.2.1 < min z.2 w.2.2)
    w.1 == plane && s.headInUse h &&
      ([0, 1].any (fun side => meets (s.zoneAfter [] plane side) || meets (s.zoneAfter st plane side))
        || (inner && (List.range 16).any (fun g => g != h && overlapOf w (s.windowAfter st g) != 0))))

/-- The rules of one plane (R222). -/
def State.checkPlane (s : State) (st : List StageEntry) (plane : Nat) : Refused :=
  [0, 1].flatMap (fun side => rule ((zonePars plane side).any (s.changes st) && s.badZone st plane side) st [] (zonePars plane side))
    ++ s.blockIf st (s.zoneInUse st plane false) St.segmentState (zonePars plane 0 ++ zonePars plane 1)
    ++ s.blockIf st (s.zoneInUse st plane true) St.segmentState [Par.at_ Par.compURampKind plane]

/-- A level-remap table in order: entry 0 is 0 and the entries do not decrease (R215). -/
def tableOrdered (v : Nat) : Bool := tByte v 0 == 0 && (List.range 7).all (fun i => tByte v i ≤ tByte v (i + 1))

/-- The rules of the tables (R215) and of COMP.FLAP_WINDOW. -/
def State.checkComp (s : State) (st : List StageEntry) : Refused :=
  let users := fun t => (List.range 16).filter (fun h => s.after st (Par.compFbTableH0 + h) == t)
  let high := fun t => (List.range 8).any (fun i => decide (3 < tByte (s.after st (Par.compTable0 + t)) i))
  rule (s.after st Par.compFlapWindow < s.after st Par.compRestoreDwell * s.after st Par.compFlapLimit) st [Par.compFlapWindow]
      [Par.compRestoreDwell, Par.compFlapLimit]
    ++ (List.range 16).flatMap (fun t =>
      rule (!tableOrdered (s.after st (Par.compTable0 + t)) || (high t && !(users t).isEmpty)) st [Par.compTable0 + t] []
        ++ (users t).flatMap (fun h => rule (high t) st [Par.compFbTableH0 + h] []))

/-! ## POS and CAUSE -/

/-- The member is a source of position for the ring after a commit (R370). -/
def State.sourceAfter (s : State) (st : List StageEntry) : Bool :=
  s.after st Par.causePosSource == s.address && s.address != 0x7FF

/-- The rules of the position base (R248, R370), and CAUSE.POS_TIMEOUT of at least three periods. -/
def State.checkPos (s : State) (st : List StageEntry) : Refused :=
  let resnap := fun c => s.after st (Par.at_ Par.posUIndexResnap c) == 1
  s.blockIf st s.insideHorizon St.segmentState
      (Par.causePosSource :: [Par.posUMode, Par.posUCountsPerLine, Par.posUDirInvert].map (fun id => Par.at_ id s.pos.active))
    ++ s.blockIf st (!s.spool.segs.isEmpty) St.segmentState [Par.posLinePitch]
    ++ s.blockIf st (s.sourceAfter st && (resnap 0 || resnap 1)) St.valueRange [Par.causePosSource]
    ++ [0, 1].flatMap (fun c => rule (s.sourceAfter st && resnap c) st [Par.at_ Par.posUIndexResnap c] [])
    ++ rule (s.after st Par.causePosTimeout < 3 * s.after st Par.causePosPeriod) st [Par.causePosTimeout] [Par.causePosPeriod]

/-! ## CAM and INSP -/

/-- The leader of a port's device after a commit. -/
def State.leaderAfter (s : State) (st : List StageEntry) (c : Nat) : Nat :=
  ((List.range c).find? (fun l => decide (c < l + s.after st (Par.at_ Par.camUAggregate l)))).getD c

/-- Groups of several ports after a commit: their first port and the one after their last. -/
def State.groupsAfter (s : State) (st : List StageEntry) : List (Nat × Nat) :=
  ((List.range 4).map (fun c => (c, c + s.after st (Par.at_ Par.camUAggregate c)))).filter (fun g => g.1 + 1 < g.2)

/-- The rules of one camera port (R318, R322, R332, and WIDTH). -/
def State.checkCam (s : State) (st : List StageEntry) (c : Nat) : Refused :=
  let at_ := fun id => Par.at_ id c
  let v := fun id => s.after st (at_ id)
  let longest := 1000000000 / max 1 (v Par.camUTrigMaxRate) - 100
  let listed := (List.range (v Par.camUDefectCount)).map (tWord (v Par.camUDefects))
  let gs := s.groupsAfter st
  let mine := s.leaderAfter st c == c
  rule (gs.any (fun g => g.1 == c && gs.any (fun k => k.1 != c && max k.1 g.1 < min k.2 g.2))) st [at_ Par.camUAggregate] []
    ++ rule (mine && (List.range 4).any (fun k => k != c && s.leaderAfter st k == k &&
        s.after st (Par.at_ Par.camUTrigOut k) == v Par.camUTrigOut)) st [at_ Par.camUTrigOut] [at_ Par.camUAggregate]
    ++ rule (v Par.camUWidth % (4 * max 1 (v Par.camUAggregate)) != 0) st [at_ Par.camUWidth] [at_ Par.camUAggregate]
    ++ rule (longest < v Par.camUExposureA) st [at_ Par.camUExposureA] [at_ Par.camUTrigMaxRate]
    ++ rule (longest < v Par.camUExposureB) st [at_ Par.camUExposureB] [at_ Par.camUTrigMaxRate]
    ++ rule (v Par.camUExposureB != 0 && decide (v Par.camUExposureA ≤ v Par.camUExposureB)) st [at_ Par.camUExposureB] [at_ Par.camUExposureA]
    ++ rule ((List.range 32).any (fun j => decide (tWord (v Par.camULinKnots) (j + 1) < tWord (v Par.camULinKnots) j))) st [at_ Par.camULinKnots] []
    ++ rule (listed.any (fun x => decide (v Par.camUWidth ≤ x)) || listed.eraseDups.length != listed.length) st [at_ Par.camUDefects]
      [at_ Par.camUDefectCount, at_ Par.camUWidth]
    ++ rule (v Par.camUMergeKnee == 0 && v Par.camUExposureB != 0) st [at_ Par.camUMergeKnee] [at_ Par.camUExposureB]
    ++ rule (v Par.camUSepEnable == 1 && v Par.camUMosaicSize == 0) st [at_ Par.camUSepEnable] [at_ Par.camUMosaicSize]
    ++ rule (v Par.camUMosaicSize == 1 && (List.range 16).any (fun i => (2 ≤ i / 4 || 2 ≤ i % 4) && bitsAt (v Par.camUMosaic) (4 * i) 4 != 0)) st
      [at_ Par.camUMosaic] [at_ Par.camUMosaicSize]

/-- WATCH_AT lies below OUT_AT, and NOZ_CLEAR below NOZ_THRESH (R347). -/
def State.checkInsp (s : State) (st : List StageEntry) : Refused :=
  rule (s.after st Par.inspOutAt ≤ s.after st Par.inspWatchAt) st [] [Par.inspWatchAt, Par.inspOutAt]
    ++ rule (s.after st Par.inspNozThresh ≤ s.after st Par.inspNozClear) st [] [Par.inspNozThresh, Par.inspNozClear]

/-! ## All units -/

/-- Events that report a unit in fault (DESIGN CHOICE, log entry 145). -/
def faultEvents : List Nat := [40, 43, 49, 50, 54, 70, 80, 83, 85, 88, 90, 104, 107, 109, 119]

/-- A unit went into fault at this very instant, granted before this command (R103). -/
def State.faulted (s : State) (svc unit : Nat) : Bool :=
  s.evt.log.any (fun e => !e.record && faultEvents.contains e.code && e.t == s.ring && e.svc == svc && e.unit == unit)

/-- The staged entries of units in fault (R103). -/
def State.inFault (s : State) (st : List StageEntry) : Refused :=
  (st.filter (fun e => s.faulted (idSvc e.id) (idUnit e.id))).map (fun e => (e.id, St.unitFault))

/-- The entries that the units refuse, each with its first status, in the order of the stage (R99). -/
def State.refusals (s : State) (sn : Nat) (st : List StageEntry) : Refused :=
  let all := s.inFault st ++ s.checkFresy sn st ++ s.checkShell st ++ (List.range 16).flatMap (s.checkHead st) ++ (List.range 8).flatMap (s.checkIsland st)
    ++ (List.range 4).flatMap (s.checkPlane st) ++ s.checkComp st ++ s.checkPos st ++ (List.range 4).flatMap (s.checkCam st) ++ s.checkInsp st
  st.filterMap (fun e => all.find? (fun r => r.1 == e.id))

end Sys2Proof.Machine
end

