-- ==== Sys2Proof/Machine/Commit.lean ====
section
/-! DEFINITION. Staging and commit (R97-R103, R497, R505): what a session stages, the commit instant, its pins, and what each unit
does when a committed value takes effect. -/
namespace Sys2Proof.Machine
open Host

/-! ## What a committed value does in its unit (R102) -/

/-- The values of a list of parameters that a commit changed. -/
def changed (old s : State) (ids : List Nat) : List Nat := ids.filter (fun id => s.par id != old.par id)

/-- The units of a service whose parameters, within a range of indices, are listed. -/
def unitsOf (ids : List Nat) (svc lo hi : Nat) : List Nat :=
  ((ids.filter (fun id => idSvc id == svc && lo ≤ idIdx id && idIdx id ≤ hi)).map idUnit).eraseDups

/-- A committed table reaches the compensation engine as two halves (R448, KIND 2 and 3), a fall-back selection as KIND 4. -/
def State.takeTable (id : Nat) (s : State) : State :=
  let i := idIdx id
  let v := s.par id
  if i < 0x40 then s.change [⟨⟨4, i - 0x30, 0, v⟩, false, false⟩]
  else s.change [⟨⟨2, i - 0x40, 0, v % 2 ^ 32⟩, false, false⟩, ⟨⟨3, i - 0x40, 0, v / 2 ^ 32⟩, false, false⟩]

/-- A gate's parameters changed (11_firing_and_heads.md): an active gate ends where the commit ends it, and else acts on its new heads
in its new role. -/
def State.newGate (old : State) (n : Nat) (s : State) : State :=
  let g := nth s.fire.gates ⟨false, 0, 0⟩ n
  let role := s.par (Par.posGate0Role + 4 * n)
  let heads := s.par (Par.posGate0Heads + 4 * n)
  if !g.active then s
  else if role = 0 ∨ heads = 0 ∨ s.par (Par.posGate0Polarity + 4 * n) ≠ old.par (Par.posGate0Polarity + 4 * n) then s.releaseGate n
  else
    let was := fun h => s.gated h
    let s := { s with fire := { s.fire with gates := modNth (fun _ => ⟨true, heads, role⟩) n s.fire.gates } }
    let s := s.each ((List.range 16).filter (fun h => was h && !s.gated h && !s.fire.sag)) (fun h s => s.sendGate h 0)
    let s := s.each ((List.range 16).filter (fun h => !was h && s.gated h)) (fun h s => s.gateHead h 3)
    s.when (g.role == 4 || role == 4) (fun s => s.each (maskUnits 16 (g.heads ||| heads)) State.hpenUpdate)

/-- POS.CHANNELS changed: ENC0 is active for 0 and 2, ENC1 for 1 and 3, and position carries on (log entry 21); a channel in fault gives way to
the other (R253), and one that stands alone loses position (R255). -/
def State.newChannels (s : State) : State :=
  let c := s.par Par.posChannels % 2
  let s := if s.pos.active = c then s
    else { (s.realign c) with pos := { (s.realign c).pos with active := c, xStart := none, select := none } }
  if (s.chan c).inFault && s.usedChans.contains (1 - c) && !(s.chan (1 - c)).inFault then (s.realign (1 - c)).switchTo (1 - c) else s.checkLost

/-- COUNTS_PER_LINE of the active channel changed while the web may stand anywhere (R247): the base stays in counts. -/
def State.newCounts (old : State) (c : Nat) (s : State) : State :=
  if s.pos.active ≠ c then s
  else s.modChan c (fun x => { x with basePos := x.basePos * (old.cpl c : Nat) / (s.cpl c : Nat) })

/-- A standby whose MODE, COUNTS_PER_LINE or DIR_INVERT changed realigns at its next count (R248), and the cross-check begins anew. -/
def State.newStandby (c : Nat) (s : State) : State :=
  let s := { s with pos := { s.pos with xStart := none } }
  if s.pos.active = c then s else s.modChan c (fun x => { x with stale := true })

/-- A lane takes a new rate (R269, R291, R303): its head's ceiling follows, a loopback of it ends, and it goes down with reason FORCED
and comes up again. -/
def State.newRate (u : Nat) (s : State) : State :=
  let s := s.setPar (Par.at_ Par.laneUPayloadRate u) (nth [2753, 4404, 5506] 5506 (s.par (Par.at_ Par.laneURate u)))
  let s := match (s.lane u).loop with
    | some r => s.endLoop u r
    | none => s
  ((s.newCeiling (u / 2)).laneDown u 0xD).startBringUp u

/-- A camera port is enabled or disabled, or its link changes (R317, R320): triggers start at the first whole line above the mark. -/
def State.newLink (old : State) (c : Nat) (s : State) : State :=
  let on := s.camPar Par.camUEnable c == 1
  let was := old.camPar Par.camUEnable c == 1
  let s := s.each ((List.range 4).filter (fun k => k == c || old.camLeader k == old.camLeader c || s.camLeader k == s.camLeader c))
    (fun k s => s.modCam k (fun x => { x with lock := none }))
  if on && !was then
    let set : CamSet := ⟨s.par Par.devCommitSeq, s.camSetNow c⟩
    s.modCam c (fun x => { x with
      state := 1, k := 0, next := (s.pos.hw + 1) * 65536, start := 0, last := none, stalled := false, stamps := [], cur := set
      old := [], shadow := none })
  else if !on then (s.camDown c).modCam c (fun x => { x.close true with state := 0, stamps := [] })
  else (s.camDown (old.camLeader c)).camDown (s.camLeader c)

/-- What the units do at the commit instant with the parameters that were written (R102); `old` is the state before. -/
def State.settle (old : State) (written : List Nat) (s : State) : State :=
  let ids := changed old s written
  let s := s.when (written.contains Par.shellUtcFloor) (fun s => s.setUtc (s.par Par.shellUtcFloor))
  let s := s.when (written.contains Par.shellSvnCommit) (fun s => (s.burnSvn (s.par Par.shellSvnCommit)).setPar Par.shellSvnCommit 0)
  let s := s.each ((List.range 4).filter (fun p => portPars.any (fun q => ids.contains (Par.at_ q p)))) State.portDown
  let s := s.each (ids.filter (fun id => idSvc id == 0x08 && idUnit id == 0 && 0x30 ≤ idIdx id && idIdx id ≤ 0x4F)) State.takeTable
  let s := s.each (unitsOf ids 0x08 0x103 0x105) (fun p s => State.newZone old p 0 s)
  let s := s.each (unitsOf ids 0x08 0x106 0x108) (fun p s => State.newZone old p 1 s)
  let s := s.when (ids.contains Par.compOutLimitHead) (fun s => s.each (List.range 16) (fun h s =>
    s.when (decide (s.outCount h < s.par Par.compOutLimitHead)) (State.endCond Ev.compLimit h)))
  let s := s.when (ids.contains Par.posChannels) State.newChannels
  let s := s.each [0, 1] (fun c s => s.when (ids.contains (Par.at_ Par.posUCountsPerLine c)) (State.newCounts old c))
  let s := s.each (unitsOf ids 0x09 0x100 0x102) State.newStandby
  let s := s.each [0, 1] (fun n s => s.when (ids.contains (Par.posRej0Polarity + 4 * n))
    (State.driveRej n ((s.rej n).assertedTo.isSome || (s.rej n).full || (s.rej n).sag)))
  let s := s.each ((List.range 6).filter (fun n => (List.range 3).any (fun i => ids.contains (Par.posGate0Role + 4 * n + i)))) (State.newGate old)
  let s := s.each (unitsOf ids 0x0B 0x16 0x16) State.hpenUpdate
  let s := s.each (unitsOf ids 0x0B 0x23 0x25) (fun h s =>
    if s.attached h then s.rebuild h 4 else s.modLedger h (fun l => { l with remap := true }))
  let s := s.when (!(unitsOf ids 0x0B 0x20 0x25).isEmpty) (State.moveZones old)
  let s := s.each (unitsOf written 0x0B 0x60 0x60) (fun h s =>
    s.when (s.attached h) (State.sendTable h 2 0 (leBytes 140 (s.par (Par.at_ Par.headURecipe h)))))
  let s := s.each (unitsOf ids 0x0C 0x22 0x22) State.newRate
  let s := s.each (unitsOf written 0x0D 0x30 0x63) (fun c s => s.camShadow c (s.par Par.devCommitSeq))
  let s := s.each (unitsOf ids 0x0D 0x20 0x22) (State.newLink old)
  let s := s.when (ids.contains Par.causePosSource) (fun s =>
    (s.each [0, 1, 2, 3] (fun p s => (s.compareZone p 0).compareZone p 1)).sendZones)
  s.when (written.contains Par.powerVddCoreSet && !s.cond Ev.pmbusFault 0) (fun s => s.writeVdd (s.par Par.powerVddCoreSet))

/-! ## Staging (R97, R98) -/

/-- The status of an entry at staging (R88-R90, R96, R98): form, then the role. CAM[c].AGGREGATE takes 2 on C0 and C2, and 4 on C0
alone (R318). -/
def stageStatus (role : Nat) (e : WriteEntry) : Nat :=
  match entryForm e.id e.vlen e.value with
  | some st => st
  | none =>
    if e.rsv ≠ 0 then St.reservedNonzero
    else if idSvc e.id = 0x0D ∧ idIdx e.id = 0x21 ∧ e.value ≠ 1 ∧ (if e.value = 2 then idUnit e.id % 2 ≠ 0 else idUnit e.id ≠ 0) then
      St.valueRange
    else if mayWrite role e.id then St.staged else St.classForbidden

/-- A stage with one more entry; a later value of a parameter replaces the earlier one (R97). -/
def putStage (st : List StageEntry) (id v : Nat) : List StageEntry :=
  if st.any (fun e => e.id == id) then st.map (fun (e : StageEntry) => if e.id == id then { e with value := v } else e) else st ++ [⟨id, v⟩]

/-- A stage within its limits (R97): 256 entries and 35 units. -/
def stageFits (st : List StageEntry) : Bool := st.length ≤ 256 && ((st.map (fun e => e.id / 0x10000)).eraseDups).length ≤ 35

/-- Stages the entries of a request that pass (R97, R98): the stage and each entry's status, or `none` where it would be too full. -/
def stageAll (role : Nat) (es : List WriteEntry) (st : List StageEntry) : Option (List StageEntry × List (Nat × Nat)) :=
  let sts := es.map (fun e => (e.id, stageStatus role e))
  let next := (es.filter (fun e => stageStatus role e == St.staged)).foldl (fun st e => putStage st e.id e.value) st
  if stageFits next || next.length == st.length then some (next, sts) else none

/-- A session's stage. -/
def State.stageOf (s : State) (n : Nat) : List StageEntry := (s.session n).elim [] Session.stage

/-- Sets a session's stage. -/
def State.setStage_ (n : Nat) (st : List StageEntry) (s : State) : State := s.modSession n (fun x => { x with stage := st })

/-- The body of a stage reply and of a commit's list (*Parameter read and write bodies*). -/
def statusBody (sts : List (Nat × Nat)) : List Byte := leBytes 2 sts.length ++ [0, 0] ++ sts.flatMap (fun e => idEntry e.1 e.2)

/-- The header of a stage or write request (R88, R89): the entries, once COUNT, length and reserved bytes hold. -/
def withEntries (c : Ctx) (s : State) (k : List WriteEntry → State × Verdict) : State × Verdict :=
  let n := leAt c.body 0 2
  let es := writeEntries n (c.body.drop 4)
  if n = 0 ∨ 64 < n then refuse St.badCount 0 s
  else needLen c (4 + writeLen es) s <| needZero c 2 2 s <| k es

/-- DEV_PARAM_STAGE (R97, R98). -/
def effDevParamStage : Effect := fun c s =>
  withEntries c s fun es =>
    match stageAll c.role es (s.stageOf c.sn) with
    | none => refuse St.stageFull 0 s
    | some (st, sts) => perEntry (sts.filter (fun e => e.2 != St.staged)).length (statusBody sts) (s.setStage_ c.sn st)

/-! ## Commit (R99-R101) -/

/-- An entry of the committing session's own OWN[s] or SHELL[s] unit, which needs no ownership (R101). -/
def ownUnit (sn id : Nat) : Bool := (idSvc id == 0x04 || idSvc id == 0x02) && idUnit id == sn && sn != 0

/-- The loop-driven parameters of a stage that hold no pin yet (R92, R95). -/
def State.newPins (s : State) (st : List StageEntry) : List Nat :=
  (st.filter (fun e => (descOf e.id).elim false (fun d => d.level == .loop) && !s.pinned e.id)).map StageEntry.id

/-- Pins a loop-driven parameter (R92) and writes the record of code 0x05. -/
def State.addPin (sn id : Nat) (s : State) : State :=
  let p : Pin := ⟨id, sn, s.ring⟩
  State.record 5 (idSvc id) (idUnit id) (leBytes 4 id ++ leBytes 1 sn) { s with pins := s.pins ++ [p] }

/-- DEV.COMMIT_SEQ advances at a commit instant. -/
def State.nextCommit (s : State) : State := s.setPar Par.devCommitSeq ((s.par Par.devCommitSeq + 1) % 2 ^ 32)

/-- Every entry of a stage takes effect at one commit instant (R99, R100). -/
def State.applyStage (sn : Nat) (st : List StageEntry) (s : State) : State :=
  let new := s.each st (fun e s => s.setPar e.id e.value)
  let new := new.nextCommit.each (s.newPins st) (State.addPin sn)
  State.settle s (st.map StageEntry.id) (new.setStage_ sn [])

/-- Commits the session's stage (R95, R99-R101). -/
def State.commit (c : Ctx) (s : State) : State × Verdict :=
  let st := s.stageOf c.sn
  match st.find? (fun e => !mayWrite c.role e.id) with
  | some e => (s, .done St.classForbidden e.id (.bytes (statusBody [(e.id, St.classForbidden)])))
  | none =>
    match st.find? (fun e => !ownUnit c.sn e.id && !s.owns c.sn) with
    | some e => (s, .done St.notOwner s.own.holder (.bytes (statusBody [(e.id, St.notOwner)])))
    | none =>
      if st.isEmpty then needOwner c s <| refuse St.nothingStaged 0 s
      else
        let bad := s.refusals c.sn st
        if !bad.isEmpty then (s, .done St.unitsRefused ((bad.map (fun r => r.1 / 0x10000)).eraseDups).length (.bytes (statusBody bad)))
        else if 1024 < s.pins.length + (s.newPins st).length then refuse St.pinTableFull 0 s
        else
          let s := s.applyStage c.sn st
          okay (s.par Par.devCommitSeq)
            (statusBody (st.map (fun e => (e.id, if (descOf e.id).elim false (fun d => d.level == .loop) then St.pinned else St.ok)))) s

/-- DEV_PARAM_COMMIT (R99). -/
def effDevParamCommit : Effect := fun c s => needLen c 0 s <| s.commit c

/-- DEV_PARAM_WRITE (R505). -/
def effDevParamWrite : Effect := fun c s =>
  withEntries c s fun es =>
    if !s.owns c.sn && es.any (fun e => !ownUnit c.sn e.id) then refuse St.notOwner s.own.holder s
    else match stageAll c.role es (s.stageOf c.sn) with
    | none => refuse St.stageFull 0 s
    | some (st, sts) =>
      let bad := sts.filter (fun e => e.2 != St.staged)
      let s := s.setStage_ c.sn st
      if bad.isEmpty then s.commit c
      else (s, .done St.unitsRefused ((bad.map (fun r => r.1 / 0x10000)).eraseDups).length (.bytes (statusBody bad)))

/-! ## Commands that stage one parameter -/

/-- Stages one parameter for a command of its own (R97, R98): OK, or the status that the entry draws. -/
def stageOne (c : Ctx) (id v detail : Nat) (s : State) : State × Verdict :=
  let d := (descOf id).elim 0 Desc.vlen
  match stageAll c.role [⟨id, d, 0, v⟩] (s.stageOf c.sn) with
  | none => refuse St.stageFull 0 s
  | some (st, sts) =>
    let status := (sts.headD (id, St.staged)).2
    if status = St.staged then okay 0 [] (s.setStage_ c.sn st)
    else refuse status (if status = St.classForbidden then id else detail) s

/-- COMP_TABLE_WRITE (R215): table (1 B), three reserved bytes and the eight entries (log entry 8). -/
def effCompTableWrite : Effect := fun c s =>
  needLen c 12 s <| needZero c 1 3 s <|
  let t := leAt c.body 0 1
  if 16 ≤ t then refuse St.valueRange 8 s else stageOne c (Par.compTable0 + t) (leAt c.body 4 8) 12 s

/-- HEAD_RECIPE_WRITE (R273): one level record, the other six from the stage or from the values in force. -/
def effHeadRecipeWrite : Effect := fun c s =>
  needLen c 24 s <|
  let h := leAt c.body 0 1
  let l := leAt c.body 1 1
  if 16 ≤ h then refuse St.valueRange 8 s
  else if l = 0 ∨ 7 < l then refuse St.valueRange 9 s
  else needZero c 2 2 s <|
    let id := Par.at_ Par.headURecipe h
    let rest := leBytes 140 ((stagedOf (s.stageOf c.sn) id).getD (s.par id))
    let v := leNat (rest.take (20 * (l - 1)) ++ c.body.drop 4 ++ rest.drop (20 * l))
    let r := leAt c.body 4 20
    match recipeForm (r * ((256 ^ 140 - 1) / (256 ^ 20 - 1))) with
    | some st => refuse st 12 s
    | none => if mayWrite c.role id then
        (let st := putStage (s.stageOf c.sn) id v
         if stageFits st then okay 0 [] (s.setStage_ c.sn st) else refuse St.stageFull 0 s)
      else refuse St.classForbidden id s

/-! ## OWN_POLICY_RESET (R497) -/

/-- The parameters of the class integrator policy that stand away from their commissioned values. -/
def State.policyMoved (s : State) : List Nat :=
  (s.params.filter (fun e => (descOf e.1).elim false (fun d => d.cls == .policy && d.access == .rw))).map Prod.fst

/-- Every nozzle pin ends (R242). -/
def State.clearNozzlePins (s : State) : State :=
  s.each (List.range 16) (fun h s =>
    s.each ((s.ledger h).entries.filter (fun e => ePin e.2)) (fun e s => s.change [slotChange h e.1 (setBits (s.entry h e.1) 3 1 0) false false]))

/-- OWN_POLICY_RESET (R497): the roles with the right C or P on integrator policy; owner. -/
def effOwnPolicyReset : Effect := fun c s =>
  needLen c 0 s <|
  if c.role ≠ roleIntegrator ∧ c.role ≠ roleService then refuse St.classForbidden 0 s
  else needOwner c s <|
    let ids := s.policyMoved
    let new := s.each ids (fun id s => s.setPar id (resetVal id))
    let new := ({ new with pins := [] }).clearNozzlePins
    okay 0 [] (State.settle s ids new.nextCommit)

def execDevParamStage (t : Nat) (h : Hdr) (b : List Byte) (s : State) : Outcome State Fault Refusal :=
  .next (hostRow (.devParamStage t h b) 0x0102 t h b effDevParamStage s)

def execDevParamCommit (t : Nat) (h : Hdr) (b : List Byte) (s : State) : Outcome State Fault Refusal :=
  .next (hostRow (.devParamCommit t h b) 0x0103 t h b effDevParamCommit s)

def execDevParamWrite (t : Nat) (h : Hdr) (b : List Byte) (s : State) : Outcome State Fault Refusal :=
  .next (hostRow (.devParamWrite t h b) 0x0104 t h b effDevParamWrite s)

def execCompTableWrite (t : Nat) (h : Hdr) (b : List Byte) (s : State) : Outcome State Fault Refusal :=
  .next (hostRow (.compTableWrite t h b) 0x0803 t h b effCompTableWrite s)

def execHeadRecipeWrite (t : Nat) (h : Hdr) (b : List Byte) (s : State) : Outcome State Fault Refusal :=
  .next (hostRow (.headRecipeWrite t h b) 0x0B03 t h b effHeadRecipeWrite s)

def execOwnPolicyReset (t : Nat) (h : Hdr) (b : List Byte) (s : State) : Outcome State Fault Refusal :=
  .next (hostRow (.ownPolicyReset t h b) 0x0407 t h b effOwnPolicyReset s)

end Sys2Proof.Machine
end

