-- ==== Sys2Proof/Machine/Mgmt.lean ====
section
/-! DEFINITION. The management port, the mailboxes and the doorbells (19_management_port_and_mailboxes.md), and OWN.HOLDER as the
port writes it (R115, R118). -/
namespace Sys2Proof.Machine
open Host

/-! ## Mailboxes (R423-R427) -/

/-- Result bytes of a mailbox command. -/
abbrev mbOk : Nat := 0
abbrev mbFull : Nat := 1
abbrev mbEmpty : Nat := 2
abbrev mbNotPending : Nat := 3

/-- A mailbox of a direction: TM or TH. -/
def State.mailbox (s : State) (tm : Bool) (n : Nat) : Mailbox :=
  nth (if tm then s.mgmt.tm else s.mgmt.th) ⟨0, false, 0, 0, [], 0, false, false, false⟩ n

/-- Changes a mailbox. -/
def State.setMailbox (tm : Bool) (n : Nat) (m : Mailbox) (s : State) : State :=
  if tm then { s with mgmt := { s.mgmt with tm := modNth (fun _ => m) n s.mgmt.tm } }
  else { s with mgmt := { s.mgmt with th := modNth (fun _ => m) n s.mgmt.th } }

/-- A mailbox that is EMPTY again. -/
def Mailbox.emptied (m : Mailbox) : Mailbox := ⟨0, m.request, m.nextSeq, 0, [], 0, false, false, false⟩

/-- A post (R424), which takes the class of R423: the result byte and SEQ. -/
def State.postMail (tm : Bool) (n : Nat) (data : List Byte) (s : State) : State × Nat × Nat :=
  let m := s.mailbox tm n
  let cls := s.par (if tm then Par.mgmtClassTm else Par.mgmtClassTh)
  if m.state = 0 then
    (s.setMailbox tm n ⟨1, bitAt cls n, (m.nextSeq + 1) % 65536, m.nextSeq, data, 0, false, false, false⟩, mbOk, m.nextSeq)
  else (s, mbFull, 0)

/-- The *Message record* of a mailbox. -/
def Mailbox.message (m : Mailbox) : List Byte :=
  leBytes 2 m.seq ++ leBytes 1 m.data.length
    ++ leBytes 1 (bit m.preReset 0 + bit m.senderReset 1 + bit m.again 2 + bit m.request 3) ++ [0, 0, 0, 0]
    ++ (m.data ++ List.replicate 64 0).take 64

/-- A read (R425): the result byte, and the record of a message that is FULL or READ. -/
def State.readMail (tm : Bool) (n : Nat) (s : State) : State × Nat × List Byte :=
  let m := s.mailbox tm n
  if m.state = 1 ∨ m.state = 2 then
    (s.setMailbox tm n (if m.request then { m with state := 2, again := true } else m.emptied), mbOk, m.message)
  else (s, mbEmpty, [])

/-- An acknowledge (R425): the result byte. -/
def State.ackMail (tm : Bool) (n code : Nat) (s : State) : State × Nat :=
  let m := s.mailbox tm n
  if m.request ∧ (m.state = 1 ∨ m.state = 2) then (s.setMailbox tm n { m with state := 3, code := code }, mbOk)
  else (s, mbNotPending)

/-- The *Acknowledge record* of a mailbox. -/
def Mailbox.ackRecord (m : Mailbox) : List Byte :=
  leBytes 2 m.seq ++ leBytes 2 m.code ++ leBytes 1 (bit m.senderReset 0) ++ [0, 0, 0]

/-- A take of the acknowledge (R425); the result byte of a mailbox that is not ACKED is free (log entry 22). -/
def State.takeMailAck (tm : Bool) (n : Nat) (s : State) : State × Nat × List Byte :=
  let m := s.mailbox tm n
  if m.state = 3 then (s.setMailbox tm n m.emptied, mbOk, m.ackRecord)
  else (s, (Config.mgmtResult (1 + m.state)).toNat % 256, [])

/-- Sets doorbells (R428). -/
def State.ringBells (tm : Bool) (mask : Nat) (s : State) : State :=
  if tm then { s with mgmt := { s.mgmt with tmBells := s.mgmt.tmBells ||| mask } }
  else { s with mgmt := { s.mgmt with thBells := s.mgmt.thBells ||| mask } }

/-- Takes doorbells under a mask (R428): the bits set, which clear. -/
def State.takeBells (tm : Bool) (mask : Nat) (s : State) : State × Nat :=
  let b := if tm then s.mgmt.tmBells else s.mgmt.thBells
  let got := b &&& mask
  (if tm then { s with mgmt := { s.mgmt with tmBells := b - got } } else { s with mgmt := { s.mgmt with thBells := b - got } }, got)

/-- The attention conditions (R429): a TM mailbox FULL, a TM doorbell set, a TH acknowledge that waits. -/
def State.attnConds (s : State) : Nat :=
  bit (s.mgmt.tm.any (fun m => m.state == 1)) 0 + bit (s.mgmt.tmBells != 0) 1 + bit (s.mgmt.th.any (fun m => m.state == 3)) 2

/-- Whether MGMT_ATTN_N is driven low (R429). -/
def State.attnLow (s : State) : Bool := (s.attnConds &&& s.par Par.mgmtAttnMask) != 0

/-! ## Mailbox commands of hosts -/

/-- The reply of a mailbox command: result byte, three reserved bytes and the record or SEQ. -/
def mailReply (r : Nat) (b : List Byte) : List Byte := leBytes 1 r ++ [0, 0, 0] ++ b

/-- Opcode 0x1201: OP 0 posts into a TM mailbox, OP 1 acknowledges a TH mailbox. -/
def effMailboxWrite : Effect := fun c s =>
  let field := leAt c.body 0 1
  let op := leAt c.body 1 1
  let code := leAt c.body 2 2
  let len := leAt c.body 4 2
  if c.body.length < 8 then refuse St.badLength 8 s
  else if 32 ≤ field then refuse St.reservedNonzero 8 s
  else if 1 < op then refuse St.badEnum 9 s
  else if (op = 0) = (field < 16) then refuse St.valueRange 8 s
  else if op = 0 ∧ code ≠ 0 then refuse St.reservedNonzero 10 s
  else if (if op = 0 then len < 4 ∨ 64 < len ∨ len % 4 ≠ 0 else len ≠ 0) then refuse St.valueRange 12 s
  else needLen c (8 + len) s <| needZero c 6 2 s <|
    if op = 0 then
      let (s, r, seq) := s.postMail true (field % 16) (c.body.drop 8)
      okay 0 (mailReply r (if r = mbOk then leBytes 2 seq ++ [0, 0] else [])) s
    else
      let (s, r) := s.ackMail false (field % 16) code
      okay 0 (mailReply r []) s

/-- Opcode 0x1202: OP 0 reads a TH mailbox, OP 1 takes the acknowledge of a TM mailbox. -/
def effMailboxRead : Effect := fun c s =>
  needLen c 4 s <|
  let field := leAt c.body 0 1
  let op := leAt c.body 1 1
  if 32 ≤ field then refuse St.reservedNonzero 8 s
  else if 1 < op then refuse St.badEnum 9 s
  else if (op = 1) = (field < 16) then refuse St.valueRange 8 s
  else needZero c 2 2 s <|
    let (s, r, b) := if op = 0 then s.readMail false (field % 16) else s.takeMailAck true (field % 16)
    okay 0 (mailReply r b) s

/-- MGMT_DOORBELL (R428). -/
def effMgmtDoorbell : Effect := fun c s =>
  needLen c 8 s <|
  let (s, got) := (s.ringBells true (leAt c.body 0 4)).takeBells false (leAt c.body 4 4)
  okay 0 (leBytes 4 got) s

def execMgmtMailboxPost (t : Nat) (h : Hdr) (b : List Byte) (s : State) : Outcome State Fault Refusal :=
  .next (hostRow (.mgmtMailboxPost t h b) 0x1201 t h b effMailboxWrite s)

def execMgmtMailboxAcknowledge (t : Nat) (h : Hdr) (b : List Byte) (s : State) : Outcome State Fault Refusal :=
  .next (hostRow (.mgmtMailboxAcknowledge t h b) 0x1201 t h b effMailboxWrite s)

def execMgmtMailboxRead (t : Nat) (h : Hdr) (b : List Byte) (s : State) : Outcome State Fault Refusal :=
  .next (hostRow (.mgmtMailboxRead t h b) 0x1202 t h b effMailboxRead s)

def execMgmtAcknowledgeTake (t : Nat) (h : Hdr) (b : List Byte) (s : State) : Outcome State Fault Refusal :=
  .next (hostRow (.mgmtAcknowledgeTake t h b) 0x1202 t h b effMailboxRead s)

def execMgmtDoorbell (t : Nat) (h : Hdr) (b : List Byte) (s : State) : Outcome State Fault Refusal :=
  .next (hostRow (.mgmtDoorbell t h b) 0x1203 t h b effMgmtDoorbell s)

/-! ## SPI transactions (R420-R422) -/

/-- A CRC high byte first (R420). -/
def crcBytes (bs : List Byte) : List Byte := [BitVec.ofNat 8 (crc16 bs / 256), BitVec.ofNat 8 (crc16 bs)]

/-- A transaction's ADDR, LEN and DATA. -/
structure SpiTx where
  addr : Nat
  len : Nat
  data : List Byte
deriving DecidableEq, Repr

/-- The transaction that the bytes after CMD make (R420, R421): none where chip select rose early, LEN exceeds 512 or the CRC fails. -/
def spiTx (cmd : Nat) (write : Bool) (mosi : List Byte) : Option SpiTx :=
  let len := leAt mosi 4 2
  let n := 6 + (if write then len else 0)
  if 512 < len then none
  else if mosi.length < n + 2 + (if write then 0 else 12 + len) then none
  else if crcBytes (leBytes 1 cmd ++ mosi.take n) ≠ (mosi.drop n).take 2 then none
  else some ⟨leAt mosi 0 4, len, (mosi.drop 6).take (n - 6)⟩

/-- VLEN of a parameter that is listed. -/
def vlenOf (id : Nat) : Option Nat := if (idCheck id).isSome then none else (descOf id).map Desc.vlen

/-- LEN of a parameter transaction (R420): the parameter's VLEN. -/
def vlenRule (x : SpiTx) : Bool := (vlenOf x.addr).elim true (fun n => n == x.len)

/-- ADDR of a transaction that takes none. -/
def addr0 (len : Nat) (x : SpiTx) : Bool := x.addr == 0 && x.len == len

/-- ADDR that names a mailbox of a direction, and LEN. -/
def addrBox (tm : Bool) (len : Nat) (x : SpiTx) : Bool := x.addr / 16 == (if tm then 1 else 0) && x.len == len

/-- The commands of *SPI commands*, and whether each writes. -/
def spiCommand (cmd : Nat) : Option Bool :=
  if [0x02, 0x10, 0x12, 0x20, 0x30].contains cmd then some true
  else if [0x01, 0x05, 0x06, 0x11, 0x13, 0x21].contains cmd then some false
  else none

/-- Whether ADDR and LEN keep the rule of a command (*SPI commands*). -/
def spiRule (cmd : Nat) (x : SpiTx) : Bool :=
  match cmd with
  | 0x01 | 0x02 => vlenRule x
  | 0x05 | 0x20 | 0x21 => addr0 4 x
  | 0x06 => x.len % 32 == 0 && x.len != 0
  | 0x10 => addrBox false x.len x && 4 ≤ x.len && x.len ≤ 64 && x.len % 4 == 0
  | 0x11 => addrBox true 72 x
  | 0x12 => addrBox true 4 x
  | 0x13 => addrBox false 8 x
  | 0x30 => addr0 0 x
  | _ => false

/-- The *SPI status byte*. -/
def State.spiStatus (s : State) : Nat :=
  bit s.attnLow 0 + bit s.mgmt.lastErr 1 + bit (bitAt s.attnConds 0) 2 + bit (bitAt s.attnConds 1) 3 + bit (bitAt s.attnConds 2) 4
    + bit (s.own.holder == Ow.mgmtPort) 5

/-- A malformed transaction (R421): no action, LAST_ERR for the next, the count and EV100. -/
def State.spiMalformed (s : State) : State :=
  let s := s.emit (.spi (leBytes 1 s.spiStatus))
  ({ s with mgmt := { s.mgmt with lastErr := true } }.bump Par.mgmtProtocolErrors 1).raise Ev.mgmtProtocolError 0 []

/-- A transaction that is not malformed counts for the idle limit (R121, R421). -/
def State.spiActive (s : State) : State :=
  { s with own := { s.own with mgmtLast := s.now }, mgmt := { s.mgmt with lastErr := false } }

/-- A write transaction (R421, R422), none while the management island resynchronises (R28): its action answers the status and the result byte that RESULT returns. -/
def spiWrite (cmd t : Nat) (mosi : List Byte) (act : SpiTx → State → State × Nat × Nat) (s : State) : State :=
  let s := s.at_ t
  if s.holding 15 then s
  else match spiTx cmd true mosi with
  | none => s.spiMalformed
  | some x =>
    if !spiRule cmd x then s.spiMalformed
    else
      let s := s.emit (.spi (leBytes 1 s.spiStatus))
      let (s, st, r) := act x s.spiActive
      { s with mgmt := { s.mgmt with resStatus := st, resByte := r } }

/-- A read transaction (R420, R422): its action answers RSTATUS and RDATA, which reads zero past its end and for a status other
than OK. -/
def spiRead (cmd t : Nat) (mosi : List Byte) (act : SpiTx → State → State × Nat × List Byte) (s : State) : State :=
  let s := s.at_ t
  if s.holding 15 then s
  else match spiTx cmd false mosi with
  | none => s.spiMalformed
  | some x =>
    if !spiRule cmd x then s.spiMalformed
    else
      let first := leBytes 1 s.spiStatus
      let (s, st, b) := act x s.spiActive
      let r := leBytes 2 st ++ ((if st = St.ok then b else []) ++ List.replicate x.len 0).take x.len
      s.emit (.spi (first ++ r ++ crcBytes r))

/-! ## Parameters and the log as the port sees them (R115, R118, R131) -/

/-- RSTATUS of a parameter read by the port (R131). -/
def mgmtReadStatus (id : Nat) : Nat :=
  match idCheck id with
  | some st => st
  | none =>
    match (descOf id).elim .oper Desc.cls with
    | .oper | .identity => St.ok
    | .log => if inSummary id then St.ok else St.classForbidden
    | _ => St.classForbidden

/-- Classes whose arguments the port learns in a log entry (R131, R503). -/
def mgmtLearns (c : Cls) : Bool := c == .oper || c == .identity || c == .log

/-- OWN.HOLDER as the port writes it (R117, R118, transitions 0x02 and 0x03). -/
def State.mgmtHolder (v : Nat) (s : State) : State × Nat :=
  if v = 0 then
    if s.own.holder = Ow.mgmtPort then (s.vacate.ownerChanged Ow.mgmtPort 0 0x03, St.ok) else (s, St.ok)
  else if s.par Par.ownMgmtClaim = 0 then (s, (Config.mgmtResult 0).toNat)
  else if s.own.state = Ow.vacant then
    let s := { s with own := { s.own with state := Ow.owned, holder := Ow.mgmtPort, leaseEnd := 0 } }
    (s.ownerChanged 0 Ow.mgmtPort 0x02, St.ok)
  else (s, St.claimLost)

/-- A parameter write of the port: a one-entry commit (R99) with the Operator's change rights over operating parameters (R115). -/
def State.mgmtWrite (id v : Nat) (s : State) : State × Nat :=
  if id = Par.ownHolder then s.mgmtHolder v
  else
    let st := stageStatus roleOperator ⟨id, (vlenOf id).getD 0, 0, v⟩
    if st ≠ St.staged then (s, st)
    else if (descOf id).elim true (fun d => d.cls != .oper) then (s, St.classForbidden)
    else if s.own.holder ≠ Ow.mgmtPort then (s, St.notOwner)
    else if !(s.refusals Ow.mgmtPort [⟨id, v⟩]).isEmpty then (s, St.unitsRefused)
    else (s.applyStage Ow.mgmtPort [⟨id, v⟩], St.ok)

/-- READ_PARAM. -/
def execReadParam (t : Nat) (mosi : List Byte) (s : State) : Outcome State Fault Refusal :=
  .next (spiRead 0x01 t mosi
    (fun x s => (s, mgmtReadStatus x.addr, leBytes x.len (s.readParam Ow.mgmtPort x.addr))) s)

/-- WRITE_PARAM (R115, R118). -/
def execWriteParam (t : Nat) (mosi : List Byte) (s : State) : Outcome State Fault Refusal :=
  .next (spiWrite 0x02 t mosi (fun x s => let (s, st) := s.mgmtWrite x.addr (leNat x.data); (s, st, mbOk)) s)

/-- The bytes after CMD of a write transaction. -/
def writeBytes (cmd addr : Nat) (data : List Byte) : List Byte :=
  let m := leBytes 4 addr ++ leBytes 2 data.length ++ data
  m ++ crcBytes (leBytes 1 cmd ++ m)

/-- A WRITE_PARAM of OWN.HOLDER. -/
def State.writeHolder (t v : Nat) (s : State) : State :=
  spiWrite 0x02 t (writeBytes 0x02 Par.ownHolder (leBytes ((vlenOf Par.ownHolder).getD 0) v))
    (fun x s => let (s, st) := s.mgmtHolder (leNat x.data); (s, st, mbOk)) s

/-- MGMT_HOLDER_CLAIM: a write of OWN.HOLDER with the value given, which claims when it is not zero. -/
def execMgmtHolderClaim (t value : Nat) (s : State) : Outcome State Fault Refusal := .next (s.writeHolder t value)

/-- MGMT_HOLDER_RELEASE: a write of 0 to OWN.HOLDER. -/
def execMgmtHolderRelease (t : Nat) (s : State) : Outcome State Fault Refusal := .next (s.writeHolder t 0)

/-- RESULT. -/
def execResult (t : Nat) (mosi : List Byte) (s : State) : Outcome State Fault Refusal :=
  .next (spiRead 0x05 t mosi (fun _ s => (s, St.ok, leBytes 2 s.mgmt.resStatus ++ leBytes 1 s.mgmt.resByte ++ [0])) s)

/-- LOG_READ (R412, R413). -/
def execLogRead (t : Nat) (mosi : List Byte) (s : State) : Outcome State Fault Refusal :=
  .next (spiRead 0x06 t mosi
    (fun x s => (s, St.ok, (takeLog mgmtLearns (x.len / 32) (s.logFrom x.addr)).1.flatMap LogEntry.bytes)) s)

/-- MBOX_POST (R424). -/
def execMboxPost (t : Nat) (mosi : List Byte) (s : State) : Outcome State Fault Refusal :=
  .next (spiWrite 0x10 t mosi
    (fun x s => let (s, r, _) := s.postMail false (x.addr % 16) x.data; (s, St.ok, r)) s)

/-- MBOX_READ (R425). -/
def execMboxRead (t : Nat) (mosi : List Byte) (s : State) : Outcome State Fault Refusal :=
  .next (spiRead 0x11 t mosi (fun x s => let (s, _, b) := s.readMail true (x.addr % 16); (s, St.ok, b)) s)

/-- MBOX_ACK (R425). -/
def execMboxAck (t : Nat) (mosi : List Byte) (s : State) : Outcome State Fault Refusal :=
  .next (spiWrite 0x12 t mosi
    (fun x s => let (s, r) := s.ackMail true (x.addr % 16) (leAt x.data 0 2); (s, St.ok, r)) s)

/-- ACK_READ (R425). -/
def execAckRead (t : Nat) (mosi : List Byte) (s : State) : Outcome State Fault Refusal :=
  .next (spiRead 0x13 t mosi (fun x s => let (s, _, b) := s.takeMailAck false (x.addr % 16); (s, St.ok, b)) s)

/-- BELL_RING (R428). -/
def execBellRing (t : Nat) (mosi : List Byte) (s : State) : Outcome State Fault Refusal :=
  .next (spiWrite 0x20 t mosi (fun x s => (s.ringBells false (leNat x.data), St.ok, mbOk)) s)

/-- BELL_TAKE (R428). -/
def execBellTake (t : Nat) (mosi : List Byte) (s : State) : Outcome State Fault Refusal :=
  .next (spiRead 0x21 t mosi (fun _ s => let (s, b) := s.takeBells true 0xFFFFFFFF; (s, St.ok, leBytes 4 b)) s)

/-- The management side is reset (R427). -/
def State.mgmtSideReset (s : State) : State :=
  { s with mgmt := { s.mgmt with
      th := s.mgmt.th.map (Mailbox.sideReset true)
      tm := s.mgmt.tm.map (Mailbox.sideReset false) } }.bump Par.mgmtSideResets 1

/-- SIDE_RESET (R427). -/
def execSideReset (t : Nat) (mosi : List Byte) (s : State) : Outcome State Fault Refusal :=
  .next (spiWrite 0x30 t mosi (fun _ s => (s.mgmtSideReset, St.ok, mbOk)) s)

/-- MALFORMED_TRANSACTION (R421): the bytes from CMD on spell an unlisted CMD, break its rule of ADDR and LEN or fail the CRC, or chip
select rose early; nothing while the management island resynchronises (R28). -/
def execMalformedTransaction (t : Nat) (mosi : List Byte) (s : State) : Outcome State Fault Refusal :=
  let s := s.at_ t
  let cmd := leAt mosi 0 1
  match ((spiCommand cmd).bind (fun w => spiTx cmd w (mosi.drop 1))).filter (spiRule cmd) with
  | some _ => .next s
  | none => .next (if s.holding 15 then s else s.spiMalformed)

end Sys2Proof.Machine
end

