-- ==== Sys2Proof/Machine/Record.lean ====
section
/-! DEFINITION. Completion records (R184-R186): their ranges, PRINTED, their bytes and SPOOL_RECORD_READ. -/
namespace Sys2Proof.Machine
open Host

/-- A range entry before its layout: first line, count, heads, cause, kind and column. -/
structure RangeOut where
  first : Nat
  count : Nat
  heads : Nat
  cause : Nat
  kind : Nat
  column : Nat
deriving DecidableEq, Repr

/-- Joins ranges that differ in their head alone. -/
def joinRange (r : Range) : List RangeOut → List RangeOut
  | [] => [⟨r.first, r.count, 2 ^ r.head, r.cause, r.kind, r.column⟩]
  | o :: os =>
    if o.first = r.first ∧ o.count = r.count ∧ o.cause = r.cause ∧ o.kind = r.kind ∧ o.column = r.column then
      { o with heads := o.heads ||| 2 ^ r.head } :: os
    else o :: joinRange r os

/-- The ranges of a record in order of FIRST and then of HEADS (R184). -/
def Seg.rangesOut (g : Seg) : List RangeOut :=
  sortBy (fun (o : RangeOut) => o.first * 65536 + o.heads) (g.ranges.foldl (fun acc r => joinRange r acc) [])

/-- The entries of a record: at most 64, the last covering the rest (R184). -/
def coverRanges (rs : List RangeOut) : List RangeOut :=
  if rs.length ≤ 64 then rs
  else
    match rs.drop 63 with
    | [] => rs
    | f :: rest =>
      let last := (rest.getLast?).getD f
      let stop := last.first + last.count
      rs.take 63 ++ [⟨f.first, stop - f.first, rest.foldl (fun m o => m ||| o.heads) f.heads, f.cause, f.kind, 0⟩]

/-- PRINTED of a segment's record so far (R184, R186): the lines whose boundary has passed on every used head, whose firing messages are
all acknowledged, and which lie in no range that breaks the promise. -/
def State.printedSoFar (s : State) (g : Seg) : Nat :=
  ((List.range g.linesFinished).filter (fun i => !g.lineBroken i && !g.headList.any (fun h => s.awaitedLine g.handle h i))).length

/-- The bytes of a completion record (R184). -/
def State.recordBytes (s : State) (g : Seg) : List Byte :=
  let rs := g.rangesOut
  let more := decide (64 < rs.length)
  let out := coverRanges rs
  let printed := if g.byReset then (Config.restored g.handle 6).toNat % 2 ^ 32 else if g.state = Sg.cancelled then 0
    else if g.state = Sg.complete ∨ g.state = Sg.broken ∨ g.state = Sg.retained then g.printed
    else s.printedSoFar g
  leBytes 8 g.handle ++ leBytes 8 g.job ++ leBytes 1 g.state ++ leBytes 1 (g.flags + bit more 5 + bit g.byReset 6)
    ++ leBytes 2 g.heads ++ leBytes 4 g.lines ++ leBytes 8 (twos 64 g.p0) ++ leBytes 8 g.tAccept ++ leBytes 8 g.tFirst
    ++ leBytes 8 g.tLast ++ leBytes 4 printed ++ leBytes 1 out.length ++ [0, 0, 0]
    ++ out.flatMap (fun o => leBytes 4 o.first ++ leBytes 4 o.count ++ leBytes 2 o.heads ++ leBytes 1 o.cause ++ leBytes 1 o.kind
      ++ leBytes 2 o.column ++ [0, 0])

/-- SPOOL_RECORD_READ (R184, R185). -/
def effSpoolRecordRead : Effect := fun c s =>
  needLen c 8 s <|
  let h := leAt c.body 0 8
  let kept := (s.spool.records.reverse.find? (fun r => r.seg.handle == h)).map Record.seg
  let live := (s.seg h).filter (fun g => g.state != Sg.retained)
  match live.orElse (fun _ => kept) with
  | none => refuse St.unknownHandle 0 s
  | some g => needLearn c .spool s <| okay 0 (s.recordBytes g) s

def execSpoolRecordRead (t : Nat) (h : Hdr) (b : List Byte) (s : State) : Outcome State Fault Refusal :=
  .next (hostRow (.spoolRecordRead t h b) 0x0507 t h b effSpoolRecordRead s)

end Sys2Proof.Machine
end

