-- ==== Sys2Proof/Machine/Fence.lean ====
section
/-! DEFINITION. Commands that waited: for their turn (R86), for the restart of the command pair (R12, R13), or for a firmware
switch (R454, R455). -/
namespace Sys2Proof.Machine
open Host

/-- A host command by its row: opcode, header, body and effect; none for a row that is no host command. -/
def hostCmd (i : Instr) : Option (Nat × Hdr × List Byte × Effect) :=
  match i with
  | .calRun _ h b devs => some (0x1401, h, b, (effCalRun devs))
  | .calVerify _ h b devs => some (0x1402, h, b, (effCalVerify devs))
  | .calHoldupTest _ h b mv => some (0x1403, h, b, (effCalHoldupTest mv))
  | .camStatus _ h b => some (0x0D01, h, b, effCamStatus)
  | .camRegRead _ h b => some (0x0D02, h, b, effCamRegAccess)
  | .camRegWrite _ h b => some (0x0D02, h, b, effCamRegAccess)
  | .camStatsRead _ h b => some (0x0D03, h, b, effCamStatsRead)
  | .devParamStage _ h b => some (0x0102, h, b, effDevParamStage)
  | .devParamCommit _ h b => some (0x0103, h, b, effDevParamCommit)
  | .devParamWrite _ h b => some (0x0104, h, b, effDevParamWrite)
  | .compTableWrite _ h b => some (0x0803, h, b, effCompTableWrite)
  | .headRecipeWrite _ h b => some (0x0B03, h, b, effHeadRecipeWrite)
  | .ownPolicyReset _ h b => some (0x0407, h, b, effOwnPolicyReset)
  | .compLedgerRead _ h b => some (0x0801, h, b, effCompLedgerRead)
  | .compNozzleSet _ h b => some (0x0802, h, b, effCompNozzleSet)
  | .compChartQueue _ h b => some (0x0804, h, b, effCompChartQueue)
  | .dramStatus _ h b => some (0x0601, h, b, effDramStatus)
  | .dramErrorRead _ h b => some (0x0602, h, b, effDramErrorRead)
  | .causeStatus _ h b => some (0x0F01, h, b, effCauseStatus)
  | .causeEnumerate _ h b => some (0x0F02, h, b, effCauseEnumerate)
  | .causeMemberList _ h b => some (0x0F03, h, b, effCauseMemberList)
  | .fireStatus _ h b => some (0x0A01, h, b, effFireStatus)
  | .fresyPortStatus _ h b => some (0x0301, h, b, effFresyPortStatus)
  | .fresySessionList _ h b => some (0x0302, h, b, effFresySessionList)
  | .headMemoryRead _ h b => some (0x0B01, h, b, effHeadMemoryRead)
  | .headPower _ h b => some (0x0B02, h, b, effHeadPower)
  | .headReauth _ h b => some (0x0B04, h, b, effHeadReauth)
  | .inspStatsRead _ h b => some (0x0E01, h, b, effInspStatsRead)
  | .inspImageRequest _ h b => some (0x0E02, h, b, effInspImageRequest)
  | .inspCoverageRead _ h b => some (0x0E03, h, b, effInspCoverageRead)
  | .inspChartMeasure _ h b => some (0x0E04, h, b, effInspChartMeasure)
  | .laneStatus _ h b => some (0x0C01, h, b, effLaneStatus)
  | .laneRetrain _ h b => some (0x0C02, h, b, effLaneRetrain)
  | .laneLoopback _ h b => some (0x0C03, h, b, effLaneLoopback)
  | .compAlignApply _ h b => some (0x0805, h, b, effCompAlignApply)
  | .mgmtMailboxPost _ h b => some (0x1201, h, b, effMailboxWrite)
  | .mgmtMailboxAcknowledge _ h b => some (0x1201, h, b, effMailboxWrite)
  | .mgmtMailboxRead _ h b => some (0x1202, h, b, effMailboxRead)
  | .mgmtAcknowledgeTake _ h b => some (0x1202, h, b, effMailboxRead)
  | .mgmtDoorbell _ h b => some (0x1203, h, b, effMgmtDoorbell)
  | .ownClaim _ h b => some (0x0401, h, b, effOwnClaim)
  | .ownRelease _ h b => some (0x0402, h, b, effOwnRelease)
  | .ownLeaseRenew _ h b => some (0x0403, h, b, effOwnLeaseRenew)
  | .ownHandoverOffer _ h b => some (0x0404, h, b, effOwnHandoverOffer)
  | .ownHandoverAccept _ h b => some (0x0405, h, b, effOwnHandoverAccept)
  | .ownUnpin _ h b => some (0x0406, h, b, effOwnUnpin)
  | .ownPinList _ h b => some (0x0408, h, b, effOwnPinList)
  | .packCompress _ h b => some (0x1001, h, b, effPackSubmit)
  | .packDecompress _ h b => some (0x1001, h, b, effPackSubmit)
  | .packAbort _ h b => some (0x1002, h, b, effPackAbort)
  | .evtSubscribe _ h b => some (0x1101, h, b, effEvtSubscribe)
  | .evtLogRead _ h b => some (0x1102, h, b, effEvtLogRead)
  | .evtClear _ h b => some (0x1103, h, b, effEvtClear)
  | .evtLogExport _ h b => some (0x1104, h, b, effEvtLogExport)
  | .devParamRead _ h b => some (0x0101, h, b, effDevParamRead)
  | .devStageClear _ h b => some (0x0105, h, b, effDevStageClear)
  | .devStageRead _ h b => some (0x0106, h, b, effDevStageRead)
  | .devResultRead _ h b => some (0x0107, h, b, effDevResultRead)
  | .devResultRelease _ h b => some (0x0108, h, b, effDevResultRelease)
  | .devStatus _ h b => some (0x0109, h, b, effDevStatus)
  | .devEcho _ h b => some (0x010A, h, b, effDevEcho)
  | .posStatus _ h b => some (0x0901, h, b, effPosStatus)
  | .posChannelSelect _ h b => some (0x0902, h, b, effPosChannelSelect)
  | .posRejectTest _ h b => some (0x0903, h, b, effPosRejectTest)
  | .powerStatus _ h b => some (0x1301, h, b, effPowerStatus)
  | .powerFwStage _ h b length image => some (0x1302, h, b, (effPowerFwStage length image))
  | .powerFwSwitch _ h b => some (0x1303, h, b, effPowerFwSwitch)
  | .powerRestartReport _ h b => some (0x1304, h, b, effPowerRestartReport)
  | .spoolRecordRead _ h b => some (0x0507, h, b, effSpoolRecordRead)
  | .shellJobKeyLoad _ h b key => some (0x0201, h, b, effShellJobKeyLoad)
  | .shellJobKeyDrop _ h b => some (0x0202, h, b, effShellJobKeyDrop)
  | .shellRekey _ h b => some (0x0203, h, b, effShellRekey)
  | .shellCommissionBurn _ h b digest => some (0x0204, h, b, effShellCommission)
  | .shellCommissionRevoke _ h b => some (0x0204, h, b, effShellCommission)
  | .shellCertRead _ h b offset count => some (0x0205, h, b, (effShellCertRead offset count))
  | .shellAttest _ h b => some (0x0206, h, b, effShellAttest)
  | .spoolSegOpen _ h b => some (0x0501, h, b, effSpoolSegOpen)
  | .spoolSegData _ h b husk => some (0x0502, h, b, (effSpoolSegData husk))
  | .spoolSegClose _ h b => some (0x0503, h, b, effSpoolSegClose)
  | .spoolSegCancel _ h b => some (0x0504, h, b, effSpoolSegCancel)
  | .spoolSegStatus _ h b => some (0x0506, h, b, effSpoolSegStatus)
  | .spoolRepeat _ h b => some (0x0508, h, b, effSpoolRepeat)
  | .spoolAccountRead _ h b => some (0x0509, h, b, effSpoolAccountRead)
  | .decodeStatus _ h b => some (0x0701, h, b, effDecodeStatus)
  | .testBist _ h b failed => some (0x1501, h, b, (effTestBist failed))
  | .testCapture _ h b => some (0x1502, h, b, effTestCapture)
  | .spoolGroupArm _ h b => some (0x0505, h, b, effSpoolGroupArm)
  | _ => none

/-- Starts a command that waits once its turn has come (R86): its effect, or the refusal of an unlisted opcode (R110). -/
def State.startWaiting (cid : Nat) (s : State) : State :=
  match s.flight cid with
  | none => s
  | some f =>
    match f.wait.bind hostCmd with
    | none => s.refuseUnknown cid
    | some (_, _, _, eff) => if s.mustWait f || s.cmdHeld then s else s.startCmd cid eff

/-- What arrived while the command pair took nothing is met in its order (R13): the frames give back their blocks. -/
def State.unpark (p : Parked) (s : State) : State :=
  match p with
  | .frame n h => s.takePayload n h
  | .row _ i => match hostCmd i with
    | some (op, h, b, eff) => s.hostArrive i op h b eff
    | none => s

/-- The command pair takes packets again (R13, R454); the latency maxima have grown by the time that it took none (R51, R455). -/
def State.releaseHeld (grown : Nat) (s : State) : State :=
  let waiting := s.parked
  let s := { s with parked := [], flights := s.flights.map (fun (f : Flight) => { f with extra := f.extra + grown }) }
  s.repliesResume.each waiting State.unpark

/-- FENCED_COMMAND_START (R86): a waiting command starts once its turn has come. -/
def execFencedCommandStart (t cid : Nat) (s : State) : Outcome State Fault Refusal := .next ((s.at_ t).pendingDue.startWaiting cid)

/-- CORE_RESTART_COMPLETE (R12-R14): the pair resumes, and the command pair processes the packets held. -/
def execCoreRestartComplete (t pair : Nat) (s : State) : Outcome State Fault Refusal :=
  let s := s.at_ t
  if 2 ≤ pair ∨ (s.pair pair).restart.isNone then .next s
  else
    let s := s.modPair pair (fun x => { x with restart := none })
    .next (s.when (pair == 0) (State.releaseHeld 50000000))

/-- FW_SWITCH_COMPLETE (R455): the switch ends, and the packets held are processed. -/
def execFwSwitchComplete (t : Nat) (good : Bool) (s : State) : Outcome State Fault Refusal :=
  let s := s.at_ t
  if s.power.switching.isNone then .next s else .next ((s.switched good).releaseHeld (if good then 250000000 else 450000000))

end Sys2Proof.Machine
end

