-- ==== Sys2Proof/Machine/Dispatch.lean ====
section
/-! DEFINITION. What each command does: one arm per constructor, each one direct call of its meaning. -/
namespace Sys2Proof.Machine
open Host

def exec (i : Instr) (s : State) : Host.Outcome State Fault Refusal :=
  match i with
  | .devParamRead t h b => Sys2Proof.Machine.execDevParamRead t h b s
  | .devParamStage t h b => Sys2Proof.Machine.execDevParamStage t h b s
  | .devParamCommit t h b => Sys2Proof.Machine.execDevParamCommit t h b s
  | .devParamWrite t h b => Sys2Proof.Machine.execDevParamWrite t h b s
  | .devStageClear t h b => Sys2Proof.Machine.execDevStageClear t h b s
  | .devStageRead t h b => Sys2Proof.Machine.execDevStageRead t h b s
  | .devResultRead t h b => Sys2Proof.Machine.execDevResultRead t h b s
  | .devResultRelease t h b => Sys2Proof.Machine.execDevResultRelease t h b s
  | .devStatus t h b => Sys2Proof.Machine.execDevStatus t h b s
  | .devEcho t h b => Sys2Proof.Machine.execDevEcho t h b s
  | .shellJobKeyLoad t h b key => Sys2Proof.Machine.execShellJobKeyLoad t h b key s
  | .shellJobKeyDrop t h b => Sys2Proof.Machine.execShellJobKeyDrop t h b s
  | .shellRekey t h b => Sys2Proof.Machine.execShellRekey t h b s
  | .shellCommissionBurn t h b digest => Sys2Proof.Machine.execShellCommissionBurn t h b digest s
  | .shellCommissionRevoke t h b => Sys2Proof.Machine.execShellCommissionRevoke t h b s
  | .shellCertRead t h b offset count => Sys2Proof.Machine.execShellCertRead t h b offset count s
  | .shellAttest t h b => Sys2Proof.Machine.execShellAttest t h b s
  | .fresyPortStatus t h b => Sys2Proof.Machine.execFresyPortStatus t h b s
  | .fresySessionList t h b => Sys2Proof.Machine.execFresySessionList t h b s
  | .ownClaim t h b => Sys2Proof.Machine.execOwnClaim t h b s
  | .ownRelease t h b => Sys2Proof.Machine.execOwnRelease t h b s
  | .ownLeaseRenew t h b => Sys2Proof.Machine.execOwnLeaseRenew t h b s
  | .ownHandoverOffer t h b => Sys2Proof.Machine.execOwnHandoverOffer t h b s
  | .ownHandoverAccept t h b => Sys2Proof.Machine.execOwnHandoverAccept t h b s
  | .ownUnpin t h b => Sys2Proof.Machine.execOwnUnpin t h b s
  | .ownPolicyReset t h b => Sys2Proof.Machine.execOwnPolicyReset t h b s
  | .ownPinList t h b => Sys2Proof.Machine.execOwnPinList t h b s
  | .spoolSegOpen t h b => Sys2Proof.Machine.execSpoolSegOpen t h b s
  | .spoolSegData t h b husk => Sys2Proof.Machine.execSpoolSegData t h b husk s
  | .spoolSegClose t h b => Sys2Proof.Machine.execSpoolSegClose t h b s
  | .spoolSegCancel t h b => Sys2Proof.Machine.execSpoolSegCancel t h b s
  | .spoolGroupArm t h b => Sys2Proof.Machine.execSpoolGroupArm t h b s
  | .spoolSegStatus t h b => Sys2Proof.Machine.execSpoolSegStatus t h b s
  | .spoolRecordRead t h b => Sys2Proof.Machine.execSpoolRecordRead t h b s
  | .spoolRepeat t h b => Sys2Proof.Machine.execSpoolRepeat t h b s
  | .spoolAccountRead t h b => Sys2Proof.Machine.execSpoolAccountRead t h b s
  | .dramStatus t h b => Sys2Proof.Machine.execDramStatus t h b s
  | .dramErrorRead t h b => Sys2Proof.Machine.execDramErrorRead t h b s
  | .decodeStatus t h b => Sys2Proof.Machine.execDecodeStatus t h b s
  | .compLedgerRead t h b => Sys2Proof.Machine.execCompLedgerRead t h b s
  | .compNozzleSet t h b => Sys2Proof.Machine.execCompNozzleSet t h b s
  | .compTableWrite t h b => Sys2Proof.Machine.execCompTableWrite t h b s
  | .compChartQueue t h b => Sys2Proof.Machine.execCompChartQueue t h b s
  | .compAlignApply t h b => Sys2Proof.Machine.execCompAlignApply t h b s
  | .posStatus t h b => Sys2Proof.Machine.execPosStatus t h b s
  | .posChannelSelect t h b => Sys2Proof.Machine.execPosChannelSelect t h b s
  | .posRejectTest t h b => Sys2Proof.Machine.execPosRejectTest t h b s
  | .fireStatus t h b => Sys2Proof.Machine.execFireStatus t h b s
  | .headMemoryRead t h b => Sys2Proof.Machine.execHeadMemoryRead t h b s
  | .headPower t h b => Sys2Proof.Machine.execHeadPower t h b s
  | .headRecipeWrite t h b => Sys2Proof.Machine.execHeadRecipeWrite t h b s
  | .headReauth t h b => Sys2Proof.Machine.execHeadReauth t h b s
  | .laneStatus t h b => Sys2Proof.Machine.execLaneStatus t h b s
  | .laneRetrain t h b => Sys2Proof.Machine.execLaneRetrain t h b s
  | .laneLoopback t h b => Sys2Proof.Machine.execLaneLoopback t h b s
  | .camStatus t h b => Sys2Proof.Machine.execCamStatus t h b s
  | .camRegRead t h b => Sys2Proof.Machine.execCamRegRead t h b s
  | .camRegWrite t h b => Sys2Proof.Machine.execCamRegWrite t h b s
  | .camStatsRead t h b => Sys2Proof.Machine.execCamStatsRead t h b s
  | .inspStatsRead t h b => Sys2Proof.Machine.execInspStatsRead t h b s
  | .inspImageRequest t h b => Sys2Proof.Machine.execInspImageRequest t h b s
  | .inspCoverageRead t h b => Sys2Proof.Machine.execInspCoverageRead t h b s
  | .inspChartMeasure t h b => Sys2Proof.Machine.execInspChartMeasure t h b s
  | .causeStatus t h b => Sys2Proof.Machine.execCauseStatus t h b s
  | .causeEnumerate t h b => Sys2Proof.Machine.execCauseEnumerate t h b s
  | .causeMemberList t h b => Sys2Proof.Machine.execCauseMemberList t h b s
  | .packCompress t h b => Sys2Proof.Machine.execPackCompress t h b s
  | .packDecompress t h b => Sys2Proof.Machine.execPackDecompress t h b s
  | .packAbort t h b => Sys2Proof.Machine.execPackAbort t h b s
  | .evtSubscribe t h b => Sys2Proof.Machine.execEvtSubscribe t h b s
  | .evtLogRead t h b => Sys2Proof.Machine.execEvtLogRead t h b s
  | .evtClear t h b => Sys2Proof.Machine.execEvtClear t h b s
  | .evtLogExport t h b => Sys2Proof.Machine.execEvtLogExport t h b s
  | .mgmtMailboxPost t h b => Sys2Proof.Machine.execMgmtMailboxPost t h b s
  | .mgmtMailboxAcknowledge t h b => Sys2Proof.Machine.execMgmtMailboxAcknowledge t h b s
  | .mgmtMailboxRead t h b => Sys2Proof.Machine.execMgmtMailboxRead t h b s
  | .mgmtAcknowledgeTake t h b => Sys2Proof.Machine.execMgmtAcknowledgeTake t h b s
  | .mgmtDoorbell t h b => Sys2Proof.Machine.execMgmtDoorbell t h b s
  | .powerStatus t h b => Sys2Proof.Machine.execPowerStatus t h b s
  | .powerFwStage t h b length image => Sys2Proof.Machine.execPowerFwStage t h b length image s
  | .powerFwSwitch t h b => Sys2Proof.Machine.execPowerFwSwitch t h b s
  | .powerRestartReport t h b => Sys2Proof.Machine.execPowerRestartReport t h b s
  | .calRun t h b devs => Sys2Proof.Machine.execCalRun t h b devs s
  | .calVerify t h b devs => Sys2Proof.Machine.execCalVerify t h b devs s
  | .calHoldupTest t h b mv => Sys2Proof.Machine.execCalHoldupTest t h b mv s
  | .testBist t h b failed => Sys2Proof.Machine.execTestBist t h b failed s
  | .testCapture t h b => Sys2Proof.Machine.execTestCapture t h b s
  | .utcFloorWrite t session value => Sys2Proof.Machine.execUtcFloorWrite t session value s
  | .svnCommitWrite t session value => Sys2Proof.Machine.execSvnCommitWrite t session value s
  | .readParam t mosi => Sys2Proof.Machine.execReadParam t mosi s
  | .writeParam t mosi => Sys2Proof.Machine.execWriteParam t mosi s
  | .mgmtHolderClaim t value => Sys2Proof.Machine.execMgmtHolderClaim t value s
  | .mgmtHolderRelease t => Sys2Proof.Machine.execMgmtHolderRelease t s
  | .result t mosi => Sys2Proof.Machine.execResult t mosi s
  | .logRead t mosi => Sys2Proof.Machine.execLogRead t mosi s
  | .mboxPost t mosi => Sys2Proof.Machine.execMboxPost t mosi s
  | .mboxRead t mosi => Sys2Proof.Machine.execMboxRead t mosi s
  | .mboxAck t mosi => Sys2Proof.Machine.execMboxAck t mosi s
  | .ackRead t mosi => Sys2Proof.Machine.execAckRead t mosi s
  | .bellRing t mosi => Sys2Proof.Machine.execBellRing t mosi s
  | .bellTake t mosi => Sys2Proof.Machine.execBellTake t mosi s
  | .sideReset t mosi => Sys2Proof.Machine.execSideReset t mosi s
  | .hello t f payload chain role ports => Sys2Proof.Machine.execHello t f payload chain role ports s
  | .prove t f payload sigOk => Sys2Proof.Machine.execProve t f payload sigOk s
  | .handshakeAbandon t src id => Sys2Proof.Machine.execHandshakeAbandon t src id s
  | .data t f payload => Sys2Proof.Machine.execData t f payload s
  | .ack t f => Sys2Proof.Machine.execAck t f s
  | .close t c => Sys2Proof.Machine.execClose t c s
  | .fencedCommandStart t cid => Sys2Proof.Machine.execFencedCommandStart t cid s
  | .retransmitTimer t session seq => Sys2Proof.Machine.execRetransmitTimer t session seq s
  | .fresyLockLoss t port => Sys2Proof.Machine.execFresyLockLoss t port s
  | .portSilenceExpiry t port => Sys2Proof.Machine.execPortSilenceExpiry t port s
  | .fresyPortRejoin t port => Sys2Proof.Machine.execFresyPortRejoin t port s
  | .rideThroughExpiry t session => Sys2Proof.Machine.execRideThroughExpiry t session s
  | .keepaliveExpiry t session port => Sys2Proof.Machine.execKeepaliveExpiry t session port s
  | .epochWindowEnd t session receive => Sys2Proof.Machine.execEpochWindowEnd t session receive s
  | .deferredRekeyStart t session => Sys2Proof.Machine.execDeferredRekeyStart t session s
  | .creditGrant t session => Sys2Proof.Machine.execCreditGrant t session s
  | .idleLimitExpiry t session => Sys2Proof.Machine.execIdleLimitExpiry t session s
  | .resultRetentionExpiry t session tag => Sys2Proof.Machine.execResultRetentionExpiry t session tag s
  | .eventFrameSend t session => Sys2Proof.Machine.execEventFrameSend t session s
  | .leaseEnd t => Sys2Proof.Machine.execLeaseEnd t s
  | .handoverWindowEnd t => Sys2Proof.Machine.execHandoverWindowEnd t s
  | .mgmtIdleExpiry t => Sys2Proof.Machine.execMgmtIdleExpiry t s
  | .lockstepMismatch t pair cuts => Sys2Proof.Machine.execLockstepMismatch t pair cuts s
  | .coreRestartComplete t pair => Sys2Proof.Machine.execCoreRestartComplete t pair s
  | .coreRestartTimeout t pair => Sys2Proof.Machine.execCoreRestartTimeout t pair s
  | .inspEngineFail t engine => Sys2Proof.Machine.execInspEngineFail t engine s
  | .paceWindow t counts => Sys2Proof.Machine.execPaceWindow t counts s
  | .vddCoreLower t => Sys2Proof.Machine.execVddCoreLower t s
  | .vddCoreRaise t => Sys2Proof.Machine.execVddCoreRaise t s
  | .readVoutCheck t ack fault vout => Sys2Proof.Machine.execReadVoutCheck t ack fault vout s
  | .islandReset t svc unit entries lines => Sys2Proof.Machine.execIslandReset t svc unit entries lines s
  | .straitResync t svc unit => Sys2Proof.Machine.execStraitResync t svc unit s
  | .horizonEntry t handle => Sys2Proof.Machine.execHorizonEntry t handle s
  | .pgoEdgeLatch t input rising => Sys2Proof.Machine.execPgoEdgeLatch t input rising s
  | .pgoEdgeConfirm t input => Sys2Proof.Machine.execPgoEdgeConfirm t input s
  | .pgoPulseDiscard t input => Sys2Proof.Machine.execPgoPulseDiscard t input s
  | .stripCheckStart t handle head k unit => Sys2Proof.Machine.execStripCheckStart t handle head k unit s
  | .stripCheckComplete t handle head k tagOk plain => Sys2Proof.Machine.execStripCheckComplete t handle head k tagOk plain s
  | .groupVoteTimeout t group => Sys2Proof.Machine.execGroupVoteTimeout t group s
  | .groupCommitInstant t group => Sys2Proof.Machine.execGroupCommitInstant t group s
  | .groupDecisionLost t handle => Sys2Proof.Machine.execGroupDecisionLost t handle s
  | .groupWaitExpiry t handle => Sys2Proof.Machine.execGroupWaitExpiry t handle s
  | .chunkStart t handle head k start unit corrected => Sys2Proof.Machine.execChunkStart t handle head k start unit corrected s
  | .chunkRestart t handle head k start unit first count => Sys2Proof.Machine.execChunkRestart t handle head k start unit first count s
  | .decodeUnitOut t unit => Sys2Proof.Machine.execDecodeUnitOut t unit s
  | .checkUnitOut t unit => Sys2Proof.Machine.execCheckUnitOut t unit s
  | .lineBoundary t head p => Sys2Proof.Machine.execLineBoundary t head p s
  | .goLaunch t lane lseq fine => Sys2Proof.Machine.execGoLaunch t lane lseq fine s
  | .status t lane temp flags faultCode recipeTseq vernierTseq => Sys2Proof.Machine.execStatus t lane temp flags faultCode recipeTseq vernierTseq s
  | .tempLoopTick t head => Sys2Proof.Machine.execTempLoopTick t head s
  | .lineAck t lane lseq flag mask => Sys2Proof.Machine.execLineAck t lane lseq flag mask s
  | .lineAckTimeout t head lseq => Sys2Proof.Machine.execLineAckTimeout t head lseq s
  | .headHello t lane identity slots memSize => Sys2Proof.Machine.execHeadHello t lane identity slots memSize s
  | .memData t lane rtag error data chain sigOk => Sys2Proof.Machine.execMemData t lane rtag error data chain sigOk s
  | .tableResend t head kind tseq => Sys2Proof.Machine.execTableResend t head kind tseq s
  | .powerGoodTimeout t head => Sys2Proof.Machine.execPowerGoodTimeout t head s
  | .headFaultClear t head => Sys2Proof.Machine.execHeadFaultClear t head s
  | .statusSilence t head => Sys2Proof.Machine.execStatusSilence t head s
  | .gateReport t lane lseq flag mask => Sys2Proof.Machine.execGateReport t lane lseq flag mask s
  | .gateReportTimeout t head lseq => Sys2Proof.Machine.execGateReportTimeout t head lseq s
  | .gateActivate t gate => Sys2Proof.Machine.execGateActivate t gate s
  | .gateRelease t gate => Sys2Proof.Machine.execGateRelease t gate s
  | .hpenReadbackFault t ball => Sys2Proof.Machine.execHpenReadbackFault t ball s
  | .laneLossReport t lane => Sys2Proof.Machine.execLaneLossReport t lane s
  | .laneRestoreHoldEnd t lane => Sys2Proof.Machine.execLaneRestoreHoldEnd t lane s
  | .laneFault t lane reason => Sys2Proof.Machine.execLaneFault t lane reason s
  | .laneRetrainTimer t lane => Sys2Proof.Machine.execLaneRetrainTimer t lane s
  | .loadCheck t lane load => Sys2Proof.Machine.execLoadCheck t lane load s
  | .train t lane word rtt turn ctle => Sys2Proof.Machine.execTrain t lane word rtt turn ctle s
  | .trainTimeout t lane => Sys2Proof.Machine.execTrainTimeout t lane s
  | .align t lane w1 w2 words inverted => Sys2Proof.Machine.execAlign t lane w1 w2 words inverted s
  | .alignDue t lane w => Sys2Proof.Machine.execAlignDue t lane w s
  | .fillDue t run => Sys2Proof.Machine.execFillDue t run s
  | .farRxSilence t lane => Sys2Proof.Machine.execFarRxSilence t lane s
  | .thealFrameReceive t lane fill words => Sys2Proof.Machine.execThealFrameReceive t lane fill words s
  | .loop t lane start => Sys2Proof.Machine.execLoop t lane start s
  | .farLoopbackExpiry t lane => Sys2Proof.Machine.execFarLoopbackExpiry t lane s
  | .loopbackEnd t lane words wordErrs bitErrs => Sys2Proof.Machine.execLoopbackEnd t lane words wordErrs bitErrs s
  | .encoderCount t ch riseA riseB level => Sys2Proof.Machine.execEncoderCount t ch riseA riseB level s
  | .sincosSample t ch a b phase => Sys2Proof.Machine.execSincosSample t ch a b phase s
  | .interpolationStop t => Sys2Proof.Machine.execInterpolationStop t s
  | .channelFault t ch reason => Sys2Proof.Machine.execChannelFault t ch reason s
  | .channelRecover t ch => Sys2Proof.Machine.execChannelRecover t ch s
  | .speedWindow t => Sys2Proof.Machine.execSpeedWindow t s
  | .indexPulse t z => Sys2Proof.Machine.execIndexPulse t z s
  | .indexMissing t ch => Sys2Proof.Machine.execIndexMissing t ch s
  | .resnap t => Sys2Proof.Machine.execResnap t s
  | .rejectDue t output => Sys2Proof.Machine.execRejectDue t output s
  | .rejectPulseEnd t output => Sys2Proof.Machine.execRejectPulseEnd t output s
  | .deferredOutApply t => Sys2Proof.Machine.execDeferredOutApply t s
  | .alignApplied t head => Sys2Proof.Machine.execAlignApplied t head s
  | .journalGroupAdmit t => Sys2Proof.Machine.execJournalGroupAdmit t s
  | .ledgerCheckpoint t => Sys2Proof.Machine.execLedgerCheckpoint t s
  | .stitchChange t f => Sys2Proof.Machine.execStitchChange t f s
  | .stitchOffer t f => Sys2Proof.Machine.execStitchOffer t f s
  | .stitchAck t f => Sys2Proof.Machine.execStitchAck t f s
  | .zoneState t f => Sys2Proof.Machine.execZoneState t f s
  | .peerPathTimeout t peer => Sys2Proof.Machine.execPeerPathTimeout t peer s
  | .cameraTrigger t port => Sys2Proof.Machine.execCameraTrigger t port s
  | .cameraLine t port header samples stop => Sys2Proof.Machine.execCameraLine t port header samples stop s
  | .cameraFrameClose t port yielded missing tiles blank => Sys2Proof.Machine.execCameraFrameClose t port yielded missing tiles blank s
  | .camPacketError t port => Sys2Proof.Machine.execCamPacketError t port s
  | .camLinkDown t port => Sys2Proof.Machine.execCamLinkDown t port s
  | .camLinkUp t port speed => Sys2Proof.Machine.execCamLinkUp t port speed s
  | .camAckTimeout t port => Sys2Proof.Machine.execCamAckTimeout t port s
  | .camControlAck t port code more data => Sys2Proof.Machine.execCamControlAck t port code more data s
  | .defectAnalysis t engine => Sys2Proof.Machine.execDefectAnalysis t engine s
  | .defectAlarmClear t cls => Sys2Proof.Machine.execDefectAlarmClear t cls s
  | .nozzleHealthAnalysis t engine => Sys2Proof.Machine.execNozzleHealthAnalysis t engine s
  | .alignmentAnalysis t engine edges => Sys2Proof.Machine.execAlignmentAnalysis t engine edges s
  | .coverageLow t => Sys2Proof.Machine.execCoverageLow t s
  | .frameBufferHoldExpiry t port frame => Sys2Proof.Machine.execFrameBufferHoldExpiry t port frame s
  | .measurementExpiry t handle => Sys2Proof.Machine.execMeasurementExpiry t handle s
  | .chartMeasureDone t chart found => Sys2Proof.Machine.execChartMeasureDone t chart found s
  | .time t f rx => Sys2Proof.Machine.execTime t f rx s
  | .timeSend t lane => Sys2Proof.Machine.execTimeSend t lane s
  | .beacon t f => Sys2Proof.Machine.execBeacon t f s
  | .beaconSend t => Sys2Proof.Machine.execBeaconSend t s
  | .position t f => Sys2Proof.Machine.execPosition t f s
  | .positionSend t => Sys2Proof.Machine.execPositionSend t s
  | .discover t f lower => Sys2Proof.Machine.execDiscover t f lower s
  | .discoverReply t f => Sys2Proof.Machine.execDiscoverReply t f s
  | .enumCollectEnd t => Sys2Proof.Machine.execEnumCollectEnd t s
  | .key t f device pub ring => Sys2Proof.Machine.execKey t f device pub ring s
  | .keyInstall t => Sys2Proof.Machine.execKeyInstall t s
  | .startupEnumerate t => Sys2Proof.Machine.execStartupEnumerate t s
  | .join t f => Sys2Proof.Machine.execJoin t f s
  | .joinSend t => Sys2Proof.Machine.execJoinSend t s
  | .reenumerate t => Sys2Proof.Machine.execReenumerate t s
  | .prepare t f => Sys2Proof.Machine.execPrepare t f s
  | .vote t f => Sys2Proof.Machine.execVote t f s
  | .commit t f => Sys2Proof.Machine.execCommit t f s
  | .abort t f => Sys2Proof.Machine.execAbort t f s
  | .eventSummary t f => Sys2Proof.Machine.execEventSummary t f s
  | .timeSourceSilence t => Sys2Proof.Machine.execTimeSourceSilence t s
  | .timeSourceBetter t lane => Sys2Proof.Machine.execTimeSourceBetter t lane s
  | .holdoverExpiry t => Sys2Proof.Machine.execHoldoverExpiry t s
  | .posTimeoutExpiry t => Sys2Proof.Machine.execPosTimeoutExpiry t s
  | .ringOpen t ring => Sys2Proof.Machine.execRingOpen t ring s
  | .causeMemberLost t addr => Sys2Proof.Machine.execCauseMemberLost t addr s
  | .dramDiscovery t boards osc temp fail => Sys2Proof.Machine.execDramDiscovery t boards osc temp fail s
  | .dramReadRequest t sub new served => Sys2Proof.Machine.execDramReadRequest t sub new served s
  | .dramWriteRequest t port burst data tag => Sys2Proof.Machine.execDramWriteRequest t port burst data tag s
  | .writeDrain t sub n => Sys2Proof.Machine.execWriteDrain t sub n s
  | .requestUrgent t sub port burst => Sys2Proof.Machine.execRequestUrgent t sub port burst s
  | .dramPrintLate t sub => Sys2Proof.Machine.execDramPrintLate t sub s
  | .refreshDue t sub rank temp => Sys2Proof.Machine.execRefreshDue t sub rank temp s
  | .powerDownEntry t sub rank => Sys2Proof.Machine.execPowerDownEntry t sub rank s
  | .dqsOscillatorRead t sub count temp => Sys2Proof.Machine.execDqsOscillatorRead t sub count temp s
  | .retrainWindow t sub len => Sys2Proof.Machine.execRetrainWindow t sub len s
  | .scrubRead t data => Sys2Proof.Machine.execScrubRead t data s
  | .scrubWriteBack t burst => Sys2Proof.Machine.execScrubWriteBack t burst s
  | .packJobStart t => Sys2Proof.Machine.execPackJobStart t s
  | .packJobComplete t huskOk => Sys2Proof.Machine.execPackJobComplete t huskOk s
  | .packUnitFault t => Sys2Proof.Machine.execPackUnitFault t s
  | .eventPinPulseEnd t pin => Sys2Proof.Machine.execEventPinPulseEnd t pin s
  | .shellTamper t => Sys2Proof.Machine.execShellTamper t s
  | .entropyFail t test => Sys2Proof.Machine.execEntropyFail t test s
  | .fuseProgramDone t agree => Sys2Proof.Machine.execFuseProgramDone t agree s
  | .porstAssert t sections => Sys2Proof.Machine.execPorstAssert t sections s
  | .porstRelease t strap => Sys2Proof.Machine.execPorstRelease t strap s
  | .sysrstAssert t => Sys2Proof.Machine.execSysrstAssert t s
  | .sagRecognised t mv => Sys2Proof.Machine.execSagRecognised t mv s
  | .sagGlitch t mv => Sys2Proof.Machine.execSagGlitch t mv s
  | .sagGateDone t => Sys2Proof.Machine.execSagGateDone t s
  | .saveModeEntry t => Sys2Proof.Machine.execSaveModeEntry t s
  | .saveComplete t => Sys2Proof.Machine.execSaveComplete t s
  | .holdRestart t mv => Sys2Proof.Machine.execHoldRestart t mv s
  | .shellRomDone t selA selB serial macs records => Sys2Proof.Machine.execShellRomDone t selA selB serial macs records s
  | .imageVerified t img0 img1 => Sys2Proof.Machine.execImageVerified t img0 img1 s
  | .enginesLoaded t => Sys2Proof.Machine.execEnginesLoaded t s
  | .restore t good headerOk journalOk logOk lostBlocks => Sys2Proof.Machine.execRestore t good headerOk journalOk logOk lostBlocks s
  | .phaseReady t => Sys2Proof.Machine.execPhaseReady t s
  | .saveStoreRetry t good => Sys2Proof.Machine.execSaveStoreRetry t good s
  | .railFault t rail => Sys2Proof.Machine.execRailFault t rail s
  | .fwBankErased t => Sys2Proof.Machine.execFwBankErased t s
  | .firmwareGap t => Sys2Proof.Machine.execFirmwareGap t s
  | .fwGapWaitExpiry t => Sys2Proof.Machine.execFwGapWaitExpiry t s
  | .tjSample t s0 s1 s2 => Sys2Proof.Machine.execTjSample t s0 s1 s2 s
  | .calStale t element => Sys2Proof.Machine.execCalStale t element s
  | .holdupTestDone t before after slope fitted => Sys2Proof.Machine.execHoldupTestDone t before after slope fitted s
  | .testEnRise t => Sys2Proof.Machine.execTestEnRise t s
  | .testEnFall t => Sys2Proof.Machine.execTestEnFall t s
  | .tapReset t => Sys2Proof.Machine.execTapReset t s
  | .extest t captured load => Sys2Proof.Machine.execExtest t captured load s
  | .sample t captured => Sys2Proof.Machine.execSample t captured s
  | .preload t captured load => Sys2Proof.Machine.execPreload t captured load s
  | .idcode t => Sys2Proof.Machine.execIdcode t s
  | .clamp t => Sys2Proof.Machine.execClamp t s
  | .highz t => Sys2Proof.Machine.execHighz t s
  | .extestPulse t captured load => Sys2Proof.Machine.execExtestPulse t captured load s
  | .extestTrain t captured load => Sys2Proof.Machine.execExtestTrain t captured load s
  | .bypass t opcode => Sys2Proof.Machine.execBypass t opcode s
  | .hpenReadbackAgree t head => Sys2Proof.Machine.execHpenReadbackAgree t head s
  | .railsGood t => Sys2Proof.Machine.execRailsGood t s
  | .oldGenerationWindowEnd t => Sys2Proof.Machine.execOldGenerationWindowEnd t s
  | .checkpointWritten t good => Sys2Proof.Machine.execCheckpointWritten t good s
  | .fwSwitchComplete t good => Sys2Proof.Machine.execFwSwitchComplete t good s
  | .captureComplete t cid samples => Sys2Proof.Machine.execCaptureComplete t cid samples s
  | .malformedTransaction t mosi => Sys2Proof.Machine.execMalformedTransaction t mosi s
  | .eventSummarySend t ev => Sys2Proof.Machine.execEventSummarySend t ev s

end Sys2Proof.Machine
end

