-- ==== Sys2Proof/Safety.lean ====
section
/-! DEFINITION. What the statements call a canonical state, a command that is taken at once, and the reply that it draws. -/
namespace Sys2Proof.Machine
open Host

/-- The parameter store is in its canonical form: identifiers strictly rise and no entry holds its reset value, so that equal
parameters are equal data. -/
def State.canonical (s : State) : Bool := mwf resetVal s.params

/-- A lane without what sending on it touches: the scrambler state and the counts of its transmitter. -/
def Lane.still (l : Lane) : Lane := { l with txState := 0, sinceFill := 0, sinceAlign := 0, acount := 0, fseqTx := 0 }

/-- A state without what logging, raising, sending and replying touch. -/
def State.rest (s : State) : State :=
  { s with
    params := [], evt := ⟨[], 0, 0, [], [], []⟩, sessions := [], ports := [], cause := { s.cause with sums := [], ctr := 0 }, out := []
    lanes := s.lanes.map Lane.still, flights := [], results := [], readings := 0, nextCid := 0, hap := 0, stalled := [] }

/-- A state without what a command that only reads touches: the rest, the time, the lease that its packet renews, and what the command
pair holds while it takes nothing. -/
def State.beyondReads (s : State) : State := { s.rest with now := 0, parked := [], own := { s.own with leaseEnd := 0, leaseMs := 0 } }

/-- A command answers a next state with a property. -/
def Answers (i : Instr) (s : State) (P : State → Prop) : Prop := ∃ t, exec i s = .next t ∧ P t

/-- No PENDING reply falls due by an instant (R82). -/
def Quiet (t : Nat) (s : State) : Bool := s.flights.all (fun f => !(f.started && (s.at_ t).overdue f))

/-- A host command of an opcode that starts on arrival and may answer at once (R83-R86, R108): its session is open, its tag is free, no
limit is reached, it carries no fence and no reserved bit; every command of its session in flight has started, and none is of its
service, but for the listed commands; no PENDING reply is due before it, no restart or switch holds commands, and recovery does not
run. -/
def TakenBeside (cids : List Nat) (op t : Nat) (h : Hdr) (s : State) : Bool :=
  Quiet t s && (s.session h.session).isSome && decide (h.tag < 0xFFFF) && h.flags == 0 && h.rsv == 0
    && s.flights.all (fun f => !f.of h.session || (f.tag != h.tag && f.started && f.wait.isNone && (cids.contains f.cid || f.opcode / 256 != op / 256)))
    && decide ((s.flights.filter (fun f => f.of h.session)).length < 256) && decide (s.flights.length < 1024)
    && decide (s.undelivered h.session < 4096) && !s.cmdHeld && !s.shell.recoveryFw && h.session != 0

/-- The same with no command of its session and service in flight. -/
def Taken (op t : Nat) (h : Hdr) (s : State) : Bool := TakenBeside [] op t h s

/-- The state in which the effect of a host command starts: its instant, and its packet counted for its session and the lease. -/
def State.taken (t : Nat) (h : Hdr) (s : State) : State := (s.at_ t).countPacket h.session

/-- A frame with a GCM tag of `tag` bytes that its port takes (R54): the port is up, neither save mode nor reset nor a resynchronisation
turns it off, and the frame passes the filter. -/
def FrameTaken (tag : Nat) (f : Frame) (s : State) : Bool :=
  (s.port f.port).up && decide (s.power.sag < 3) && !s.power.down && !s.holding f.port && (s.filterFrame tag f).isNone

/-- A session frame that its port takes and that is authentic (R54, R56, R57): its version, its length, and its tag under the epoch of its
session; `plain` is its payload in clear. No PENDING reply is due before it. -/
def Authentic (t ftype : Nat) (f : Frame) (payload plain : List Byte) (s : State) : Bool :=
  FrameTaken 16 f s && f.ver == 1 && decide (f.len ≤ 9120) && Quiet t s
    && (s.session f.session).bind (fun x => x.openFrame (max s.now t) ftype f payload) == some plain

/-- A handshake frame without a tag (R58): its header, SESSION 0 and the fields that it has no use for at 0, and its payload. -/
def shakeBytes (ftype : Nat) (p : List Byte) : List Byte := fresyHeader 1 ftype false false false 0 0 0 0 0 p.length 0 0 0 ++ p

/-- A session frame of a type and contents left on a port. -/
def SentFrameOf (port n ftype : Nat) (p : Option Payload) (s : State) : Bool :=
  s.out.any (fun o => match o with
    | .frame q m f _ _ _ _ _ _ _ _ pl _ _ => q == port && m == n && f == ftype && pl == p
    | _ => false)

/-- A Causeway frame of a type arrives from another member, passes its check, and acts here (R152, R359, R360). -/
def RingTaken (t ftype : Nat) (f : CFrame) (s : State) : Bool :=
  !s.holding 12 && cfType f == ftype && !(cfSrc f == s.address && s.address != 0x7FF) && (s.at_ t).checkFrame f == .ok
    && (cfDst f == 0x7FF || cfDst f == s.address)

/-- The line boundary of a head for web position p is due: P has reached its base position, above the latest one, and no base position
between would have drawn on a segment (R249, R265). -/
def LineDue (t h : Nat) (p : Int) (s : State) : Bool :=
  decide (h < 16) && decide (h < s.fire.heads.length) && decide ((s.fireHead h).last < p + s.lineOffset h)
    && (s.at_ t).reached (p + s.lineOffset h) && !s.skipsDrawn h (p + s.lineOffset h)

/-- A head-line for p draws on one segment, which prints, and whose line was not read badly (R206, R265). -/
def Sole (h : Nat) (p : Int) (g : Seg) (s : State) : Bool :=
  s.drawn h p == [g] && g.state == Sg.printing && s.seg g.handle == some g && decide (g.passed h < g.lines) && !g.badLine h (g.lineAt p)

/-- A message of a head comes as its first valid copy (R28, R286): its lane is UP, the island of the lane does not resynchronise, and no copy
of it came before on the other lane of the port. -/
def FirstCopy (u : Nat) (key : List Nat) (s : State) : Bool :=
  decide (u < 32) && s.laneIsUp u && !s.holding (4 + u / 4) && (s.head (u / 2)).ahead.all (fun a => a.1 != u % 2 || a.2.2 != key)

/-- The lines of a head can leave: no save mode turns its lanes off, and their island does not resynchronise (R28, R442). -/
def LanesOn (h : Nat) (s : State) : Bool := !s.saveMode && !s.holding (4 + h / 2)

/-- Words of a lane are received: its island does not resynchronise (R28). -/
def LanesIn (u : Nat) (s : State) : Bool := !s.holding (if u < 32 then 4 + u / 4 else 12)

/-- Triggers and control packets of the cameras can leave: no save mode turns them off, and their island does not resynchronise (R28, R442). -/
def CamsOn (s : State) : Bool := !s.saveMode && !s.holding 14

/-- Commands and bursts of DRAM can leave: no save mode stops them, and the island does not resynchronise (R28, R442). -/
def DramOn (s : State) : Bool := !s.saveMode && !s.holding 13

/-- The TAP shifts out: no save mode stops it, and the scan island does not resynchronise (R28, R442). -/
def ScanOn (s : State) : Bool := !s.saveMode && !s.holding 17

/-- The management port answers: no save mode stops it, and the island does not resynchronise (R28, R442). -/
def SpiOn (s : State) : Bool := !s.saveMode && !s.holding 15

/-- The copy of the control block that the latest write left verifies (R450); the operand tells of copies A and B. -/
def LatestOk (ctrlOk : List Bool) (s : State) : Bool := nth ctrlOk false (if s.power.store.copyB then 1 else 0)

/-- The sub-channel of the next scrub read is idle: no request waits there, and neither a drain nor a window runs (R385, R394). -/
def ScrubFree (t : Nat) (s : State) : Bool :=
  let u := (s.place s.dram.scrub).sub
  !(s.at_ t).inWindow u && (s.sub u).reads.isEmpty && (s.sub u).writes.isEmpty && (s.sub u).strait.isEmpty && !(s.sub u).draining

/-- A line of a segment lies in a recorded range of a head, a cause and a kind (R184). -/
def Ranged (g : Seg) (h line cause kind : Nat) : Bool :=
  g.ranges.any (fun r => r.head == h && r.cause == cause && r.kind == kind && decide (r.first ≤ line) && decide (line < r.first + r.count))

/-- SIZES of a body of SPOOL_SEG_OPEN, by its HEADS and LINES (R164). -/
def openSizes (b : List Byte) : List Nat := items 4 (popcount 16 (leAt b 18 2) * stripCount (leAt b 20 4)) (b.drop 52)

/-- A body of SPOOL_SEG_OPEN passes every check of form (R164). -/
def OpenForm (b : List Byte) : Bool :=
  (segRanges b).isNone && (groupRanges b).isNone && b.length == 52 + 4 * (popcount 16 (leAt b 18 2) * stripCount (leAt b 20 4))
    && (openSizes b).all (fun x => x != 0 && decide (x ≤ 16777216)) && (segReserved b).isNone && decide (leAt b 44 2 < 1024) && zeroAt b 48 4

/-- A counter rises by one, or stands at the largest value of its field. -/
def CountsUp (id : Nat) (s s' : State) : Prop := s'.par id = min (s.par id + 1) (2 ^ ((descOf id).elim 32 Desc.width) - 1)

/-- A FINAL reply left for the session of a header: opcode, tag, status, DETAIL and body (R82). -/
def Replied (h : Hdr) (op st d : Nat) (body : Body) (s : State) : Prop :=
  ∃ r, Out.reply h.session r ∈ s.out ∧ r.opcode = op ∧ r.tag = h.tag ∧ r.final = true ∧ r.status = st ∧ r.detail = d ∧ r.body = body

/-- The FINAL reply of a command in flight left for its session, where that is open, the command pair does not restart, and no earlier
command of its session, service and unit goes on (R13, R86): status, DETAIL and body (R82). -/
def FinalSent (cid st d : Nat) (body : Body) (s s' : State) : Prop :=
  ∀ f, s.flight cid = some f → f.endedAt = none → f.final = none → s.behind f = false → s.dev.cmd.restart = none →
    ∃ r, Out.reply f.session r ∈ s'.out ∧ r.opcode = f.opcode ∧ r.tag = f.tag ∧ r.final = true ∧ r.status = st ∧ r.detail = d ∧ r.body = body

/-- A lane went down for a reason (R309): FAILED, the reason, LANE[u].DOWNS and EV046. -/
def WentDown (u reason : Nat) (s s' : State) : Prop :=
  s'.laneState u = Ln.failed ∧ s'.par (Par.at_ Par.laneUReason u) = reason ∧ CountsUp (Par.at_ Par.laneUDowns u) s s' ∧ CountsUp (Par.evtCount000 + Ev.laneDown) s s'

/-- A lane is not held with FLAPPING, and a departure of it now would not reach LANE.FLAP_LIMIT (R310). -/
def Steady (t u : Nat) (s : State) : Bool := !(s.lane u).flapping && decide (((s.at_ t).flapsOf u).length + 1 < s.par Par.laneFlapLimit)

/-- A bring-up of a lane can start: it is not held with FLAPPING, and its scrambler can be seeded with a random value (R138, R296, R310). -/
def Seeds (u : Nat) (s : State) : Bool := !(s.lane u).flapping && !s.noRandom

/-- The other lane of a lane's head port is not UP, or reports another LANE bit (R307). -/
def Wired (u : Nat) (s : State) : Bool :=
  let o := if u % 2 = 0 then u + 1 else u - 1
  decide (32 ≤ u) || s.laneState o != Ln.up || (s.lane u).peerLane != (s.lane o).peerLane

/-- Words of a lane after its scrambler (R295), from a state: stuff bits and content. -/
def scrambled : Nat → List (Nat × Nat) → List (Nat × Nat)
  | _, [] => []
  | st, w :: ws => (w.1, w.2 ^^^ (scrambleBits 32 st).2) :: scrambled (scrambleBits 32 st).1 ws

/-- SOF of a frame of a count of payload words and an FSEQ (*Frame layout*). -/
def sofWord (n fseq : Nat) : Nat := 0x2D + 256 * n + 2 ^ 24 * fseq

/-- The words of a frame before the scrambler: SOF, payload and a CRC word (R299). -/
def frameWords (fseq crc : Nat) (ws : List Nat) : List (Nat × Nat) := (2, sofWord ws.length fseq) :: (ws.map (fun w => (1, w)) ++ [(1, crc)])

/-- The CRC of a frame (R299). -/
def frameCrc (fseq : Nat) (ws : List Nat) : Nat := crc32 (leBytes 4 (sofWord ws.length fseq) ++ ws.flatMap (leBytes 4))

/-- The plaintext of an image request for which no line is held (R355): the header of `n` lines of `pn` pixels at a STEP in one channel of
one byte from a position on, every line marked 2, and samples of 0. -/
def emptyImage (step first n pn : Nat) : List Byte :=
  leBytes 4 0x47494C41 ++ [1, 1, 1] ++ leBytes 1 step ++ leBytes 8 (twos 64 (signed 64 first * 65536)) ++ leBytes 2 n ++ leBytes 2 pn ++ leBytes 4 0
    ++ leBytes 64 (((List.replicate n 2).zipIdx.map (fun (m, i) => m * 4 ^ i)).sum) ++ List.replicate (n * pn) 0

/-- An own frame of the ring left on each lane of a list that is UP: generation, type, destination and payload, under the present address
and counter (R151, R359). -/
def SentRing (lanes : List Nat) (gen ftype dst : Nat) (payload : List Byte) (s s' : State) : Prop :=
  ∃ tag : List Byte, tag.length = 8 ∧
    ∀ u ∈ lanes, s.laneIsUp u → Out.causeway u (causeFrame ftype gen s.address dst s.cause.ctr payload ++ tag) ∈ s'.out

/-- The bytes after CMD of a read transaction (R420): ADDR, LEN, the CRC, and those that the AL716 answers, of no meaning from the master. -/
def readBytes (cmd addr len : Nat) : List Byte :=
  leBytes 4 addr ++ leBytes 2 len ++ crcBytes (leBytes 1 cmd ++ leBytes 4 addr ++ leBytes 2 len) ++ List.replicate (12 + len) 0

/-- The fragments held of a key record with the one that a KEY frame brings (R362). -/
def keyFrags (f : CFrame) (s : State) : List (Nat × List Byte) := assoc (cfAt f 24 1 % 32) ((f.bytes.drop 28).take (cfLen f - 8)) s.cause.frags

/-- A KEY frame of the run that this member answered is taken, and names a fragment of a record of at most 32 (R362). -/
def KeyTaken (t : Nat) (f : CFrame) (s : State) : Bool :=
  RingTaken t 0x0A f s && s.cause.heard.elim false (fun h => h.1 == cfAt f 20 4) && decide (cfAt f 24 1 % 32 < cfAt f 25 1 % 64) && decide (cfAt f 25 1 % 64 ≤ 32)

/-- With a KEY frame every fragment of its record is held, and they make up `d`. -/
def KeyWhole (f : CFrame) (d : List Byte) (s : State) : Bool :=
  (List.range (cfAt f 25 1 % 64)).all (fun j => (keyFrags f s).any (fun e => e.1 == j))
    && (List.range (cfAt f 25 1 % 64)).flatMap (fun j => (lookup j (keyFrags f s)).getD []) == d

/-- A part of a key record after its chain (R153, log entry 139). -/
def keyPart (d : List Byte) (i n : Nat) : List Byte := (d.drop (18 + leAt d 16 2 + i)).take n

/-- The ring key that a record gives this member, where it decrypts under its wrap key (R153). -/
def recordKey (d : List Byte) (s : State) : Option (List Byte) :=
  gcmOpen (ringWrap (ecdh s.wrapKey (keyPart d 288 97))) (List.replicate 12 0) [] (keyPart d 385 32) (keyPart d 417 16)

/-- The signatures of a record hold under an identity key, and its signed slot 0 digest is this member's own (R153). -/
def RecordSigned (pub d : List Byte) (s : State) : Bool :=
  ecdsaVerify pub (keyPart d 0 192) (keyPart d 192 96) && ecdsaVerify pub (d.take (18 + leAt d 16 2 + 433)) (keyPart d 433 96)
    && keyPart d 0 48 == leBytes 48 (nth s.shell.slots ⟨0, false, 0⟩ 0).digest

/-- What a read of the management port answers (R420): the status byte, and RSTATUS and RDATA under their CRC. -/
def SpiAnswer (st : Nat) (data : List Byte) (s s' : State) : Prop :=
  s'.out = [.spi (leBytes 1 s.spiStatus ++ (leBytes 2 st ++ data) ++ crcBytes (leBytes 2 st ++ data))]

/-- The management port after a transaction that is not malformed (R121, R421): its mailboxes and bells as given. -/
def SpiDone (t : Nat) (m : Mgmt) (s s' : State) : Prop := s'.mgmt = { m with lastErr := false } ∧ s'.own.mgmtLast = max s.now t

/-- A PENDING reply left for the session of a header (R82). -/
def PendingSent (h : Hdr) (op : Nat) (s : State) : Prop :=
  ∃ r, Out.reply h.session r ∈ s.out ∧ r.opcode = op ∧ r.tag = h.tag ∧ r.final = false ∧ r.status = St.pending

end Sys2Proof.Machine
end

