-- ==== Sys2Proof/Certificates/Slice0/Obligations.lean ====
section
/-! DEFINITION. The statements for the provers. Each clause of a statement names one command of the table, says under which conditions on the
state and the operands it runs, and says what its next state holds. -/
open Host Sys2Proof Sys2Proof.Machine

/-- A HELLO of a new key with fewer than 4 handshakes in progress is held, with the CHALLENGE that the next three random values make and that leaves at once; a repeated one draws the
same CHALLENGE again, and a fifth draws REJECT 0x0415. A PROVE whose check finds nothing opens the lowest free session number with the role asked for, the key epochs of the
handshake and ACCEPT; one that fails sends REJECT with its status and opens nothing. HANDSHAKE_ABANDON ends exactly the handshake named once 200 ms have passed since its CHALLENGE. (spec/03_fresy_link.md, spec/06_secrecy.md) -/
def Obligations.HandshakesOpenAndClose : Prop :=
  (∀ (t : Nat) (f : Frame) (p : List Byte) (c : Chain) (s : State), FrameTaken 0 f s → helloOk f p → 3 ≤ s.par Par.powerPhase →
    s.shakes.all (fun h => !(h.src == f.src && h.id == leAt p 0 8)) → s.noRandom = false → s.shakes.length < 4 →
    Answers (.hello t f p c () ()) s (fun s' => s'.sessions = s.sessions ∧ s'.draws = s.draws + 3 ∧
      ∃ eph q, eph = ecScalar (randomBytes s.draws 48) ∧
        q = s.challenge p eph (randomBytes (s.draws + 1) 32) (ecScalar (randomBytes (s.draws + 2) 48)) ∧
        s'.shakes = s.shakes ++ [⟨f.port, f.src, leAt p 0 8, leAt p 8 1, leAt p 9 1, c, max s.now t, p, q, eph⟩] ∧
        Out.handshake f.port f.src 2 (leAt p 0 8) (s.vlanOf f.port) (shakeBytes 2 q) ∈ s'.out)) ∧
  (∀ (t : Nat) (f : Frame) (p : List Byte) (c : Chain) (h : Handshake) (s : State), FrameTaken 0 f s → helloOk f p → 3 ≤ s.par Par.powerPhase →
    s.shakes.find? (fun h => h.src == f.src && h.id == leAt p 0 8) = some h →
    Answers (.hello t f p c () ()) s (fun s' => s'.shakes = s.shakes ∧ s'.draws = s.draws ∧
      s'.out = [.handshake f.port f.src 2 (leAt p 0 8) (s.vlanOf f.port) (shakeBytes 2 h.challenge)])) ∧
  (∀ (t : Nat) (f : Frame) (p : List Byte) (c : Chain) (s : State), FrameTaken 0 f s → helloOk f p → 3 ≤ s.par Par.powerPhase →
    s.shakes.all (fun h => !(h.src == f.src && h.id == leAt p 0 8)) → s.noRandom = false → 4 ≤ s.shakes.length →
    Answers (.hello t f p c () ()) s (fun s' => s'.shakes = s.shakes ∧
      Out.handshake f.port f.src 5 (leAt p 0 8) (s.vlanOf f.port) (shakeBytes 5 (leBytes 8 (leAt p 0 8) ++ leBytes 2 0x0415)) ∈ s'.out)) ∧
  (∀ (t n : Nat) (f : Frame) (p : List Byte) (h : Handshake) (s : State), FrameTaken 0 f s → f.ver = 1 → f.session = 0 → f.len = 104 → p.length = 104 →
    s.shakes.find? (fun h => h.src == f.src && h.id == leAt p 0 8) = some h → (s.at_ t).proveCheck h p = none → s.freeSession = some n →
    s.holding h.port = false →
    Answers (.prove t f p ()) s (fun s' => (∃ x keys wire, s'.session n = some x ∧ h.secrets p = some keys ∧ x.role = h.role ∧ x.subject = leNat (sha384 h.chain.pub) ∧
        x.rx = keys.1 ∧ x.tx = keys.2 ∧ x.txc = 1 ∧ Out.handshake h.port h.src 4 h.id (s.vlanOf h.port) wire ∈ s'.out) ∧
      s'.sessions.length = s.sessions.length + 1 ∧ s'.shakes = s.shakes.filter (fun g => !(g.src == f.src && g.id == leAt p 0 8)))) ∧
  (∀ (t st : Nat) (f : Frame) (p : List Byte) (h : Handshake) (s : State), FrameTaken 0 f s → f.ver = 1 → f.session = 0 → f.len = 104 → p.length = 104 →
    s.shakes.find? (fun h => h.src == f.src && h.id == leAt p 0 8) = some h → (s.at_ t).proveCheck h p = some st → s.holding h.port = false →
    Answers (.prove t f p ()) s (fun s' => s'.sessions.map Session.num = s.sessions.map Session.num ∧
      s'.shakes = s.shakes.filter (fun g => !(g.src == f.src && g.id == leAt p 0 8)) ∧
      Out.handshake h.port h.src 5 (leAt p 0 8) (s.vlanOf h.port) (shakeBytes 5 (leBytes 8 (leAt p 0 8) ++ leBytes 2 st)) ∈ s'.out)) ∧
  (∀ (t src id : Nat) (s : State), Answers (.handshakeAbandon t src id) s (fun s' => s'.sessions = s.sessions ∧
      ∀ h, h ∈ s'.shakes ↔ h ∈ s.shakes ∧ (h.src = src → h.id = id → max s.now t < h.at_ + 200000000)))

/-- An authentic DATA frame with the next sequence number delivers its packet: the command is in flight, and the next number is expected. A frame with an earlier number
counts in RX_DUP, one beyond the window in RX_WINDOW, and both deliver nothing. An ACK frame moves the acknowledgement and the credit limit forward and never back.
A CLOSE frame with the next number ends its session; with no segment and no job key held, its commands stay in flight as commands of an ended session. (spec/03_fresy_link.md, spec/04_commands.md) -/
def Obligations.FresyFramesInOrder : Prop :=
  (∀ (t op tag : Nat) (f : Frame) (b : List Byte) (x : Session) (s : State), Authentic t 8 f b (leBytes 2 8 ++ leBytes 2 op ++ leBytes 2 tag ++ [0, 0]) s →
    s.session f.session = some x → s.cmdHeld = false → f.seq = x.rxNext → x.held = [] → f.len = 8 →
    x.blocksTaken + x.blocksHeld + ceilDiv f.size 64 ≤ x.grant → opcodeListed op → op < 2 ^ 16 → tag < 0xFFFF →
    s.flights.all (fun g => !(g.of f.session && g.tag == tag)) → (s.flights.filter (fun g => g.of f.session)).length < 256 → s.flights.length < 1024 →
    s.undelivered f.session < 4096 →
    Answers (.data t f b) s (fun s' =>
      (s'.session f.session).map Session.rxNext = some ((x.rxNext + 1) % 2 ^ 32) ∧ ∃ g, s'.flights = s.flights ++ [g] ∧ g.session = f.session ∧
        g.opcode = op ∧ g.tag = tag ∧ g.body = [] ∧ g.started = false)) ∧
  (∀ (t : Nat) (f : Frame) (b plain : List Byte) (x : Session) (s : State), Authentic t 8 f b plain s → s.session f.session = some x →
    2 ^ 31 ≤ ahead f.seq x.rxNext → Answers (.data t f b) s (fun s' => s'.flights = s.flights ∧
      (s'.session f.session).map Session.rxNext = some x.rxNext ∧ CountsUp (Par.at_ Par.fresyURxDup f.port) s s')) ∧
  (∀ (t : Nat) (f : Frame) (b plain : List Byte) (x : Session) (s : State), Authentic t 8 f b plain s → s.session f.session = some x →
    64 < ahead f.seq x.rxNext → ahead f.seq x.rxNext < 2 ^ 31 → x.held.all (fun h => h.seq != f.seq) →
    Answers (.data t f b) s (fun s' => s'.flights = s.flights ∧ (s'.session f.session).map Session.rxNext = some x.rxNext ∧
      CountsUp (Par.at_ Par.fresyURxWindow f.port) s s')) ∧
  (∀ (t : Nat) (f : Frame) (x : Session) (s : State), Authentic t 9 f [] [] s → s.session f.session = some x → f.len = 0 →
    Answers (.ack t f) s (fun s' => s'.flights = s.flights ∧
      (s'.session f.session).map Session.lastAck = some (if ahead f.ack x.lastAck < 2 ^ 31 then f.ack else x.lastAck) ∧
      (s'.session f.session).map Session.creditLimit = some (if ahead f.credit x.creditLimit < 2 ^ 31 then x.creditLimit + ahead f.credit x.creditLimit
        else x.creditLimit))) ∧
  (∀ (t : Nat) (f : Frame) (b : List Byte) (x : Session) (s : State), Authentic t 11 f b [] s → s.session f.session = some x → s.cmdHeld = false →
    f.seq = x.rxNext → x.held = [] → f.len = 0 → x.blocksTaken + x.blocksHeld + ceilDiv f.size 64 ≤ x.grant →
    Answers (.close t ⟨f, b⟩) s (fun s' => s'.session f.session = none ∧ s'.flights.all (fun g => !g.of f.session) ∧
      (s.spool.segs = [] → s.shell.keys = [] → s'.flights.map Flight.cid = s.flights.map Flight.cid)))

/-- A timer that expires resends its frame on a port up in the set with the next doubled wait, and after 6 transmissions the session ends. KEEPALIVE_EXPIRY sends an ACK frame on a
port silent for FRESY.KEEPALIVE. CREDIT_GRANT leaves at least 144 blocks above those received and never lowers a grant. IDLE_LIMIT_EXPIRY ends a session silent for OWN.IDLE_LIMIT.
RESULT_RETENTION_EXPIRY releases the named results whose session ended 8 s before. EPOCH_WINDOW_END closes a window whose 64 ms have passed, and
DEFERRED_REKEY_START then starts the held epoch at TXC 0 under the keys of the next traffic secret. EVENT_FRAME_SEND sends up to 284 queued entries in one EVENT frame. (spec/03_fresy_link.md, spec/04_commands.md, spec/06_secrecy.md, spec/18_events_and_trouble_log.md) -/
def Obligations.FresyTimers : Prop :=
  (∀ (t n seq : Nat) (x : Session) (g : SentFrame) (s : State), s.session n = some x → x.unacked.find? (fun f => f.seq == seq) = some g → g.due ≤ max s.now t →
    s.portSet x ≠ [] → g.tries < 6 → Answers (.retransmitTimer t n seq) s (fun s' => ∃ x' p, s'.session n = some x' ∧ p ∈ s.portSet x ∧
      x'.unacked.find? (fun f => f.seq == seq) = some { g with port := p, tries := g.tries + 1, due := max s.now t + g.nextWait, nextWait := 2 * g.nextWait, last := max s.now t } ∧
      x'.txSeq = x.txSeq ∧ x'.blocksSent = x.blocksSent)) ∧
  (∀ (t n seq : Nat) (x : Session) (g : SentFrame) (s : State), s.session n = some x → x.unacked.find? (fun f => f.seq == seq) = some g → g.due ≤ max s.now t →
    s.portSet x ≠ [] → 6 ≤ g.tries → Answers (.retransmitTimer t n seq) s (fun s' => s'.session n = none ∧ CountsUp (Par.evtCount000 + Ev.sessionLost) s s')) ∧
  (∀ (t n p : Nat) (x : Session) (s : State), s.session n = some x → p ∈ s.portSet x → nth x.portTx 0 p + 1000000 * s.par Par.fresyKeepalive ≤ max s.now t →
    p < x.portTx.length → Quiet t s → s.power.sag < 3 → s.holding p = false → Answers (.keepaliveExpiry t n p) s (fun s' => (s'.session n).map (fun x' => nth x'.portTx 0 p) = some (max s.now t) ∧
      SentFrameOf p n 9 none s')) ∧
  (∀ (t n : Nat) (x : Session) (s : State), s.session n = some x → Answers (.creditGrant t n) s (fun s' => ∃ x', s'.session n = some x' ∧
      x.grant ≤ x'.grant ∧ x.blocksTaken + x.blocksHeld + 144 ≤ x'.grant ∧ x'.blocksTaken = x.blocksTaken)) ∧
  (∀ (t n : Nat) (x : Session) (s : State), s.session n = some x → x.lastCmdAt + 1000000 * s.par Par.ownIdleLimit ≤ max s.now t →
    Answers (.idleLimitExpiry t n) s (fun s' => s'.session n = none)) ∧
  (∀ (t n tag : Nat) (s : State), Answers (.resultRetentionExpiry t n tag) s (fun s' => s'.flights = s.flights ∧ ∀ r, r ∈ s'.results ↔
      r ∈ s.results ∧ ¬(r.session = n ∧ r.tag = tag ∧ ∃ e, r.endedAt = some e ∧ e + 8000000000 ≤ max s.now t))) ∧
  (∀ (t n w : Nat) (x : Session) (s : State), s.session n = some x → x.txWindow = some w → w ≤ max s.now t →
    Answers (.epochWindowEnd t n false) s (fun s' => (s'.session n) = some { x with txWindow := none })) ∧
  (∀ (t n w : Nat) (x : Session) (s : State), s.session n = some x → x.rxWindow = some w → w ≤ max s.now t →
    Answers (.epochWindowEnd t n true) s (fun s' => (s'.session n) = some { x with rxWindow := none, rxOld := none })) ∧
  (∀ (t n : Nat) (x : Session) (s : State), s.session n = some x → x.rekeyHeld → x.txWindow = none →
    Answers (.deferredRekeyStart t n) s (fun s' => ∃ x', s'.session n = some x' ∧ x'.epochTx = !x.epochTx ∧ x'.txc = 0 ∧ x'.rekeyHeld = false ∧
      x'.tx = Epoch.of x.tx.next ∧ x'.txNew)) ∧
  (∀ (t n p : Nat) (x : Session) (s : State), s.session n = some x → x.evq ≠ [] → x.txq = [] → x.dropped = 0 → (s.at_ t).bestPort (s.portSet x) = some p →
    x.lastAck < 2 ^ 32 → s.power.sag < 3 → s.holding p = false → ahead x.txSeq x.lastAck ≤ 65 → x.blocksSent + ceilDiv (s.etherLen p (32 * (x.evq.take 284).length)) 64 ≤ x.creditLimit →
    Answers (.eventFrameSend t n) s (fun s' => ∃ x', s'.session n = some x' ∧ x'.evq = x.evq.drop 284 ∧ x'.txSeq = (x.txSeq + 1) % 2 ^ 32 ∧
      SentFrameOf p n 10 (some (.events (x.evq.take 284))) s'))

/-- FRESY_LOCK_LOSS of a port that is up takes it down, counts in LINK_DOWNS, and raises EV010; PORT_SILENCE_EXPIRY does the same for a port that a session has included, and that was silent, for
FRESY.PORT_SILENCE. FRESY_PORT_REJOIN brings an enabled port up again and ends the condition of EV010. RIDE_THROUGH_EXPIRY ends a session whose ports have been down for FRESY.RIDE_THROUGH.
FRESY_PORT_STATUS and FRESY_SESSION_LIST reply with the ports and the sessions and change nothing. (spec/03_fresy_link.md) -/
def Obligations.FresyPorts : Prop :=
  (∀ (t p : Nat) (s : State), p < 4 → p < s.ports.length → (s.port p).up → Answers (.fresyLockLoss t p) s (fun s' => (s'.port p).up = false ∧
      CountsUp (Par.at_ Par.fresyULinkDowns p) s s' ∧ CountsUp (Par.evtCount000 + Ev.fresyPortDown) s s' ∧ s'.cond Ev.fresyPortDown p ∧
      ∀ q, q ≠ p → (s'.port q).up = (s.port q).up)) ∧
  (∀ (t p : Nat) (s : State), p < 4 → p < s.ports.length → (s.port p).up → max (s.port p).lastFrame (s.port p).since + 1000000 * s.par Par.fresyPortSilence ≤ max s.now t →
    s.sessions.any (fun x => bitAt x.setPorts p) → Answers (.portSilenceExpiry t p) s (fun s' => (s'.port p).up = false ∧ s'.cond Ev.fresyPortDown p)) ∧
  (∀ (t p : Nat) (s : State), p < 4 → p < s.ports.length → (s.port p).up = false → s.par (Par.at_ Par.fresyUEnable p) = 1 →
    Answers (.fresyPortRejoin t p) s (fun s' => (s'.port p).up = true ∧ s'.cond Ev.fresyPortDown p = false ∧
      ∀ q, q ≠ p → (s'.port q).up = (s.port q).up)) ∧
  (∀ (t n d : Nat) (x : Session) (s : State), s.session n = some x → x.downSince = some d → d + 1000000 * s.par Par.fresyRideThrough ≤ max s.now t →
    Answers (.rideThroughExpiry t n) s (fun s' => s'.session n = none ∧ CountsUp (Par.evtCount000 + Ev.sessionLost) s s')) ∧
  (∀ (t : Nat) (h : Hdr) (s : State), Taken 0x0301 t h s → Answers (.fresyPortStatus t h []) s (fun s' => s'.rest = (s.taken t h).rest ∧
      Replied h 0x0301 St.ok 0 (.fields [("F0 up", bit (s.port 0).up 0), ("F1 up", bit (s.port 1).up 0), ("F2 up", bit (s.port 2).up 0),
        ("F3 up", bit (s.port 3).up 0)]) s')) ∧
  (∀ (t : Nat) (h : Hdr) (s : State), Taken 0x0302 t h s → Answers (.fresySessionList t h []) s (fun s' => s'.rest = (s.taken t h).rest ∧
      Replied h 0x0302 St.ok 0 (.fields (s.sessions.flatMap (fun x => [("session", x.num), ("role", x.role), ("ports", x.setPorts)]))) s'))

/-- For every command c, queue rest and state s, step of s with c at the front of its queue is exec of c on s with the rest of the queue. (spec/04_commands.md) -/
def Obligations.StepRunsFront : Prop :=
  ∀ (c : Instr) (rest : List Instr) (s : State), step { s with pending := c :: rest } = exec c { s with pending := rest }

/-- DEV_PARAM_READ of 1 to 64 parameters whose entries fit one reply answers every entry, in order, by its own status and value: OK where each is readable, else PARTIAL with the count of the
others; no entry of service 0x04 or of the count of retained results is among them. A readable 4-byte parameter that the store holds reads as its value in force. DEV_STAGE_READ lists the staged entries in order. DEV_STATUS gives
device state, phase and segments accepted, the last as 0xFFFF_FFFF to an Observer. DEV_ECHO returns up to 256 bytes and refuses more with 0x0107 and 256. They change nothing but what
the packet's arrival and the reply touch. While the command pair takes nothing, a packet changes nothing but what waits.
DEV_RESULT_READ of a retained result of the session's own replies with that result's status, DETAIL and body behind its opcode and tag; of a command of the session in flight, with
PENDING, its opcode and its tag; of a session and tag of which nothing is held, with 0x010C. DEV_RESULT_RELEASE of 1 to 64 tags, one of them with a retained result of the session and none in flight, releases that
result and answers every tag by a status; of one tag it replies OK. (spec/04_commands.md) -/
def Obligations.DevReadsAndResults : Prop :=
  ((∀ (t : Nat) (h : Hdr) (ids : List Nat) (s : State), Taken 0x0101 t h s → 1 ≤ ids.length → ids.length ≤ 64 → (∀ id ∈ ids, id < 2 ^ 32 ∧ idSvc id ≠ 0x04 ∧ id ≠ 0x01000044) →
    (leBytes 2 ids.length ++ [0, 0] ++ ids.flatMap ((s.taken t h).readEntry h.session (s.role h.session))).length ≤ 9104 →
    Answers (.devParamRead t h (leBytes 2 ids.length ++ [0, 0] ++ ids.flatMap (leBytes 4))) s (fun s' => s'.rest = (s.taken t h).rest ∧
      Replied h 0x0101 (if ids.all (fun id => readStatus (s.role h.session) id == St.ok) then St.ok else St.partially)
        (ids.filter (fun id => readStatus (s.role h.session) id != St.ok)).length
        (.bytes (leBytes 2 ids.length ++ [0, 0] ++ ids.flatMap ((s.taken t h).readEntry h.session (s.role h.session)))) s')) ∧
  (∀ (n role id : Nat) (s : State), readStatus role id = St.ok → vlenOf id = some 4 → s.derived n id = none →
    s.readEntry n role id = leBytes 4 id ++ [0, 0, 4, 0] ++ leBytes 4 (s.par id)) ∧
  (∀ (t : Nat) (h : Hdr) (s : State), Taken 0x0106 t h s → (s.stageOf h.session).length < 65536 → 4 + ((s.stageOf h.session).map (fun e => 8 + up4 ((vlenOf e.id).getD 0))).sum ≤ 9104 →
    Answers (.devStageRead t h []) s (fun s' => s'.rest = (s.taken t h).rest ∧
      Replied h 0x0106 St.ok 0 (.bytes (leBytes 2 (s.stageOf h.session).length ++ [0, 0] ++ (s.stageOf h.session).flatMap (fun e =>
        leBytes 4 e.id ++ leBytes 2 ((vlenOf e.id).getD 0) ++ [0, 0] ++ pad4 (leBytes ((vlenOf e.id).getD 0) e.value)))) s')) ∧
  (∀ (t : Nat) (h : Hdr) (s : State), Taken 0x0109 t h s → Answers (.devStatus t h []) s (fun s' => s'.rest = (s.taken t h).rest ∧ Replied h 0x0109 St.ok 0 (.fields
      [("STATE", s.par Par.devState), ("PHASE", s.par Par.powerPhase),
       ("SEGMENTS_ACCEPTED", if s.role h.session = roleObserver then 0xFFFFFFFF else s.par Par.spoolSegAccepted)]) s')) ∧
  (∀ (t : Nat) (h : Hdr) (b : List Byte) (s : State), Taken 0x010A t h s → b.length ≤ 256 →
    Answers (.devEcho t h b) s (fun s' => s'.rest = (s.taken t h).rest ∧ Replied h 0x010A St.ok 0 (.bytes b) s')) ∧
  (∀ (t : Nat) (h : Hdr) (b : List Byte) (s : State), Taken 0x010A t h s → 256 < b.length →
    Answers (.devEcho t h b) s (fun s' => s'.rest = (s.taken t h).rest ∧ Replied h 0x010A St.badLength 256 (.bytes []) s')) ∧
  (∀ (t : Nat) (h : Hdr) (b : List Byte) (s : State), Quiet t s → s.cmdHeld → (s.session h.session).isSome →
    Answers (.devEcho t h b) s (fun s' => s' = { s.at_ t with parked := s.parked ++ [.row h.session (.devEcho t h b)] }))) ∧
  ((∀ (t : Nat) (h : Hdr) (s : State) (tag : Nat) (r : Result), Taken 0x0107 t h s → tag < 2 ^ 16 → tag ≠ h.tag → h.session < 256 →
    s.flights.all (fun f => !(f.session == h.session && f.tag == tag)) →
    s.results.find? (fun r => r.session == h.session && r.tag == tag && r.endedAt.isNone) = some r → 20 + r.body.size r.opcode ≤ 9120 →
    Answers (.devResultRead t h (leBytes 1 h.session ++ [0] ++ leBytes 2 tag)) s (fun s' => s'.rest = (s.taken t h).rest ∧
      Replied h 0x0107 r.status r.detail (r.body.after r.opcode r.tag) s')) ∧
  (∀ (t : Nat) (h : Hdr) (s : State) (tag : Nat) (f : Flight), Taken 0x0107 t h s → tag < 2 ^ 16 → tag ≠ h.tag → h.session < 256 →
    s.flights.find? (fun f => f.of h.session && f.tag == tag) = some f → f.final = none →
    Answers (.devResultRead t h (leBytes 1 h.session ++ [0] ++ leBytes 2 tag)) s (fun s' => s'.rest = (s.taken t h).rest ∧
      Replied h 0x0107 St.pending 0 (.bytes (leBytes 2 f.opcode ++ leBytes 2 tag)) s')) ∧
  (∀ (t : Nat) (h : Hdr) (s : State) (n tag : Nat), Taken 0x0107 t h s → n < 256 → tag < 2 ^ 16 → (n ≠ h.session ∨ tag ≠ h.tag) →
    s.flights.all (fun f => !(f.session == n && f.tag == tag)) → s.results.all (fun r => !(r.session == n && r.tag == tag)) →
    Answers (.devResultRead t h (leBytes 1 n ++ [0] ++ leBytes 2 tag)) s (fun s' => s'.rest = (s.taken t h).rest ∧
      Replied h 0x0107 St.noSuchResult 0 (.bytes []) s')) ∧
  (∀ (t : Nat) (h : Hdr) (s : State) (tag : Nat) (tags : List Nat) (r : Result), Taken 0x0108 t h s → 1 ≤ tags.length → tags.length ≤ 64 → tags.all (fun x => decide (x < 2 ^ 16)) →
    tag ∈ tags → tag ≠ h.tag → s.flights.all (fun f => !(f.of h.session && f.tag == tag) && f.cid != r.cid) →
    s.results.find? (fun r => r.session == h.session && r.tag == tag && r.endedAt.isNone) = some r →
    Answers (.devResultRelease t h (leBytes 2 tags.length ++ tags.flatMap (leBytes 2) ++ List.replicate (up4 (2 + 2 * tags.length) - (2 + 2 * tags.length)) 0)) s
      (fun s' => s'.rest = (s.taken t h).rest ∧ s'.results.all (fun x => x.cid != r.cid) ∧ ∃ sts st, sts.length = tags.length ∧ (tags.length = 1 → st = St.ok ∧ sts = [0]) ∧
        Replied h 0x0108 st (sts.filter (fun x => x != 0)).length
          (.bytes (leBytes 2 tags.length ++ [0, 0] ++ (tags.zip sts).flatMap (fun e => leBytes 2 e.1 ++ leBytes 2 e.2))) s')))

/-- DEV_PARAM_STAGE of one entry that passes holds it with status 0x0003. DEV_STAGE_CLEAR empties the stage. DEV_PARAM_COMMIT by the owner of a stage that no
unit refuses replies OK with the new COMMIT_SEQ in DETAIL, empties the stage and puts every staged INSP value in force; one of an empty stage draws
0x0201 and one by a session that does not own draws 0x0305 with the holder. DEV_PARAM_WRITE of one INSP entry on an empty stage does both. (spec/04_commands.md) -/
def Obligations.DevStaging : Prop :=
  (∀ (t : Nat) (h : Hdr) (s : State) (id v : Nat), Taken 0x0102 t h s → id < 2 ^ 32 → v < 2 ^ 32 → vlenOf id = some 4 → s.stageOf h.session = [] →
    stageStatus (s.role h.session) ⟨id, 4, 0, v⟩ = St.staged →
    Answers (.devParamStage t h ([1, 0, 0, 0] ++ leBytes 4 id ++ [4, 0, 0, 0] ++ leBytes 4 v)) s (fun s' =>
      Replied h 0x0102 St.ok 0 (.bytes ([1, 0, 0, 0] ++ leBytes 4 id ++ [3, 0, 0, 0])) s' ∧ s'.stageOf h.session = [⟨id, v⟩] ∧
      s'.rest = (s.taken t h).rest)) ∧
  (∀ (t : Nat) (h : Hdr) (s : State), Taken 0x0105 t h s →
    Answers (.devStageClear t h []) s (fun s' => Replied h 0x0105 St.ok 0 (.bytes []) s' ∧ s'.stageOf h.session = [] ∧
      s'.rest = (s.taken t h).rest)) ∧
  (∀ (t : Nat) (h : Hdr) (s : State) (st : List StageEntry), Taken 0x0103 t h s → s.stageOf h.session = st → st ≠ [] → (s.taken t h).owns h.session →
    st.all (fun e => idSvc e.id == 0x0E && mayWrite (s.role h.session) e.id) → (st.map StageEntry.id).Nodup →
    (s.taken t h).refusals h.session st = [] → (s.taken t h).newPins st = [] → s.pins.length ≤ 1024 →
    Answers (.devParamCommit t h []) s (fun s' =>
      Replied h 0x0103 St.ok ((s.par Par.devCommitSeq + 1) % 2 ^ 32) (.bytes (statusBody (st.map (fun e => (e.id, St.ok))))) s' ∧
      s'.par Par.devCommitSeq = (s.par Par.devCommitSeq + 1) % 2 ^ 32 ∧ s'.stageOf h.session = [] ∧ ∀ e ∈ st, s'.par e.id = e.value)) ∧
  (∀ (t : Nat) (h : Hdr) (s : State), Taken 0x0103 t h s → s.stageOf h.session = [] → (s.taken t h).owns h.session →
    Answers (.devParamCommit t h []) s (fun s' => Replied h 0x0103 St.nothingStaged 0 (.bytes []) s' ∧ s'.rest = (s.taken t h).rest)) ∧
  (∀ (t : Nat) (h : Hdr) (s : State), Taken 0x0103 t h s → s.stageOf h.session = [] → (s.taken t h).owns h.session = false →
    Answers (.devParamCommit t h []) s (fun s' => Replied h 0x0103 St.notOwner s.own.holder (.bytes []) s' ∧ s'.rest = (s.taken t h).rest)) ∧
  (∀ (t : Nat) (h : Hdr) (s : State) (id v : Nat), Taken 0x0104 t h s → id < 2 ^ 32 → v < 2 ^ 32 → vlenOf id = some 4 → idSvc id = 0x0E →
    s.stageOf h.session = [] → stageStatus (s.role h.session) ⟨id, 4, 0, v⟩ = St.staged → (s.taken t h).owns h.session →
    (s.taken t h).refusals h.session [⟨id, v⟩] = [] → (s.taken t h).newPins [⟨id, v⟩] = [] → s.pins.length ≤ 1024 →
    Answers (.devParamWrite t h ([1, 0, 0, 0] ++ leBytes 4 id ++ [4, 0, 0, 0] ++ leBytes 4 v)) s (fun s' =>
      Replied h 0x0104 St.ok ((s.par Par.devCommitSeq + 1) % 2 ^ 32) (.bytes ([1, 0, 0, 0] ++ leBytes 4 id ++ [0, 0, 0, 0])) s' ∧
      s'.par id = v ∧ s'.stageOf h.session = []))

/-- From VACANT, OWN_CLAIM by a role that may own makes the session owner with a lease that starts at the grant, and EV016's count rises; while another session
owns it draws 0x0306 with the holder. OWN_RELEASE makes the device VACANT; OWN_LEASE_RENEW moves the lease end to arrival plus the lease in
force; OWN_HANDOVER_OFFER makes the state OFFERED to the target and OWN_HANDOVER_ACCEPT gives the target ownership. (spec/05_ownership.md) -/
def Obligations.OwnershipOfSessions : Prop :=
  (∀ (t : Nat) (h : Hdr) (s : State) (lease : Nat), Taken 0x0401 t h s → lease = 0 ∨ (1000 ≤ lease ∧ lease ≤ 600000) → s.mayOwn (s.role h.session) →
    s.own.state = 0 → Answers (.ownClaim t h (leBytes 4 lease ++ [0, 0, 0, 0])) s (fun s' =>
      s'.own.state = 1 ∧ s'.own.holder = h.session ∧
      s'.own.leaseEnd = (s.at_ t).ring + 1000000 * (if lease = 0 then s.par Par.ownLeaseDefault else lease) ∧ CountsUp (Par.evtCount000 + Ev.ownerChanged) s s' ∧
      Replied h 0x0401 St.ok 0 (.bytes s'.leaseBody) s')) ∧
  (∀ (t : Nat) (h : Hdr) (s : State) (lease : Nat), Taken 0x0401 t h s → lease = 0 ∨ (1000 ≤ lease ∧ lease ≤ 600000) → s.mayOwn (s.role h.session) →
    s.own.state = 1 → s.own.holder ≠ h.session → Answers (.ownClaim t h (leBytes 4 lease ++ [0, 0, 0, 0])) s (fun s' =>
      Replied h 0x0401 St.claimLost s.own.holder (.bytes []) s' ∧ s'.rest = (s.taken t h).rest)) ∧
  (∀ (t : Nat) (h : Hdr) (s : State), Taken 0x0402 t h s → s.owns h.session → Answers (.ownRelease t h []) s (fun s' =>
      s'.own.state = 0 ∧ s'.own.holder = 0 ∧ s'.own.leaseEnd = 0 ∧ Replied h 0x0402 St.ok 0 (.bytes []) s')) ∧
  (∀ (t : Nat) (h : Hdr) (s : State), Taken 0x0403 t h s → s.owns h.session → Answers (.ownLeaseRenew t h []) s (fun s' =>
      s'.own.state = s.own.state ∧ s'.own.holder = h.session ∧ s'.own.leaseEnd =
        (s.at_ t).ring + 1000000 * (if s.own.byDefault then s.par Par.ownLeaseDefault else s.own.leaseMs) ∧
      Replied h 0x0403 St.ok 0 (.bytes s'.leaseBody) s')) ∧
  (∀ (t : Nat) (h : Hdr) (s : State) (n : Nat), Taken 0x0404 t h s → s.owns h.session → n < 256 → n ≠ h.session → (s.session n).isSome →
    s.mayOwn (s.role h.session) → s.mayOwn (s.role n) → Answers (.ownHandoverOffer t h (leBytes 1 n ++ [0, 0, 0])) s (fun s' =>
      s'.own.state = 2 ∧ s'.own.holder = h.session ∧ s'.own.target = n ∧
      s'.own.windowEnd = max s.now t + 1000000 * s.par Par.ownHandoverWindow ∧ Replied h 0x0404 St.ok 0 (.bytes []) s')) ∧
  (∀ (t : Nat) (h : Hdr) (s : State), Taken 0x0405 t h s → s.mayOwn (s.role h.session) → s.own.state = 2 → s.own.target = h.session →
    s.own.holder ≠ h.session → Answers (.ownHandoverAccept t h []) s (fun s' =>
      s'.own.state = 1 ∧ s'.own.holder = h.session ∧ s'.own.leaseEnd = (s.at_ t).ring + 1000000 * s.par Par.ownLeaseDefault ∧
      Replied h 0x0405 St.ok 0 (.bytes s'.leaseBody) s'))

/-- LEASE_END at or past the lease end makes the device VACANT; HANDOVER_WINDOW_END at or past the window's end gives the offerer its ownership back;
MGMT_IDLE_EXPIRY after OWN.IDLE_LIMIT without an SPI transaction ends the port's hold. MGMT_HOLDER_CLAIM with a non-zero value while OWN.MGMT_CLAIM is 1 and the device is
VACANT makes the port owner (17); MGMT_HOLDER_RELEASE while the port holds makes the device VACANT.
OWN_UNPIN by the owner of one parameter that its role may change ends its pin alone. OWN_PIN_LIST replies with the count of all pins and the pins asked for in
ascending ID. OWN_POLICY_RESET by an owning Integrator, where no policy parameter stands away from its commissioned value and no nozzle is pinned, ends every pin and advances COMMIT_SEQ. (spec/04_commands.md, spec/05_ownership.md, spec/24_parameter_groups.md) -/
def Obligations.OwnershipLimitsAndPins : Prop :=
  ((∀ (t : Nat) (s : State), s.own.state ≠ 0 → s.own.holder ≠ 17 → s.own.leaseEnd ≤ (s.at_ t).ring → Answers (.leaseEnd t) s (fun s' =>
      s'.own.state = 0 ∧ s'.own.holder = 0)) ∧
  (∀ (t : Nat) (s : State), s.own.state = 2 → s.own.windowEnd ≤ max s.now t → Answers (.handoverWindowEnd t) s (fun s' =>
      s'.own = { s.own with state := 1, target := 0 })) ∧
  (∀ (t : Nat) (s : State), s.own.holder = 17 → s.own.mgmtLast + 1000000 * s.par Par.ownIdleLimit ≤ max s.now t →
    Answers (.mgmtIdleExpiry t) s (fun s' => s'.own.state = 0 ∧ s'.own.holder = 0)) ∧
  (∀ (t v : Nat) (s : State), v % 256 ≠ 0 → s.par Par.ownMgmtClaim = 1 → s.own.state = 0 → Answers (.mgmtHolderClaim t v) s (fun s' =>
      s'.own.state = 1 ∧ s'.own.holder = 17 ∧ s'.own.leaseEnd = 0 ∧ s'.mgmt.resStatus = 0)) ∧
  (∀ (t : Nat) (s : State), s.own.holder = 17 → Answers (.mgmtHolderRelease t) s (fun s' => s'.own.state = 0 ∧ s'.own.holder = 0))) ∧
  ((∀ (t : Nat) (h : Hdr) (s : State) (id : Nat), Taken 0x0406 t h s → s.owns h.session → id < 2 ^ 32 - 1 → unpinStatus (s.role h.session) id = St.ok →
    Answers (.ownUnpin t h ([1, 0, 0, 0] ++ leBytes 4 id)) s (fun s' => s'.pins = s.pins.filter (fun p => p.id ≠ id) ∧
      Replied h 0x0406 St.ok 0 (.bytes ([1, 0, 0, 0] ++ leBytes 4 id ++ [0, 0, 0, 0])) s')) ∧
  (∀ (t : Nat) (h : Hdr) (s : State) (o n : Nat), Taken 0x0408 t h s → o ≤ 1023 → 1 ≤ n → n ≤ 512 →
    Answers (.ownPinList t h (leBytes 2 o ++ leBytes 2 n)) s (fun s' => s'.rest = (s.taken t h).rest ∧
      Replied h 0x0408 St.ok 0 (.bytes (leBytes 2 s.pins.length ++ leBytes 2 ((s.sortedPins.drop o).take n).length ++
        ((s.sortedPins.drop o).take n).flatMap (fun p => leBytes 4 p.id ++ leBytes 1 p.session ++ [0, 0, 0] ++ leBytes 8 p.t))) s')) ∧
  (∀ (t : Nat) (h : Hdr) (s : State), Taken 0x0407 t h s → s.owns h.session → s.role h.session = roleIntegrator → s.policyMoved = [] →
    (∀ n < 16, (s.ledger n).entries.all (fun e => !ePin e.2)) →
    Answers (.ownPolicyReset t h []) s (fun s' => s'.pins = [] ∧ s'.par Par.devCommitSeq = (s.par Par.devCommitSeq + 1) % 2 ^ 32 ∧
      Replied h 0x0407 St.ok 0 (.bytes []) s')))

/-- SHELL_JOB_KEY_LOAD of a job new to the store, whose body wraps a key for the device, gives the session the only hold on that key; SHELL_JOB_KEY_DROP ends every hold on it.
SHELL_REKEY flips the epoch of a session whose 64 ms do not run, and is held for one whose 64 ms run, both with nothing queued and no epoch about to start; in every case it replies OK. (spec/06_secrecy.md) -/
def Obligations.ShellKeys : Prop :=
  (∀ (t : Nat) (h : Hdr) (b : List Byte) (k : Nat) (s : State), Taken 0x0201 t h s → s.unwrapJob b = some k → b.length = 160 → leAt b 0 8 ≠ 0 → leAt b 8 1 = 1 → zeroAt b 9 3 → zeroAt b 109 3 →
    mayHoldKeys (s.role h.session) → s.shell.tampered = false → s.keyOf (leAt b 0 8) = none → s.shell.keys.length < 8192 →
    (s.shell.keys.filter (fun k => k.holders.contains h.session)).length < 256 →
    Answers (.shellJobKeyLoad t h b ()) s (fun s' => s'.keyOf (leAt b 0 8) = some ⟨leAt b 0 8, k, [h.session], false, []⟩ ∧
      Replied h 0x0201 St.ok 0 (.bytes []) s')) ∧
  (∀ (t : Nat) (h : Hdr) (job : Nat) (s : State), Taken 0x0202 t h s → 0 < job → job < 2 ^ 64 → s.holdsKey h.session job → s.shell.tampered = false →
    Answers (.shellJobKeyDrop t h (leBytes 8 job)) s (fun s' => ∀ n, s'.holdsKey n job = false)) ∧
  (∀ (t : Nat) (h : Hdr) (x : Session) (s : State), Taken 0x0203 t h s → s.session h.session = some x → s.shell.tampered = false → x.txNew = false →
    x.txRuns (max s.now t) = false → x.txq = [] →
    Answers (.shellRekey t h []) s (fun s' => (s'.session h.session).map Session.epochTx = some (!x.epochTx) ∧ Replied h 0x0203 St.ok 0 (.bytes []) s')) ∧
  (∀ (t : Nat) (h : Hdr) (x : Session) (s : State), Taken 0x0203 t h s → s.session h.session = some x → s.shell.tampered = false → x.txNew = false →
    x.txRuns (max s.now t) → x.txq = [] → x.txc < 2 ^ 31 →
    Answers (.shellRekey t h []) s (fun s' => (s'.session h.session).map Session.rekeyHeld = some true ∧ Replied h 0x0203 St.ok 0 (.bytes []) s')) ∧
  (∀ (t : Nat) (h : Hdr) (s : State), Taken 0x0203 t h s → s.shell.tampered = false →
    Answers (.shellRekey t h []) s (fun s' => Replied h 0x0203 St.ok 0 (.bytes []) s'))

/-- In commissioning mode an Integrator whose chain roots in an unrevoked Integrator slot starts the burn of an empty slot with the digest of its certificate, or the revoke of a written slot that leaves another
Integrator root, and the reply is PENDING. FUSE_PROGRAM_DONE with a read-back that agrees leaves the slot burnt with its kind, or revoked, and ends the command OK. SHELL_CERT_READ returns
bytes of the device chain and SHELL_ATTEST a statement over the nonce.
SHELL_TAMPER erases every job key, ends every session and marks the Shell; ENTROPY_FAIL sets SHELL.ENTROPY_STATE to 2; UTC_FLOOR_WRITE by an owning Integrator of a value at or
above the estimate becomes the floor and restarts the elapsed time; SVN_COMMIT_WRITE within the bound burns the fuses up to the value and never down. (spec/06_secrecy.md) -/
def Obligations.ShellCommissionAndFaults : Prop :=
  ((∀ (t : Nat) (h : Hdr) (x : Session) (slot kind : Nat) (cert : List Byte) (s : State), Taken 0x0204 t h s → s.session h.session = some x → slot < 4 → kind = 1 ∨ kind = 2 →
    0 < cert.length → cert.length ≤ 2048 → s.par Par.shellCommissionState = 1 → x.commissioning = false → s.rootsInSlot x →
    (s.slot slot).kind = 0 → s.shell.fuses.all (fun j => j.slot != slot) → s.shell.tampered = false →
    Answers (.shellCommissionBurn t h (leBytes 1 slot ++ [1] ++ leBytes 1 kind ++ [0] ++ leBytes 2 cert.length ++ [0, 0] ++ cert ++
        List.replicate (up4 cert.length - cert.length) 0) ()) s (fun s' =>
      PendingSent h 0x0204 s' ∧ ∃ cid, s'.shell.fuses = s.shell.fuses ++ [⟨cid, slot, false, kind, leNat (sha384 cert)⟩])) ∧
  (∀ (t : Nat) (h : Hdr) (x : Session) (slot : Nat) (s : State), Taken 0x0204 t h s → s.session h.session = some x → slot < 4 →
    s.par Par.shellCommissionState = 1 → x.commissioning = false → s.rootsInSlot x → (s.slot slot).kind ≠ 0 → (s.slot slot).revoked = false →
    ((s.slot slot).kind = 1 → ∃ other < 4, other ≠ slot ∧ s.keepsIntegrator other) → s.shell.fuses.all (fun j => j.slot != slot) → s.shell.tampered = false →
    Answers (.shellCommissionRevoke t h (leBytes 1 slot ++ [2, 0, 0, 0, 0, 0, 0])) s (fun s' =>
      PendingSent h 0x0204 s' ∧ ∃ cid, s'.shell.fuses = s.shell.fuses ++ [⟨cid, slot, true, 0, leNat (sha384 [])⟩])) ∧
  (∀ (t : Nat) (j : FuseJob) (rest : List FuseJob) (s : State), s.shell.fuses = j :: rest → j.slot < s.shell.slots.length →
    Answers (.fuseProgramDone t true) s (fun s' => s'.shell.fuses = rest ∧ FinalSent j.cid St.ok 0 (.bytes []) s s' ∧
      (if j.revoke then (s'.slot j.slot).revoked = true ∧ (s'.slot j.slot).kind = (s.slot j.slot).kind
       else s'.slot j.slot = ⟨j.kind, false, j.digest⟩))) ∧
  (∀ (t : Nat) (h : Hdr) (b : List Byte) (o n : Nat) (s : State), Taken 0x0205 t h s → learnRight (s.role h.session) .identity = .all → n ≤ 9104 →
    Answers (.shellCertRead t h b o n) s (fun s' => s'.rest = (s.taken t h).rest ∧
      Replied h 0x0205 St.ok 0 (.bytes ((ownChain.drop o).take n)) s')) ∧
  (∀ (t : Nat) (h : Hdr) (b : List Byte) (s : State), Taken 0x0206 t h s → b.length = 32 → s.shell.tampered = false → s.shell.entropyFailed = false →
    Answers (.shellAttest t h b) s (fun s' => s'.draws = s.draws + 1 ∧
      ∃ f, Replied h 0x0206 St.ok 0 (.fields f) s' ∧ ("nonce", leNat b) ∈ f ∧ ("serial", s.par Par.devSerial) ∈ f))) ∧
  ((∀ (t : Nat) (s : State), Answers (.shellTamper t) s (fun s' => s'.shell.tampered = true ∧ s'.shell.keys = [] ∧ s'.sessions = [])) ∧
  (∀ (t n : Nat) (s : State), Answers (.entropyFail t n) s (fun s' => s'.shell.entropyFailed = true ∧ s'.par Par.shellEntropyState = 2)) ∧
  (∀ (t n v : Nat) (s : State), s.mayCommit n Par.shellUtcFloor → (s.at_ t).utcEstimate ≤ v → v < 2 ^ 64 →
    Answers (.utcFloorWrite t n v) s (fun s' => s'.par Par.shellUtcFloor = v ∧ s'.shell.utcBase = (s.at_ t).ring ∧ s'.utcEstimate = v)) ∧
  (∀ (t n v : Nat) (s : State), s.mayCommit n Par.shellSvnCommit → s.svnRefused v = false → v ≤ 64 →
    Answers (.svnCommitWrite t n v) s (fun s' => s'.par Par.shellSvnFuse = max (s.par Par.shellSvnFuse) v)))

/-- SPOOL_SEG_OPEN with fields in range, by a session with the right J that holds the job's key, while the device is ready, the handle is not tracked and queue, size and pods
suffice, adds one segment that is OPEN, carries exactly the fields of the body and one strip per declared size, and reserves one pod per begun MiB of each strip. A handle that is
tracked draws 0x0202 with its state, and fewer free pods than needed draw 0x0417 with the free pods; both create nothing. (spec/07_segments_and_spool.md) -/
def Obligations.SegmentsOpen : Prop :=
  (∀ (t : Nat) (h : Hdr) (job segId m depth heads lines rate first : Nat) (sizes : List Nat) (s : State), Taken 0x0501 t h s → job < 2 ^ 64 → segId < 2 ^ 64 →
    (m = 0 ∧ first < 2 ^ 64) ∨ (m % 2 = 1 ∧ m < 8 ∧ first < 2 ^ 32) → 1 ≤ depth → depth ≤ 3 → 1 ≤ heads → heads < 2 ^ 16 → 1 ≤ lines → lines ≤ 262144 →
    1 ≤ rate → rate ≤ 240000 → sizes.length = popcount 16 heads * stripCount lines → (∀ x ∈ sizes, 1 ≤ x ∧ x ≤ 16777216) → mayFeed (s.role h.session) →
    s.holdsKey h.session job → s.keyLive job → s.ready → s.tracked (s.handleOf job segId) = none → s.queued < 4096 →
    (sizes.map podsOf).sum * 1048576 ≤ s.par Par.spoolMaxSegmentBytes → (sizes.map podsOf).sum ≤ s.podsFree →
    Answers (.spoolSegOpen t h (leBytes 8 job ++ leBytes 8 segId ++ leBytes 1 m ++ leBytes 1 depth ++ leBytes 2 heads ++ leBytes 4 lines ++ leBytes 4 rate ++
        leBytes 8 first ++ leBytes 8 0 ++ leBytes 2 0 ++ leBytes 2 0 ++ leBytes 4 0 ++ sizes.flatMap (leBytes 4))) s (fun s' =>
      ∃ g, s'.spool.segs = s.spool.segs ++ [g] ∧ g.handle = s.handleOf job segId ∧ g.job = job ∧ g.segId = segId ∧ g.printGo = (m != 0) ∧
        g.pgo = m / 2 ∧ g.keep = false ∧ g.group = false ∧ g.depth = depth ∧ g.heads = heads ∧ g.lines = lines ∧ g.rate = rate ∧ g.first = first ∧
        g.opener = h.session ∧ g.state = Sg.opened ∧ g.strips.map Strip.size = sizes ∧ g.strips.all (fun x => x.held == 0 && x.state == 0) ∧
        g.reserved = (sizes.map podsOf).sum ∧ Replied h 0x0501 St.ok 0 (.bytes (leBytes 8 g.handle)) s')) ∧
  (∀ (t : Nat) (h : Hdr) (b : List Byte) (st : Nat) (s : State), Taken 0x0501 t h s → OpenForm b → mayFeed (s.role h.session) → s.holdsKey h.session (leAt b 0 8) →
    s.keyLive (leAt b 0 8) → bitAt (leAt b 16 1) 3 = false → s.ready → s.tracked (s.handleOf (leAt b 0 8) (leAt b 8 8)) = some st →
    Answers (.spoolSegOpen t h b) s (fun s' => s'.rest = (s.taken t h).rest ∧ Replied h 0x0501 St.segmentState st (.bytes []) s')) ∧
  (∀ (t : Nat) (h : Hdr) (b : List Byte) (s : State), Taken 0x0501 t h s → OpenForm b → mayFeed (s.role h.session) → s.holdsKey h.session (leAt b 0 8) →
    s.keyLive (leAt b 0 8) → bitAt (leAt b 16 1) 3 = false → s.ready → s.tracked (s.handleOf (leAt b 0 8) (leAt b 8 8)) = none → s.queued < 4096 →
    (openSizes b |>.map podsOf).sum * 1048576 ≤ s.par Par.spoolMaxSegmentBytes → s.podsFree < (openSizes b |>.map podsOf).sum →
    Answers (.spoolSegOpen t h b) s (fun s' => s'.rest = (s.taken t h).rest ∧ Replied h 0x0501 St.spoolFull s.podsFree (.bytes []) s'))

/-- Data of the opener at STRIP_HELD of a strip that it does not complete is appended, and the reply carries the new STRIP_HELD and state 0. A close by the opener of a segment with a
short or failed strip draws 0x0215 with the first such strip, counts in SPOOL.SEG_REFUSED and removes the segment; one whose strips are verified and which admission accepts makes it ACCEPTED, counts in
SPOOL.SEG_ACCEPTED and replies OK; one that admission refuses draws that refusal. Another session draws 0x010D. (spec/02_delivery_promise.md, spec/07_segments_and_spool.md) -/
def Obligations.SegmentsFillAndClose : Prop :=
  (∀ (t : Nat) (h : Hdr) (hd head k off : Nat) (d : List Byte) (g : Seg) (x : Strip) (s : State), Taken 0x0502 t h s → hd < 2 ^ 64 → s.seg hd = some g →
    g.opener = h.session → head < 16 → k < 64 → bitAt g.heads head → g.strip head k = some x → g.state = Sg.opened → x.state = 0 → off = x.held → off < 2 ^ 32 →
    1 ≤ d.length → d.length ≤ 9096 → off + d.length < x.size →
    Answers (.spoolSegData t h (leBytes 8 hd ++ leBytes 1 head ++ leBytes 1 k ++ leBytes 2 d.length ++ leBytes 4 off ++ d ++
        List.replicate (up4 d.length - d.length) 0) 0) s (fun s' =>
      (∃ x', (s'.seg hd).bind (fun g => g.strip head k) = some x' ∧ x'.held = off + d.length ∧ x'.data = x.data ++ d ∧ x'.state = 0) ∧
      ∃ n, Replied h 0x0502 St.ok 0 (.bytes (leBytes 4 (off + d.length) ++ [0, 0, 0, 0] ++ leBytes 8 n)) s')) ∧
  (∀ (t : Nat) (h : Hdr) (hd d : Nat) (g : Seg) (s : State), Taken 0x0503 t h s → hd < 2 ^ 64 → s.seg hd = some g → g.opener = h.session → g.state = Sg.opened →
    s.keyLive g.job → g.group = false → g.badStrip = some d →
    Answers (.spoolSegClose t h (leBytes 8 hd)) s (fun s' => s'.seg hd = none ∧ CountsUp Par.spoolSegRefused s s' ∧
      Replied h 0x0503 St.verifyFailed d (.bytes []) s')) ∧
  (∀ (t : Nat) (h : Hdr) (hd : Nat) (g : Seg) (s : State), Taken 0x0503 t h s → hd < 2 ^ 64 → s.spool.segs.filter (fun x => x.handle == hd) = [g] → g.opener = h.session →
    g.state = Sg.opened → s.keyLive g.job → g.group = false → g.badStrip = none → g.strips.all (fun x => x.state == 1) → g.source = none → (s.taken t h).admission g 0 = .accept →
    Answers (.spoolSegClose t h (leBytes 8 hd)) s (fun s' => (s'.seg hd).map Seg.state = some Sg.accepted ∧
      (s'.seg hd).map Seg.tAccept = some (s.at_ t).ring ∧ CountsUp Par.spoolSegAccepted s s' ∧ Replied h 0x0503 St.ok 0 (.bytes []) s')) ∧
  (∀ (t : Nat) (h : Hdr) (hd st d : Nat) (b : Body) (g : Seg) (s : State), Taken 0x0503 t h s → hd < 2 ^ 64 → s.spool.segs.filter (fun x => x.handle == hd) = [g] →
    g.opener = h.session → g.state = Sg.opened → s.keyLive g.job → g.group = false → g.badStrip = none → g.strips.all (fun x => x.state == 1) →
    (s.taken t h).admission g 0 = .refuse st d b →
    Answers (.spoolSegClose t h (leBytes 8 hd)) s (fun s' => s'.seg hd = none ∧ CountsUp Par.spoolSegRefused s s' ∧ Replied h 0x0503 st d b s')) ∧
  (∀ (t : Nat) (h : Hdr) (hd : Nat) (g : Seg) (s : State), Taken 0x0503 t h s → hd < 2 ^ 64 → s.seg hd = some g → g.opener ≠ h.session →
    Answers (.spoolSegClose t h (leBytes 8 hd)) s (fun s' => s'.rest = (s.taken t h).rest ∧ Replied h 0x0503 St.unknownHandle 0 (.bytes []) s'))

/-- Of an OPEN or VERIFYING segment it discards it; a VOTING one that has not voted is refused and counted, and one that has voted keeps its state until the decision; of an ACCEPTED one it makes it CANCELLED, counts in SPOOL.SEG_CANCELLED and puts it into the handle memory; IN_HORIZON and PRINTING draw 0x0220; a
finished handle draws 0x0222; a RETAINED segment without repeats is released. A session that neither owns nor opened draws 0x0305 with the holder. (spec/02_delivery_promise.md, spec/05_ownership.md, spec/07_segments_and_spool.md) -/
def Obligations.SegmentsCancel : Prop :=
  (∀ (t : Nat) (h : Hdr) (hd : Nat) (g : Seg) (s : State), Taken 0x0504 t h s → hd < 2 ^ 64 → s.seg hd = some g → mayFeed (s.role h.session) →
    g.opener = h.session ∨ s.owns h.session → g.state = Sg.opened ∨ g.state = Sg.verifying →
    Answers (.spoolSegCancel t h (leBytes 8 hd)) s (fun s' => s'.seg hd = none ∧ s'.spool.done = s.spool.done ∧ Replied h 0x0504 St.ok 0 (.bytes []) s')) ∧
  (∀ (t : Nat) (h : Hdr) (hd : Nat) (g : Seg) (s : State), Taken 0x0504 t h s → hd < 2 ^ 64 → s.seg hd = some g → mayFeed (s.role h.session) →
    g.opener = h.session ∨ s.owns h.session → g.state = Sg.voting → g.votedAt = none →
    Answers (.spoolSegCancel t h (leBytes 8 hd)) s (fun s' => s'.seg hd = none ∧ CountsUp Par.spoolSegRefused s s' ∧ Replied h 0x0504 St.ok 0 (.bytes []) s')) ∧
  (∀ (t : Nat) (h : Hdr) (hd : Nat) (g : Seg) (s : State), Taken 0x0504 t h s → hd < 2 ^ 64 → s.seg hd = some g → mayFeed (s.role h.session) →
    g.opener = h.session ∨ s.owns h.session → g.state = Sg.voting → g.votedAt.isSome →
    Answers (.spoolSegCancel t h (leBytes 8 hd)) s (fun s' => ∃ c f, s'.seg hd = some { g with cancelCids := g.cancelCids ++ [c] } ∧ s'.flight c = some f ∧
      f.session = h.session ∧ f.tag = h.tag ∧ f.final = none)) ∧
  (∀ (t : Nat) (h : Hdr) (hd : Nat) (g : Seg) (s : State), Taken 0x0504 t h s → hd < 2 ^ 64 → s.seg hd = some g → mayFeed (s.role h.session) →
    g.opener = h.session ∨ s.owns h.session → g.state = Sg.accepted → g.source = none → s.spool.done.all (fun d => d.handle != hd) → s.spool.done.length < 65536 →
    Answers (.spoolSegCancel t h (leBytes 8 hd)) s (fun s' => s'.seg hd = none ∧ s'.tracked hd = some Sg.cancelled ∧ CountsUp Par.spoolSegCancelled s s' ∧
      s'.par Par.spoolLinesPrinted = s.par Par.spoolLinesPrinted ∧ Replied h 0x0504 St.ok 0 (.bytes []) s')) ∧
  (∀ (t : Nat) (h : Hdr) (hd : Nat) (g : Seg) (s : State), Taken 0x0504 t h s → hd < 2 ^ 64 → s.seg hd = some g → mayFeed (s.role h.session) →
    g.opener = h.session ∨ s.owns h.session → g.state = Sg.inHorizon ∨ g.state = Sg.printing →
    Answers (.spoolSegCancel t h (leBytes 8 hd)) s (fun s' => s'.rest = (s.taken t h).rest ∧ Replied h 0x0504 St.insideHorizon 0 (.bytes []) s')) ∧
  (∀ (t : Nat) (h : Hdr) (hd : Nat) (d : Done) (s : State), Taken 0x0504 t h s → hd < 2 ^ 64 → s.seg hd = none → s.spool.done.find? (fun d => d.handle == hd) = some d →
    mayFeed (s.role h.session) → d.opener = h.session ∨ s.owns h.session → Answers (.spoolSegCancel t h (leBytes 8 hd)) s (fun s' => s'.rest = (s.taken t h).rest ∧
      Replied h 0x0504 St.alreadyDone 0 (.bytes []) s')) ∧
  (∀ (t : Nat) (h : Hdr) (hd : Nat) (g : Seg) (s : State), Taken 0x0504 t h s → hd < 2 ^ 64 → s.seg hd = some g → mayFeed (s.role h.session) →
    g.opener = h.session ∨ s.owns h.session → g.state = Sg.retained → s.spool.segs.all (fun x => x.source != some hd) → g.cancelCids = [] →
    s.spool.done.all (fun d => d.handle != hd) → s.spool.done.length < 65536 →
    Answers (.spoolSegCancel t h (leBytes 8 hd)) s (fun s' => s'.tracked hd = some (if g.isBroken then Sg.broken else Sg.complete) ∧ s'.seg hd = none ∧
      Replied h 0x0504 St.ok 0 (.bytes []) s')) ∧
  (∀ (t : Nat) (h : Hdr) (hd : Nat) (g : Seg) (s : State), Taken 0x0504 t h s → hd < 2 ^ 64 → s.seg hd = some g → mayFeed (s.role h.session) →
    g.opener ≠ h.session → s.owns h.session = false → Answers (.spoolSegCancel t h (leBytes 8 hd)) s (fun s' => s'.rest = (s.taken t h).rest ∧
      Replied h 0x0504 St.notOwner s.own.holder (.bytes []) s'))

/-- SPOOL_SEG_STATUS of one handle that the spool holds replies with its state and flags; SPOOL_RECORD_READ of an accepted segment with its record; SPOOL_ACCOUNT_READ with the nine counters in the order of
their table; DECODE_STATUS with the units in service and the session's failures; none changes anything. SPOOL_REPEAT of a KEEP segment that admission accepts adds an ACCEPTED segment over the source's strips and counts in SPOOL.REPEATS. (spec/07_segments_and_spool.md, spec/08_raster_and_decode.md) -/
def Obligations.SpoolReads : Prop :=
  (∀ (t : Nat) (h : Hdr) (hd : Nat) (g : Seg) (s : State), Taken 0x0506 t h s → hd < 2 ^ 64 → s.seg hd = some g → learnRight (s.role h.session) .spool = .all →
    Answers (.spoolSegStatus t h ([1, 0, 0, 0] ++ leBytes 8 hd)) s (fun s' => s'.rest = (s.taken t h).rest ∧
      Replied h 0x0506 St.ok 0 (.bytes ([1, 0, 0, 0] ++ leBytes 8 hd ++ [0, 0] ++ leBytes 1 g.state ++ leBytes 1 g.flags ++
        leBytes 4 (if g.state = Sg.printing ∨ g.state = Sg.retained then g.linesFinished else 0))) s')) ∧
  (∀ (t : Nat) (h : Hdr) (hd : Nat) (g : Seg) (s : State), Taken 0x0507 t h s → hd < 2 ^ 64 → s.seg hd = some g → g.state ≠ Sg.retained →
    learnRight (s.role h.session) .spool = .all →
    Answers (.spoolRecordRead t h (leBytes 8 hd)) s (fun s' => s'.rest = (s.taken t h).rest ∧ Replied h 0x0507 St.ok 0 (.bytes (s.recordBytes g)) s')) ∧
  (∀ (t : Nat) (h : Hdr) (s : State), Taken 0x0509 t h s → learnRight (s.role h.session) .counters = .all →
    Answers (.spoolAccountRead t h []) s (fun s' => s'.rest = (s.taken t h).rest ∧ Replied h 0x0509 St.ok 0 (.bytes ([0x05000100, 0x05000101, 0x05000102,
      0x05000103, 0x05000104, 0x05000105, 0x05000106, 0x05000107, 0x05000108].flatMap (fun id => leBytes 8 (s.par id)))) s')) ∧
  (∀ (t : Nat) (h : Hdr) (s : State), Taken 0x0701 t h s → (s.session h.session).elim [] Session.failures = [] →
    Answers (.decodeStatus t h []) s (fun s' => s'.rest = (s.taken t h).rest ∧
      Replied h 0x0701 St.ok 0 (.bytes (leBytes 4 s.spool.inflateUnits ++ leBytes 4 s.spool.checkUnits ++ List.replicate 8 0)) s')) ∧
  (∀ (t : Nat) (h : Hdr) (b : List Byte) (g : Seg) (s : State), Taken 0x0508 t h s → b.length = 36 → segRanges b = none → segReserved b = none →
    bitAt (leAt b 16 1) 3 = false → bitAt (leAt b 16 1) 4 = false → s.seg (leAt b 0 8) = some g → leAt b 17 1 % 4 = g.depth → leAt b 18 2 = g.heads →
    leAt b 20 4 = g.lines → s.keyLive g.job → mayFeed (s.role h.session) → s.owns h.session → s.ready → g.live ∨ g.state = Sg.retained → g.source = none → g.keep →
    s.tracked (s.handleOf g.job (leAt b 8 8)) = none → s.queued < 4096 →
    (s.taken t h).admission (repeatOf b (s.handleOf g.job (leAt b 8 8)) g h.session) 0 = .accept →
    Answers (.spoolRepeat t h b) s (fun s' => (s'.seg (s.handleOf g.job (leAt b 8 8))).map Seg.state = some Sg.accepted ∧
      (s'.seg (s.handleOf g.job (leAt b 8 8))).map Seg.source = some (some (leAt b 0 8)) ∧ CountsUp Par.spoolRepeats s s' ∧
      CountsUp Par.spoolSegAccepted s s' ∧ Replied h 0x0508 St.ok 0 (.bytes (leBytes 8 (s.handleOf g.job (leAt b 8 8)))) s'))

/-- STRIP_CHECK_START gives the strip or chunk whose first byte arrived first a free unit in service. STRIP_CHECK_COMPLETE of a complete strip of an OPEN segment makes it verified or failed as the check finds, counts it, and counts a
failure with EV032. CHUNK_START puts the next chunk of the waiting head with the fewest decoded lines ahead on a free inflate unit in service; CHUNK_RESTART moves a chunk to another unit, marks the lines it feeds and raises EV085. DECODE_UNIT_OUT takes a unit out, lowers SPOOL.DECODE_BUDGET by 3,200
and raises EV030; CHECK_UNIT_OUT raises EV031. HORIZON_ENTRY makes an ACCEPTED segment IN_HORIZON from its first line less the lead on, and not before. (spec/02_delivery_promise.md, spec/07_segments_and_spool.md, spec/08_raster_and_decode.md) -/
def Obligations.StripsAndChunks : Prop :=
  (∀ (t hd head k u n : Nat) (g : Seg) (x : Strip) (s : State), s.seg hd = some g → g.strip head k = some x →
    x.waitsAt = some n →
    s.spool.segs.all (fun g => g.strips.all (fun y => !y.unitsUsed.contains u && (y.waitsAt).elim true (fun m => decide (n ≤ m)))) → u < 32 → bitAt s.spool.checkUnits u →
    Answers (.stripCheckStart t hd head k u) s (fun s' => (s'.seg hd).bind (fun g => g.strip head k) = some { x with checking := true, unitsUsed := x.unitsUsed ++ [u] })) ∧
  (∀ (t hd head k : Nat) (g : Seg) (x : Strip) (s : State), s.seg hd = some g → g.state = Sg.opened → g.strip head k = some x →
    x.size ≤ x.held → x.state = 0 → x.checking → (checkStrip (s.stripWant g x) g.rate (x.data.take 240) (s.openStrip g x)).1.reason = 0 →
    Answers (.stripCheckComplete t hd head k () ()) s (fun s' => ((s'.seg hd).bind (fun g => g.strip head k)).map Strip.state = some 1 ∧
      CountsUp Par.decodeStripsChecked s s' ∧ s'.par Par.decodeStripsFailed = s.par Par.decodeStripsFailed)) ∧
  (∀ (t hd head k : Nat) (g : Seg) (x : Strip) (s : State), s.seg hd = some g → g.state = Sg.opened → g.strip head k = some x →
    x.size ≤ x.held → x.state = 0 → x.checking → (checkStrip (s.stripWant g x) g.rate (x.data.take 240) (s.openStrip g x)).1.reason ≠ 0 →
    Answers (.stripCheckComplete t hd head k () ()) s (fun s' => ((s'.seg hd).bind (fun g => g.strip head k)).map Strip.state = some 2 ∧
      CountsUp Par.decodeStripsChecked s s' ∧ CountsUp Par.decodeStripsFailed s s' ∧ CountsUp (Par.evtCount000 + Ev.stripCheckFailed) s s')) ∧
  (∀ (t hd head k start u n a : Nat) (g : Seg) (s : State), head < 16 → s.headChunk head = some (g, k, start, a) → g.handle = hd → s.waitsDecode head = some a →
    (List.range 16).all (fun h => (s.waitsDecode h).elim true (fun m => decide (a < m) || (a == m && decide (head ≤ h)))) → s.inflateFree u →
    Answers (.chunkStart t hd head k start u n) s (fun s' => ⟨head, hd, k, start, u⟩ ∈ s'.spool.chunks ∧ (s'.spool.chunks.filter (fun c => c.inflate == u)).length = 1 ∧
      (s.spool.chunks.all (fun c => c.head != head || c.inflate != 32) → lookup (hd, head) s'.spool.decoded = some (k, start)))) ∧
  (∀ (t hd head k start u v first n : Nat) (g : Seg) (s : State), s.seg hd = some g → ⟨head, hd, k, start, v⟩ ∈ s.spool.chunks → v ≠ u → s.inflateFree u →
    Answers (.chunkRestart t hd head k start u first n) s (fun s' => ⟨head, hd, k, start, u⟩ ∈ s'.spool.chunks ∧
      (s'.seg hd).map Seg.bad = some (g.bad ++ [(head, first, n)]) ∧ CountsUp Par.decodeChunkRestarts s s' ∧ CountsUp (Par.evtCount000 + Ev.huskUncorrectable) s s')) ∧
  (∀ (t u : Nat) (s : State), u < 32 → bitAt s.spool.inflateUnits u → Answers (.decodeUnitOut t u) s (fun s' => bitAt s'.spool.inflateUnits u = false ∧
      (∀ v, v ≠ u → bitAt s'.spool.inflateUnits v = bitAt s.spool.inflateUnits v) ∧ s'.par Par.spoolDecodeBudget = s.par Par.spoolDecodeBudget - 3200 ∧
      CountsUp (Par.evtCount000 + Ev.decodeUnitOut) s s')) ∧
  (∀ (t u : Nat) (s : State), u < 32 → bitAt s.spool.checkUnits u → Answers (.checkUnitOut t u) s (fun s' => bitAt s'.spool.checkUnits u = false ∧
      (∀ v, v ≠ u → bitAt s'.spool.checkUnits v = bitAt s.spool.checkUnits v) ∧ CountsUp (Par.evtCount000 + Ev.checkUnitOut) s s')) ∧
  (∀ (t hd : Nat) (g : Seg) (s : State), s.seg hd = some g → g.state = Sg.accepted → g.bound → g.p0 - g.lead ≤ s.pos.hw →
    Answers (.horizonEntry t hd) s (fun s' => (s'.seg hd).map Seg.state = some Sg.inHorizon ∧ (s'.seg hd).map Seg.next = some (g.headList.map (fun h => (h, 0))))) ∧
  (∀ (t hd : Nat) (g : Seg) (s : State), s.seg hd = some g → g.state = Sg.accepted → s.pos.hw < g.p0 - g.lead →
    Answers (.horizonEntry t hd) s (fun s' => s'.spool = s.spool))

/-- SPOOL_GROUP_ARM of the coordinator's own VOTING segment that admission accepts starts the vote. PREPARE makes a member whose VOTING segment is admitted note its yes vote and form its reservations. The last yes VOTE makes the coordinator fix a
commit instant 0.5 ms later, and a no VOTE refuses its segment. COMMIT notes the instant, GROUP_COMMIT_INSTANT accepts the segment, and ABORT refuses it. GROUP_VOTE_TIMEOUT at 2 ms ends the vote; GROUP_DECISION_LOST 4 ms after a yes vote and GROUP_WAIT_EXPIRY
after SPOOL.GROUP_WAIT refuse the segment. (spec/07_segments_and_spool.md, spec/15_causeway.md) -/
def Obligations.GroupVotes : Prop :=
  (∀ (t : Nat) (h : Hdr) (hd gr : Nat) (g : Seg) (s : State), Taken 0x0505 t h s → hd < 2 ^ 64 → gr < 2 ^ 64 → s.seg hd = some g → mayFeed (s.role h.session) → s.owns h.session →
    g.state = Sg.voting → s.keyLive g.job → g.group → g.groupId = gr → g.coord = s.address → g.votedAt = none → s.cause.timeLost = false →
    (s.taken t h).admission g ((s.at_ t).voteExtra g (s.at_ t).ring) = .accept →
    Answers (.spoolGroupArm t h (leBytes 8 hd ++ leBytes 8 gr)) s (fun s' => s'.cause.votes = s.cause.votes ++ [⟨gr, hd, (s.at_ t).ring, []⟩] ∧
      (s'.seg hd).map Seg.votedAt = some (some (max s.now t)) ∧ (s'.seg hd).map Seg.state = some Sg.voting)) ∧
  (∀ (t : Nat) (f : CFrame) (g : Seg) (s : State), RingTaken t 0x10 f s → s.groupSeg (cfAt f 20 8) = some g → g.coord = cfSrc f → g.state = Sg.voting → g.votedAt = none →
    s.keyLive g.job → s.cause.timeLost = false → (s.at_ t).admission g ((s.at_ t).voteExtra g (cfAt f 28 8)) = .accept →
    Answers (.prepare t f) s (fun s' => (s'.seg g.handle).map Seg.votedAt = some (some (max s.now t)) ∧
      (s'.seg g.handle).map Seg.decRate = some (s.decodeRate g) ∧ (s'.seg g.handle).map Seg.readRate = some g.readRateOf)) ∧
  (∀ (t : Nat) (f : CFrame) (v : Vote) (g : Seg) (s : State), RingTaken t 0x11 f s → s.cause.votes.find? (fun v => v.group == cfAt f 20 8) = some v →
    bitAt (cfAt f 28 1) 0 → cfSrc f ∉ v.yes → s.seg v.handle = some g → g.members ≤ v.yes.length + 2 →
    Answers (.vote t f) s (fun s' => s'.cause.commits = s.cause.commits ++ [(v.group, (s.at_ t).ring + 500000)] ∧ s'.cause.votes.all (fun w => w.group != v.group))) ∧
  (∀ (t : Nat) (f : CFrame) (v : Vote) (s : State), RingTaken t 0x11 f s → s.cause.votes.find? (fun v => v.group == cfAt f 20 8) = some v →
    bitAt (cfAt f 28 1) 0 = false →
    Answers (.vote t f) s (fun s' => s'.seg v.handle = none ∧ s'.cause.votes.all (fun w => w.group != v.group) ∧ CountsUp (Par.evtCount000 + Ev.groupAborted) s s')) ∧
  (∀ (t : Nat) (f : CFrame) (g : Seg) (s : State), RingTaken t 0x12 f s → s.groupSeg (cfAt f 20 8) = some g → g.votedAt.isSome → g.coord = cfSrc f →
    Answers (.commit t f) s (fun s' => s'.cause.commits = s.cause.commits ++ [(g.groupId, cfAt f 28 8)])) ∧
  (∀ (t gr at_ : Nat) (g : Seg) (s : State), s.cause.commits.find? (fun c => c.1 == gr && decide (c.2 ≤ (s.at_ t).ring)) = some (gr, at_) → s.groupSeg gr = some g → g.cancelCids = [] →
    Answers (.groupCommitInstant t gr) s (fun s' => (s'.seg g.handle).map Seg.state = some Sg.accepted ∧ CountsUp Par.spoolSegAccepted s s' ∧
      s'.cause.commits.all (fun c => c.1 != gr))) ∧
  (∀ (t : Nat) (f : CFrame) (g : Seg) (s : State), RingTaken t 0x13 f s → s.groupSeg (cfAt f 20 8) = some g → g.coord = cfSrc f → Sg.verifying ≤ g.state →
    Answers (.abort t f) s (fun s' => s'.seg g.handle = none ∧ CountsUp Par.spoolSegRefused s s')) ∧
  (∀ (t gr : Nat) (v : Vote) (s : State), s.cause.votes.find? (fun v => v.group == gr) = some v → v.sentAt + 2000000 ≤ (s.at_ t).ring →
    Answers (.groupVoteTimeout t gr) s (fun s' => s'.seg v.handle = none ∧ s'.cause.votes.all (fun w => w.group != gr) ∧ CountsUp (Par.evtCount000 + Ev.groupAborted) s s')) ∧
  (∀ (t hd v : Nat) (g : Seg) (s : State), s.seg hd = some g → g.state = Sg.voting → g.votedAt = some v → v + 4000000 ≤ max s.now t → g.coord ≠ s.address →
    s.cause.commits.all (fun c => c.1 != g.groupId) →
    Answers (.groupDecisionLost t hd) s (fun s' => s'.seg hd = none ∧ CountsUp Par.spoolSegRefused s s' ∧ CountsUp (Par.evtCount000 + Ev.groupDecisionLost) s s')) ∧
  (∀ (t hd : Nat) (g : Seg) (s : State), s.seg hd = some g → g.state = Sg.voting → g.votedAt = none → g.verifiedAt + 1000000 * s.par Par.spoolGroupWait ≤ max s.now t →
    Answers (.groupWaitExpiry t hd) s (fun s' => s'.seg hd = none ∧ CountsUp Par.spoolSegRefused s s'))

/-- COMP_LEDGER_READ replies with the entries asked for and changes nothing. COMP_NOZZLE_SET that puts a GOOD slot OUT, by the owner with the right to change the ledger, replaces the entry with STATE 2 and SOURCE 2 and no
other entry of the head, raises EV033 once, and replies PINNED exactly when the entry is pinned. COMP_TABLE_WRITE stages the table. COMP_CHART_QUEUE that admission accepts adds an ACCEPTED chart of depth 3 with the lines of its kind and raises
COMP.CHART_SERIAL by 1. COMP_ALIGN_APPLY of a NOZZLE_CHECK measurement sets a GOOD slot that did not print OUT, or HELD_OUT where it flaps, with SOURCE 3, uses the measurement up, and replies 0 for its head; an unknown handle draws 0x010D. (spec/09_nozzle_compensation.md) -/
def Obligations.CompCommands : Prop :=
  (∀ (t : Nat) (h : Hdr) (hd first n : Nat) (s : State), Taken 0x0801 t h s → hd < 16 → 1 ≤ n → n ≤ 2048 → first + n ≤ 8192 →
    learnRight (s.role h.session) .ledger = .all →
    Answers (.compLedgerRead t h (leBytes 1 hd ++ [0] ++ leBytes 2 first ++ leBytes 2 n ++ [0, 0])) s (fun s' => s'.rest = (s.taken t h).rest ∧
      Replied h 0x0801 St.ok 0 (.bytes (leBytes 1 hd ++ [0] ++ leBytes 2 first ++ leBytes 2 n ++ [0, 0] ++
        (List.range n).flatMap (fun i => leBytes 4 (s.entryShown hd (first + i))))) s')) ∧
  (∀ (t : Nat) (h : Hdr) (hd slot : Nat) (s : State), Taken 0x0802 t h s → hd < 16 → hd < s.comp.ledgers.length → slot < 8192 → s.slotState hd slot = 0 →
    mayChange (s.role h.session) .ledger → s.owns h.session → s.comp.groups = [] → s.journalRoom 1 →
    Answers (.compNozzleSet t h (leBytes 1 hd ++ [4] ++ leBytes 2 slot ++ [2, 0, 0, 0])) s (fun s' =>
      s'.entry hd slot = setSource (setBits (s.entry hd slot) 0 3 2) 2 ∧ (∀ k, k ≠ slot → s'.entry hd k = s.entry hd k) ∧
      CountsUp (Par.evtCount000 + Ev.nozzleOut) s s' ∧
      Replied h 0x0802 (if ePin (setBits (s.entry hd slot) 0 3 2) then St.pinned else St.ok) 0 (.bytes []) s')) ∧
  (∀ (t : Nat) (h : Hdr) (n v : Nat) (s : State), Taken 0x0803 t h s → n < 16 → v < 2 ^ 64 → s.stageOf h.session = [] →
    stageStatus (s.role h.session) ⟨Par.compTable0 + n, 8, 0, v⟩ = St.staged →
    Answers (.compTableWrite t h (leBytes 1 n ++ [0, 0, 0] ++ leBytes 8 v)) s (fun s' => s'.stageOf h.session = [⟨Par.compTable0 + n, v⟩] ∧
      s'.comp = s.comp ∧ Replied h 0x0803 St.ok 0 (.bytes []) s')) ∧
  (∀ (t : Nat) (h : Hdr) (kind heads rate p0 : Nat) (s : State), Taken 0x0804 t h s → 1 ≤ kind → kind ≤ 3 → 1 ≤ heads → heads < 2 ^ 16 → 1 ≤ rate → rate ≤ 240000 →
    p0 < 2 ^ 64 → mayChange (s.role h.session) .ledger → s.owns h.session → s.ready → s.tracked (s.handleOf 0 (s.par Par.compChartSerial)) = none →
    s.queued < 4096 → (s.taken t h).admission ((s.taken t h).chartSeg kind heads rate p0 (s.par Par.compChartSerial) h.session) 0 = .accept →
    Answers (.compChartQueue t h (leBytes 1 kind ++ [0] ++ leBytes 2 heads ++ leBytes 4 rate ++ leBytes 8 p0)) s (fun s' =>
      (∃ g, s'.seg (s.handleOf 0 (s.par Par.compChartSerial)) = some g ∧ g.state = Sg.accepted ∧ g.depth = 3 ∧ g.heads = heads ∧ g.rate = rate ∧ g.p0 = p0 ∧
        g.lines = nth [272, 2064, 576] 0 (kind - 1) ∧ g.job = 0 ∧ g.decRate = 0 ∧ g.readRate = 0) ∧
      s'.par Par.compChartSerial = (s.par Par.compChartSerial + 1) % 2 ^ 32 ∧ CountsUp Par.spoolSegAccepted s s' ∧
      Replied h 0x0804 St.ok 0 (.bytes (leBytes 8 (s.handleOf 0 (s.par Par.compChartSerial)))) s')) ∧
  (∀ (t : Nat) (h : Hdr) (hd slot : Nat) (m : Measure) (s : State), Taken 0x0805 t h s → m.handle < 2 ^ 64 → s.insp.measures.find? (fun x => x.handle == m.handle) = some m →
    m.kind = 1 → hd < 16 → m.heads = 2 ^ hd → m.slots = [(hd, slot, 0)] → lookup hd m.idents = some (some (s.head hd).identity) → (s.head hd).phase = 2 →
    hd < s.comp.ledgers.length → eState (s.entry hd slot) = 0 → ePin (s.entry hd slot) = false → mayChange (s.role h.session) .ledger → s.owns h.session →
    s.comp.groups = [] → s.journalRoom 1 → (s.ledger hd).places = [] →
    Answers (.compAlignApply t h (leBytes 8 m.handle)) s (fun s' => s'.entry hd slot = setSource (setBits (s.entry hd slot) 0 3 (if (s.at_ t).flaps hd slot then 3 else 2)) 3 ∧
      s'.insp.measures.all (fun x => x.handle != m.handle) ∧ CountsUp (Par.evtCount000 + Ev.nozzleOut) s s' ∧ Replied h 0x0805 St.ok 0 (.bytes [0]) s')) ∧
  (∀ (t : Nat) (h : Hdr) (n : Nat) (s : State), Taken 0x0805 t h s → n < 2 ^ 64 → s.insp.measures.all (fun x => x.handle != n) →
    Answers (.compAlignApply t h (leBytes 8 n)) s (fun s' => s'.rest = (s.taken t h).rest ∧ Replied h 0x0805 St.unknownHandle 0 (.bytes []) s'))

/-- DEFERRED_OUT_APPLY puts a deferred WATCH slot OUT, or HELD_OUT where it flaps, with SOURCE 1, once the rates and the limit allow, and counts it in COMP.DEFERRED and COMP.DECLARED.
ALIGN_APPLIED gives a slot the place that waited once the head is at a gap; before, entries stay and the places wait. JOURNAL_GROUP_ADMIT journals a waiting group whole when there is room, and nothing otherwise. LEDGER_CHECKPOINT
takes a snapshot after 10 s or at 4,096 journal entries; CHECKPOINT_WRITTEN makes it the valid checkpoint and drops the journal entries it covers. (spec/09_nozzle_compensation.md, spec/20_power_boot_and_holdup.md) -/
def Obligations.CompActs : Prop :=
  (∀ (t : Nat) (d : DeferredOut) (s : State), s.comp.deferred = [d] → s.slotState d.head d.slot = 1 → s.loopFree d.head d.slot →
    d.head < s.comp.ledgers.length → s.outCount d.head < s.par Par.compOutLimitHead → (s.at_ t).outRate d.head → s.comp.groups = [] → s.journalRoom 1 →
    Answers (.deferredOutApply t) s (fun s' => s'.comp.deferred = [] ∧
      s'.entry d.head d.slot = setSource (setBits (s.entry d.head d.slot) 0 3 (if (s.at_ t).flaps d.head d.slot then 3 else 2)) 1 ∧
      CountsUp Par.compDeferred s s' ∧ CountsUp Par.compDeclared s s' ∧ CountsUp (Par.evtCount000 + Ev.nozzleOut) s s')) ∧
  (∀ (t : Nat) (d : DeferredOut) (s : State), s.comp.deferred = [d] → s.slotState d.head d.slot = 1 → s.loopFree d.head d.slot →
    s.outCount d.head < s.par Par.compOutLimitHead → (s.at_ t).outRate d.head = false →
    Answers (.deferredOutApply t) s (fun s' => s'.comp = s.comp)) ∧
  (∀ (t h slot q : Nat) (s : State), h < 16 → h < s.comp.ledgers.length → (s.ledger h).places = [(slot, q)] → (s.ledger h).term = none →
    s.headGap h ((s.fireHead h).last - s.par (Par.at_ Par.fireULineOffset h)) →
    Answers (.alignApplied t h) s (fun s' => s'.entry h slot = setCharted (setPlace (s.entry h slot) (q % 4096)) (bitAt q 12) ∧ (s'.ledger h).places = [] ∧
      ∀ k, k ≠ slot → s'.entry h k = s.entry h k)) ∧
  (∀ (t h : Nat) (s : State), h < 16 → (s.ledger h).places ≠ [] → (s.ledger h).term = none →
    s.headGap h ((s.fireHead h).last - s.par (Par.at_ Par.fireULineOffset h)) = false →
    Answers (.alignApplied t h) s (fun s' => (∀ k, s'.entry h k = s.entry h k) ∧ (s'.ledger h).places = (s.ledger h).places)) ∧
  (∀ (t : Nat) (cs : List Change) (s : State), s.comp.groups = [cs] → s.journalRoom cs.length →
    Answers (.journalGroupAdmit t) s (fun s' => s.comp.journal ++ cs.map s.journalled <+: s'.comp.journal)) ∧
  (∀ (t : Nat) (cs : List Change) (rest : List (List Change)) (s : State), s.comp.groups = cs :: rest → s.journalRoom cs.length = false →
    Answers (.journalGroupAdmit t) s (fun s' => s'.comp = s.comp)) ∧
  (∀ (t : Nat) (s : State), s.power.ckptRun = none → s.power.sag = 0 → s.power.down = false → s.power.restored →
    s.comp.ckptAt + 10000000000 ≤ max s.now t ∨ 4096 ≤ s.comp.journal.length →
    Answers (.ledgerCheckpoint t) s (fun s' => s'.power.ckptRun = some (⟨s.comp.ledgers, s.comp.tables, s.comp.fb, s.comp.zones⟩, s.comp.journal.length) ∧
      s'.comp.ckptAt = max s.now t ∧ s'.comp.journal = s.comp.journal)) ∧
  (∀ (t n : Nat) (k : Ckpt) (s : State), s.power.ckptRun = some (k, n) → s.comp.groups = [] →
    Answers (.checkpointWritten t true) s (fun s' => s'.power.store.ckpt = some k ∧ s'.power.store.slot = 1 - s.power.store.slot ∧
      s'.comp.journal = s.comp.journal.drop n ∧ s'.power.ckptRun = none ∧ CountsUp Par.powerCheckpoints s s')) ∧
  (∀ (t n : Nat) (k : Ckpt) (s : State), s.power.ckptRun = some (k, n) →
    Answers (.checkpointWritten t false) s (fun s' => s'.power.store = s.power.store ∧ s'.comp.journal = s.comp.journal ∧ s'.power.ckptRun = none))

/-- STITCH_CHANGE of a column that the peer lost makes this member take it whole from E, or from the line after its own latest boundary where that of E has passed, which counts in COMP.STITCH_LATE. STITCH_OFFER before E makes it stop taking the column from E and answers with STITCH_ACK; later it changes no share. STITCH_ACK
before E of the offer that stands lets this member resume from E. ZONE_STATE that disagrees raises EV036 and marks the zone, and one that agrees ends the mark. PEER_PATH_TIMEOUT of an unreachable peer withdraws every offer to it. (spec/09_nozzle_compensation.md, spec/15_causeway.md) -/
def Obligations.StitchFrames : Prop :=
  (∀ (t plane side j : Nat) (f : CFrame) (s : State), RingTaken t 0x21 f s → (s.at_ t).zoneColNamed f = some (plane, side, j) → bitAt (cfAt f 22 1) 0 = false →
    Answers (.stitchChange t f) s (fun s' => (s'.zoneCol plane side j).peer = false ∧ (s'.zoneCol plane side j).peerTo = none ∧
      (s'.zoneCol plane side j).peerFrom = max (signed 64 (cfAt f 24 8)) (s.zoneBoundary plane (s.zoneFirst plane side + j) + 1) ∧ (s'.zoneCol plane side j).own = (s.zoneCol plane side j).own ∧
      (if signed 64 (cfAt f 24 8) ≤ s.zoneBoundary plane (s.zoneFirst plane side + j) then CountsUp Par.compStitchLate s s' else s'.par Par.compStitchLate = s.par Par.compStitchLate))) ∧
  (∀ (t plane side j : Nat) (f : CFrame) (s : State), RingTaken t 0x22 f s → (s.at_ t).zoneColNamed f = some (plane, side, j) →
    s.zoneBoundary plane (s.zoneFirst plane side + j) < signed 64 (cfAt f 24 8) → (s.zoneCol plane side j).peer = false →
    (s.zoneCol plane side j).peerTo = none → s.laneIsUp eastA → s.saveMode = false →
    Answers (.stitchOffer t f) s (fun s' => (s'.zoneCol plane side j).peerTo = some (signed 64 (cfAt f 24 8)) ∧
      s'.out.any (fun o => match o with | .causeway u b => u == eastA && leAt b 0 1 == 0x23 && leAt b 6 2 == cfSrc f | _ => false))) ∧
  (∀ (t plane side j : Nat) (f : CFrame) (s : State), RingTaken t 0x22 f s → (s.at_ t).zoneColNamed f = some (plane, side, j) →
    signed 64 (cfAt f 24 8) ≤ s.zoneBoundary plane (s.zoneFirst plane side + j) → Answers (.stitchOffer t f) s (fun s' => s'.comp = s.comp)) ∧
  (∀ (t plane side j : Nat) (f : CFrame) (s : State), RingTaken t 0x23 f s → (s.at_ t).zoneColNamed f = some (plane, side, j) → bitAt (cfAt f 22 1) 0 →
    s.zoneBoundary plane (s.zoneFirst plane side + j) < signed 64 (cfAt f 24 8) → (s.zoneCol plane side j).offer = some (signed 64 (cfAt f 24 8)) →
    Answers (.stitchAck t f) s (fun s' => (s'.zoneCol plane side j).ownTo = some (signed 64 (cfAt f 24 8)) ∧ (s'.zoneCol plane side j).offer = none)) ∧
  (∀ (t plane side : Nat) (f : CFrame) (s : State), RingTaken t 0x20 f s → (s.at_ t).zoneNamed f = some (plane, side) → (s.at_ t).reachable (cfSrc f) →
    s.zoneCols plane side ≠ 0 → s.zoneCols plane side ≠ cfAt f 22 2 % 512 →
    Answers (.zoneState t f) s (fun s' => (plane, side) ∈ s'.comp.mismatch ∧ s'.comp.zones = s.comp.zones ∧ s'.cond Ev.stitchMismatch (2 * plane + side))) ∧
  (∀ (t plane side : Nat) (f : CFrame) (s : State), RingTaken t 0x20 f s → (s.at_ t).zoneNamed f = some (plane, side) → (s.at_ t).reachable (cfSrc f) →
    s.zoneCols plane side ≠ 0 → s.zoneCols plane side = cfAt f 22 2 % 512 →
    cfAt f 24 2 % 2048 = (if s.par Par.causePosSource = 0x7FF then s.address else s.par Par.causePosSource) →
    Answers (.zoneState t f) s (fun s' => (plane, side) ∉ s'.comp.mismatch ∧ s'.cond Ev.stitchMismatch (2 * plane + side) = false ∧
      ∀ j < s.zoneCols plane side, (s'.zoneCol plane side j).peer = bitAt (cfAt f 28 32) j)) ∧
  (∀ (t peer : Nat) (s : State), (s.at_ t).reachable peer = false → Answers (.peerPathTimeout t peer) s (fun s' =>
      ∀ z ∈ s'.comp.zones, s.zonePeer z.plane z.side = peer → z.offer = none))

/-- In step/direction and up/down mode the edges of one sample whose levels held for POS[c].FILTER change the count by the mode's rule, reversed by DIR_INVERT; edges of A and B in one up/down sample change nothing. Edges closer than 25 ns are an over-rate whose count is discarded. A sin/cos sample sets the phase from the sine and cosine; a step of at most 256 changes the
count by it, and a larger one is an over-rate. With ENC0 alone, trusted and from the own encoders, a count sets P to base plus counts over COUNTS_PER_LINE and the mark to the largest whole line reached. No position command lowers the mark.
INTERPOLATION_STOP stops interpolation twice the latest interval after the latest count. (spec/10_position.md) -/
def Obligations.EncoderCounts : Prop :=
  (∀ (t c ha hb : Nat) (a b lb ea : Bool) (s : State), c < 2 → s.pos.chans.length = 2 → s.par (Par.at_ Par.posUMode c) = 0 →
    ea = (a && decide (s.par (Par.at_ Par.posUFilter c) ≤ ha)) → ea = false ∨ tooClose (max s.now t) (s.chan c).edgeA = false →
    Answers (.encoderCount t c a b ⟨lb, ha, hb⟩) s (fun s' => (s'.chan c).count = (s.chan c).count +
      (if ea then (if lb = (s.par (Par.at_ Par.posUDirInvert c) == 1) then 1 else -1) else 0))) ∧
  (∀ (t c ha hb : Nat) (a b lb ea eb : Bool) (s : State), c < 2 → s.pos.chans.length = 2 → s.par (Par.at_ Par.posUMode c) = 1 →
    ea = (a && decide (s.par (Par.at_ Par.posUFilter c) ≤ ha)) → eb = (b && decide (s.par (Par.at_ Par.posUFilter c) ≤ hb)) →
    ea = false ∨ tooClose (max s.now t) (s.chan c).edgeA = false → eb = false ∨ tooClose (max s.now t) (s.chan c).edgeB = false →
    Answers (.encoderCount t c a b ⟨lb, ha, hb⟩) s (fun s' => (s'.chan c).count = (s.chan c).count +
      (if ea = eb then 0 else if ea = (s.par (Par.at_ Par.posUDirInvert c) == 1) then -1 else 1))) ∧
  (∀ (t c ha hb : Nat) (b lb : Bool) (s : State), c < 2 → s.pos.chans.length = 2 → s.par (Par.at_ Par.posUMode c) < 2 →
    s.par (Par.at_ Par.posUFilter c) ≤ ha → tooClose (max s.now t) (s.chan c).edgeA →
    c ∈ s.usedChans → Answers (.encoderCount t c true b ⟨lb, ha, hb⟩) s (fun s' => (s'.chan c).count = (s.chan c).count ∧ bitAt (s'.faultBits c) 1 ∧ (bitAt (s.faultBits c) 1 = false → (s'.chan c).inFault = true))) ∧
  (∀ (t c p ph : Nat) (x y : Int) (s : State), ph = phaseOf (sample12 x) (sample12 y) → c < 2 → s.pos.chans.length = 2 → s.par (Par.at_ Par.posUMode c) = 2 → (s.chan c).phase = some p → (phaseStep p ph).natAbs ≤ 256 → (s.chan c).outRun < 15 →
    Answers (.sincosSample t c x y ()) s (fun s' => (s'.chan c).phase = some ph ∧ (s'.chan c).count = (s.chan c).count +
      (if s.par (Par.at_ Par.posUDirInvert c) = 1 then -phaseStep p ph else phaseStep p ph))) ∧
  (∀ (t c p ph : Nat) (x y : Int) (s : State), ph = phaseOf (sample12 x) (sample12 y) → c < 2 → s.pos.chans.length = 2 → s.par (Par.at_ Par.posUMode c) = 2 → (s.chan c).phase = some p → 256 < (phaseStep p ph).natAbs →
    c ∈ s.usedChans → Answers (.sincosSample t c x y ()) s (fun s' => (s'.chan c).count = (s.chan c).count ∧ bitAt (s'.faultBits c) 1)) ∧
  (∀ (t ha hb : Nat) (lb : Bool) (s : State), s.pos.chans.length = 2 → s.par (Par.at_ Par.posUFilter 0) ≤ ha → (s.chan 0).stale = false → s.par Par.posChannels = 0 → s.par (Par.at_ Par.posUMode 0) = 0 → tooClose (max s.now t) (s.chan 0).edgeA = false →
    s.ownPos → s.pos.lost = none → s.pos.select = none → s.pos.active = 0 → s.par (Par.at_ Par.posUDirInvert 0) = 0 →
    Answers (.encoderCount t 0 true false ⟨lb, ha, hb⟩) s (fun s' =>
      s'.pos.p = (s.chan 0).basePos + s.countPos 0 ((s.chan 0).count + (if lb then -1 else 1) - (s.chan 0).baseCount) ∧ s'.pos.hw = max s.pos.hw (linesOf s'.pos.p) ∧
      s'.pos.tK = (s.at_ t).ring)) ∧
  (∀ (t c r ha hb : Nat) (a b lb : Bool) (x y : Int) (i : Instr) (s : State), i ∈ [Instr.encoderCount t c a b ⟨lb, ha, hb⟩, .sincosSample t c x y (), .interpolationStop t, .channelFault t c r,
      .channelRecover t c, .speedWindow t, .indexPulse t ⟨c, ha⟩, .indexMissing t c, .resnap t] → Answers i s (fun s' => s.pos.hw ≤ s'.pos.hw)) ∧
  (∀ (t : Nat) (s : State), s.pos.tK + 2 * s.pos.dt ≤ (s.at_ t).ring → Answers (.interpolationStop t) s (fun s' => s'.pos = { s.pos with stopped := true })) ∧
  (∀ (t : Nat) (s : State), (s.at_ t).ring < s.pos.tK + 2 * s.pos.dt → Answers (.interpolationStop t) s (fun s' => s'.pos = s.pos))

/-- A reason SIGNAL or OVERRATE that appears on the active of two channels while the other is free of fault makes the other active: position is kept and not lost, EV050 and EV051 rise by one. On a single channel of the own encoders it loses position with EV054 and cause 0x08. CHANNEL_RECOVER after POS.RECOVER_TIME
ends the fault with EV052. SPEED_WINDOW reports net counts and the line rate, rounded toward zero. POS_CHANNEL_SELECT by the owner of a used channel without reasons is granted, and one of a channel with a reason draws 0x0502. POS_STATUS replies with the position; POS_REJECT_TEST asserts the
output from the next microsecond for its width and counts nothing. (spec/10_position.md) -/
def Obligations.EncoderFaults : Prop :=
  (∀ (t c r : Nat) (s : State), c < 2 → r < 2 → s.pos.chans.length = 2 → s.par Par.posChannels = 2 ∨ s.par Par.posChannels = 3 → s.pos.active = c →
    (s.chan (1 - c)).inFault = false → s.pos.lost = none → bitAt (s.faultBits c) r = false →
    Answers (.channelFault t c r) s (fun s' => s'.pos.active = 1 - c ∧ s'.pos.lost = none ∧ s'.pos.p = s.pos.p ∧ (s'.chan c).inFault ∧ CountsUp Par.posSwitchovers s s' ∧
      CountsUp (Par.evtCount000 + Ev.encoderFault) s s' ∧ CountsUp (Par.evtCount000 + Ev.encoderSwitchover) s s')) ∧
  (∀ (t r : Nat) (s : State), r < 2 → s.pos.chans.length = 2 → s.ownPos → s.par Par.posChannels = 0 → s.pos.active = 0 → s.pos.lost = none → bitAt (s.faultBits 0) r = false →
    Answers (.channelFault t 0 r) s (fun s' => s'.pos.lost = some 8 ∧ s'.pos.hw = s.pos.hw ∧ CountsUp (Par.evtCount000 + Ev.encoderLostBoth) s s')) ∧
  (∀ (t c : Nat) (s : State), c < 2 → s.pos.chans.length = 2 → (s.chan c).inFault → (s.chan c).faultAt + 1000000 * s.par Par.posRecoverTime ≤ max s.now t → bitAt (s.faultBits c) 3 = false →
    Answers (.channelRecover t c) s (fun s' => (s'.chan c).inFault = false ∧ s'.faultBits c = 0 ∧ s'.cond Ev.encoderFault c = false ∧
      CountsUp (Par.evtCount000 + Ev.encoderRecovered) s s')) ∧
  (∀ (t : Nat) (s : State), s.pos.chans.length = 2 → s.pos.speedAt + 1000 * s.par Par.posSpeedWindow ≤ max s.now t →
    Answers (.speedWindow t) s (fun s' => (∀ c < 2, s'.par (Par.at_ Par.posUSpeed c) = twos 32 ((s.chan c).count - (s.chan c).winCount) ∧ (s'.chan c).winCount = (s.chan c).count) ∧
      s'.par Par.posLineRate = twos 32 (Int.tdiv (((s.chan s.pos.active).count - (s.chan s.pos.active).winCount) * 65536000000)
        ((s.cpl s.pos.active * s.par Par.posSpeedWindow : Nat) : Int)) ∧ s'.pos.p = s.pos.p ∧ s'.pos.speedAt = max s.now t)) ∧
  (∀ (t : Nat) (h : Hdr) (c : Nat) (s : State), Taken 0x0902 t h s → c ∈ s.usedChans → mayChange (s.role h.session) .oper → s.owns h.session → s.faultBits c &&& 7 = 0 →
    Answers (.posChannelSelect t h (leBytes 1 c ++ [0, 0, 0])) s (fun s' => s'.pos = { s.pos with select := some c } ∧ Replied h 0x0902 St.ok 0 (.bytes []) s')) ∧
  (∀ (t : Nat) (h : Hdr) (c : Nat) (s : State), Taken 0x0902 t h s → c ∈ s.usedChans → mayChange (s.role h.session) .oper → s.owns h.session → s.faultBits c &&& 7 ≠ 0 →
    Answers (.posChannelSelect t h (leBytes 1 c ++ [0, 0, 0])) s (fun s' => s'.pos = s.pos ∧ Replied h 0x0902 St.unitFault (0x0900 + c) (.bytes []) s')) ∧
  (∀ (t : Nat) (h : Hdr) (s : State), Taken 0x0901 t h s → Answers (.posStatus t h []) s (fun s' => s'.rest = (s.taken t h).rest ∧
      Replied h 0x0901 St.ok 0 (.bytes (leBytes 8 (twos 64 s.pos.p) ++ leBytes 8 (twos 64 s.pos.hw) ++ leBytes 4 (s.par Par.posLineRate) ++
        leBytes 1 (s.pos.active + bit s.pos.lost.isSome 1 + bit s.pos.hold 2) ++ leBytes 1 (s.faultBits 0) ++ leBytes 1 (s.faultBits 1) ++ [0] ++ leBytes 8 s.pos.tK)) s')) ∧
  (∀ (t : Nat) (h : Hdr) (o w : Nat) (s : State), Taken 0x0903 t h s → o < 2 → s.pos.rejects.length = 2 → 10 ≤ w → w ≤ 1000000 → mayChange (s.role h.session) .oper → s.owns h.session → s.runningState = none →
    (s.rej o).assertedTo = none →
    Answers (.posRejectTest t h (leBytes 1 o ++ [0, 0, 0] ++ leBytes 4 w)) s (fun s' => s'.par Par.posRejPulses = s.par Par.posRejPulses ∧
      (s'.rej o).from_ = max s.now t + (1000 - (s.at_ t).ring % 1000) ∧ (s'.rej o).assertedTo = some (max s.now t + (1000 - (s.at_ t).ring % 1000) + 1000 * w) ∧ Replied h 0x0903 St.ok 0 (.bytes []) s')) ∧
  (∀ (t : Nat) (h : Hdr) (o w st : Nat) (s : State), Taken 0x0903 t h s → o < 2 → 10 ≤ w → w ≤ 1000000 → mayChange (s.role h.session) .oper → s.owns h.session → s.runningState = some st →
    Answers (.posRejectTest t h (leBytes 1 o ++ [0, 0, 0] ++ leBytes 4 w)) s (fun s' => s'.rest = (s.taken t h).rest ∧ Replied h 0x0903 St.segmentState st (.bytes []) s'))

/-- The first Z pulse, whose level held for POS[c].FILTER in the digital modes, latches the reference count. A later one within INDEX_TOL of its expected count counts in INDEX_SMALL, and a larger deviation raises EV058. INDEX_MISSING raises EV058 with deviation 0x8000_0000 once the web has gone INDEX_PERIOD + INDEX_TOL counts past the latest. RESNAP at a segment gap moves P by
the remembered deviation, counts in POS.RESNAPS, and changes nothing while a segment is IN_HORIZON or PRINTING. None of them changes a count. (spec/10_position.md) -/
def Obligations.IndexAndResnap : Prop :=
  (∀ (t c hl : Nat) (s : State), c < 2 → s.pos.chans.length = 2 → 2 ≤ s.par (Par.at_ Par.posUMode c) ∨ s.par (Par.at_ Par.posUFilter c) ≤ hl →
    s.par (Par.at_ Par.posUIndexPeriod c) ≠ 0 → (s.chan c).idxRef = none →
    Answers (.indexPulse t ⟨c, hl⟩) s (fun s' => (s'.chan c).idxRef = some (s.chan c).count ∧ (s'.chan c).count = (s.chan c).count)) ∧
  (∀ (t c n hl : Nat) (r d k : Int) (s : State), c < 2 → s.pos.chans.length = 2 → 2 ≤ s.par (Par.at_ Par.posUMode c) ∨ s.par (Par.at_ Par.posUFilter c) ≤ hl →
    s.par (Par.at_ Par.posUIndexPeriod c) = n → n ≠ 0 → (s.chan c).idxRef = some r →
    (s.chan c).count = r + k * n + d → 2 * d.natAbs < n → d.natAbs ≤ s.par (Par.at_ Par.posUIndexTol c) →
    Answers (.indexPulse t ⟨c, hl⟩) s (fun s' => s'.par (Par.at_ Par.posUIndexDev c) = twos 32 d ∧ CountsUp (Par.at_ Par.posUIndexSmall c) s s' ∧
      s'.par (Par.evtCount000 + Ev.indexDeviation) = s.par (Par.evtCount000 + Ev.indexDeviation) ∧ (s'.chan c).count = (s.chan c).count)) ∧
  (∀ (t c n hl : Nat) (r d k : Int) (s : State), c < 2 → s.pos.chans.length = 2 → 2 ≤ s.par (Par.at_ Par.posUMode c) ∨ s.par (Par.at_ Par.posUFilter c) ≤ hl →
    s.par (Par.at_ Par.posUIndexPeriod c) = n → n ≠ 0 → (s.chan c).idxRef = some r →
    (s.chan c).count = r + k * n + d → 2 * d.natAbs < n → s.par (Par.at_ Par.posUIndexTol c) < d.natAbs →
    Answers (.indexPulse t ⟨c, hl⟩) s (fun s' => s'.par (Par.at_ Par.posUIndexDev c) = twos 32 d ∧ CountsUp (Par.evtCount000 + Ev.indexDeviation) s s' ∧
      s'.par (Par.at_ Par.posUIndexSmall c) = s.par (Par.at_ Par.posUIndexSmall c) ∧ (s'.chan c).count = (s.chan c).count)) ∧
  (∀ (t c : Nat) (s : State), c < 2 → s.pos.chans.length = 2 → s.par (Par.at_ Par.posUIndexPeriod c) ≠ 0 → (s.chan c).idxRef.isSome →
    s.par (Par.at_ Par.posUIndexPeriod c) + s.par (Par.at_ Par.posUIndexTol c) < ((s.chan c).count - (s.chan c).idxLast).natAbs →
    Answers (.indexMissing t c) s (fun s' => s'.par (Par.at_ Par.posUIndexDev c) = 0x80000000 ∧ CountsUp (Par.evtCount000 + Ev.indexDeviation) s s')) ∧
  (∀ (t : Nat) (d : Int) (s : State), s.pos.chans.length = 2 → s.pos.active < 2 → (s.chan s.pos.active).idxDev = some d → s.par (Par.at_ Par.posUIndexResnap s.pos.active) = 1 →
    s.runningState = none → s.acceptedSet = [] →
    Answers (.resnap t) s (fun s' => s'.pos.p = s.pos.p - s.countPos s.pos.active d ∧ (s'.chan s.pos.active).idxDev = none ∧ CountsUp Par.posResnaps s s' ∧
      s'.pos.hw = max s.pos.hw (if 0 < s.countPos s.pos.active d then s.pos.hw else linesOf (s.pos.p - s.countPos s.pos.active d)) ∧
      (s'.chan s.pos.active).count = (s.chan s.pos.active).count)) ∧
  (∀ (t st : Nat) (s : State), s.runningState = some st → Answers (.resnap t) s (fun s' => s'.pos = s.pos))

/-- The selected edge latches P, the ring time, the debounce and the lockout. A latched edge that held for the debounce counts in POS.PGO_EDGES and binds the oldest unbound segment of its input, fixing P0 and one candidate, or goes unserved with EV021; one inside the lockout is discarded and counted in PGO_FILTERED, as is a pulse that ended
within the debounce. The oldest candidate falls due at the mark: a broken product asserts the output for its width and counts a pulse, any other is dropped and remembered. REJECT_PULSE_END ends the assertion at its time. (spec/02_delivery_promise.md, spec/07_segments_and_spool.md, spec/10_position.md) -/
def Obligations.PrintGoAndRejects : Prop :=
  (∀ (t n : Nat) (rise : Bool) (s : State), n < 4 → s.pos.pgos.length = 4 → rise = (s.par (Par.posPgo0Edge + 4 * n) == 0) → (s.pgo n).latch = none →
    Answers (.pgoEdgeLatch t n rise) s (fun s' => (s'.pgo n).latch = some ⟨s.pos.p, (s.at_ t).ring, s.par (Par.posPgo0Debounce + 4 * n), s.par (Par.posPgo0Lockout + 4 * n)⟩ ∧
      (s'.pgo n).last = (s.pgo n).last)) ∧
  (∀ (t n : Nat) (l : PgoLatch) (g : Seg) (s : State), n < 4 → s.pos.pgos.length = 4 → (s.pgo n).latch = some l → l.t + 1000 * l.debounce ≤ (s.at_ t).ring → (s.pgo n).last = none →
    s.pgoNext n = some g → s.seg g.handle = some g → s.mayBind g l.pos → (s.rej (s.pgoOut n)).queue.length < 1024 → s.pgoOut n < s.pos.rejects.length →
    Answers (.pgoEdgeConfirm t n) s (fun s' => (s'.seg g.handle).map Seg.p0 = some (linesOf l.pos + g.first) ∧ (s'.seg g.handle).map Seg.bound = some true ∧
      (s'.seg g.handle).map Seg.edge = some (some l.pos) ∧ CountsUp Par.posPgoEdges s s' ∧ s'.par Par.spoolPgoUnserved = s.par Par.spoolPgoUnserved ∧
      ⟨l.pos + 65536 * s.rejPar Par.posRej0Distance (s.pgoOut n), s.rejPar Par.posRej0Width (s.pgoOut n), some g.handle, false, false⟩ ∈ (s'.rej (s.pgoOut n)).queue)) ∧
  (∀ (t n : Nat) (l : PgoLatch) (s : State), n < 4 → s.pos.pgos.length = 4 → (s.pgo n).latch = some l → l.t + 1000 * l.debounce ≤ (s.at_ t).ring → (s.pgo n).last = none → s.pgoNext n = none →
    Answers (.pgoEdgeConfirm t n) s (fun s' => CountsUp Par.posPgoEdges s s' ∧ CountsUp Par.spoolPgoUnserved s s' ∧ CountsUp (Par.evtCount000 + Ev.pgoUnserved) s s' ∧ s'.spool = s.spool)) ∧
  (∀ (t n : Nat) (l : PgoLatch) (p : Int) (s : State), n < 4 → s.pos.pgos.length = 4 → (s.pgo n).latch = some l → l.t + 1000 * l.debounce ≤ (s.at_ t).ring → (s.pgo n).last = some p →
    l.pos - p < 65536 * (l.lockout : Int) →
    Answers (.pgoEdgeConfirm t n) s (fun s' => CountsUp Par.posPgoFiltered s s' ∧ s'.par Par.posPgoEdges = s.par Par.posPgoEdges ∧ s'.spool = s.spool ∧ (s'.pgo n).latch = none)) ∧
  (∀ (t n : Nat) (l : PgoLatch) (s : State), n < 4 → s.pos.pgos.length = 4 → (s.pgo n).latch = some l → (s.at_ t).ring < l.t + 1000 * l.debounce →
    Answers (.pgoPulseDiscard t n) s (fun s' => (s'.pgo n).latch = none ∧ (s'.pgo n).last = (s.pgo n).last ∧ CountsUp Par.posPgoFiltered s s')) ∧
  (∀ (t o hd : Nat) (c : Cand) (rest : List Cand) (g : Seg) (s : State), o < 2 → s.pos.rejects.length = 2 → (s.rej o).queue = c :: rest → c.due ≤ s.pos.hw * 65536 → c.handle = some hd →
    s.seg hd = some g → g.isBroken → (s.rej o).assertedTo = none →
    Answers (.rejectDue t o) s (fun s' => (s'.rej o).queue = rest ∧ (s'.rej o).assertedTo = some (max s.now t + 1000 * c.width) ∧ CountsUp Par.posRejPulses s s')) ∧
  (∀ (t o hd : Nat) (c : Cand) (rest : List Cand) (g : Seg) (s : State), o < 2 → s.pos.rejects.length = 2 → (s.rej o).queue = c :: rest → c.due ≤ s.pos.hw * 65536 → c.handle = some hd → s.seg hd = some g →
    g.ranges = [] → c.unserved = false → c.insp = false → (s.rej o).full = false → s.par Par.inspRejUninspected = 0 →
    Answers (.rejectDue t o) s (fun s' => (s'.rej o).queue = rest ∧ (hd, c.width) ∈ (s'.rej o).dropped ∧ s'.par Par.posRejPulses = s.par Par.posRejPulses)) ∧
  (∀ (t o : Nat) (c : Cand) (rest : List Cand) (s : State), (s.rej o).queue = c :: rest → s.pos.hw * 65536 < c.due → Answers (.rejectDue t o) s (fun s' => s'.pos = s.pos)) ∧
  (∀ (t o e : Nat) (s : State), o < 2 → s.pos.rejects.length = 2 → (s.rej o).assertedTo = some e → e ≤ max s.now t → (s.rej o).sag = false → (s.rej o).cont = false →
    Answers (.rejectPulseEnd t o) s (fun s' => (s'.rej o).assertedTo = none ∧ Out.pin (nth ["REJ0", "REJ1"] "" o) (if s.rejPar Par.posRej0Polarity o = 0 then 0 else 1) ∈ s'.out))

/-- A due line boundary of a head raises the mark. With no segment it sends nothing. With one printing segment, no cause in force and both lanes it sends a LINE with the next LSEQ on each lane, to fire FIRE.FIRE_DELAY after the boundary. A line less than 1 / R_h after the previous one starts at the earliest permitted time,
a range of kind 2 with cause 0x09; one whose successor starts by then is skipped, kind 0. A cause in force sends nothing and records kind 0 with the cause. A boundary that is not due changes neither firing nor position. (spec/02_delivery_promise.md, spec/07_segments_and_spool.md, spec/10_position.md, spec/11_firing_and_heads.md) -/
def Obligations.HeadLines : Prop :=
  (∀ (t h : Nat) (p : Int) (s : State), LineDue t h p s → s.drawn h p = [] →
    Answers (.lineBoundary t h p) s (fun s' => (s'.fireHead h).last = p + s.lineOffset h ∧ s'.pos.hw = max s.pos.hw (p + s.lineOffset h) ∧
      (s'.fireHead h).lseq = (s.fireHead h).lseq ∧ (s'.fireHead h).sent = (s.fireHead h).sent)) ∧
  (∀ (t h : Nat) (p : Int) (g : Seg) (s : State), LineDue t h p s → Sole h p g s → s.causesAt h = [] → s.par (Par.at_ Par.headUTempStage h) = 0 →
    (s.head h).stageNext = none → LanesOn h s → (s.fireHead h).lanes = 3 → (s.fireHead h).back = 0 → (s.fireHead h).lseq < 65536 →
    (∀ l, (s.fireHead h).lastStart = some l → l + ceilDiv 1000000000 (max 1 g.rate) ≤ max s.now t) →
    Answers (.lineBoundary t h p) s (fun s' => (s'.fireHead h).last = p + s.lineOffset h ∧ s'.pos.hw = max s.pos.hw (p + s.lineOffset h) ∧
      (s'.fireHead h).lseq = ((s.fireHead h).lseq + 1) % 65536 ∧ (s'.fireHead h).lastStart = some (max s.now t) ∧
      (∃ l ∈ (s'.fireHead h).sent, l.lseq = (s.fireHead h).lseq ∧ l.items = [(g.handle, g.lineAt p, g.depth)] ∧
        l.fireAt = max s.now t + s.par Par.fireFireDelay ∧ l.gone = 0 ∧ l.broke = false) ∧
      (∀ u ∈ [2 * h, 2 * h + 1], ∃ b codes, Out.theal u 1 [(s.fireHead h).lseq, min g.depth 3, b, s.peerLane u, s.par (Par.at_ Par.headUPreheat h), s.periodNs, s.slots h] codes ∈ s'.out) ∧
      s'.par (Par.at_ Par.fireULinesBroken h) = s.par (Par.at_ Par.fireULinesBroken h))) ∧
  (∀ (t h l : Nat) (p : Int) (g : Seg) (s : State), LineDue t h p s → Sole h p g s → s.causesAt h = [] → s.par (Par.at_ Par.headUTempStage h) = 0 →
    (s.head h).stageNext = none → LanesOn h s → (s.fireHead h).lanes = 3 → (s.fireHead h).back = 0 → (s.fireHead h).lseq < 65536 → (s.fireHead h).lastStart = some l →
    max s.now t < l + ceilDiv 1000000000 (max 1 g.rate) →
    (0 < s.pos.dp → (l + ceilDiv 1000000000 (max 1 g.rate) : Nat) + s.offset < s.startTime (p + s.lineOffset h + 1)) →
    Answers (.lineBoundary t h p) s (fun s' => (s'.fireHead h).lseq = ((s.fireHead h).lseq + 1) % 65536 ∧
      (∃ x ∈ (s'.fireHead h).sent, x.lseq = (s.fireHead h).lseq ∧ x.fireAt = l + ceilDiv 1000000000 (max 1 g.rate) + s.par Par.fireFireDelay) ∧
      (∃ g', s'.seg g.handle = some g' ∧ Ranged g' h (g.lineAt p) 9 2) ∧ CountsUp (Par.at_ Par.fireULinesDeferred h) s s' ∧ (s'.fireHead h).excursion ∧
      ((s.fireHead h).excursion = false → CountsUp (Par.evtCount000 + Ev.overspeed) s s'))) ∧
  (∀ (t h l : Nat) (p : Int) (g : Seg) (s : State), LineDue t h p s → Sole h p g s → s.causesAt h = [] → (s.head h).stageNext = none → (s.fireHead h).back = 0 → (s.fireHead h).lastStart = some l →
    max s.now t < l + ceilDiv 1000000000 (max 1 g.rate) → 0 < s.pos.dp →
    s.startTime (p + s.lineOffset h + 1) ≤ (l + ceilDiv 1000000000 (max 1 g.rate) : Nat) + s.offset →
    Answers (.lineBoundary t h p) s (fun s' => (s'.fireHead h).lseq = (s.fireHead h).lseq ∧ (s'.fireHead h).sent = (s.fireHead h).sent ∧
      CountsUp (Par.at_ Par.fireULinesSkipped h) s s' ∧ CountsUp (Par.at_ Par.fireULinesBroken h) s s' ∧
      (∀ g', s'.seg g.handle = some g' → Ranged g' h (g.lineAt p) 9 0))) ∧
  (∀ (t h c : Nat) (p : Int) (g : Seg) (s : State), LineDue t h p s → Sole h p g s → c ∈ s.causesAt h → c ≠ 2 → (s.head h).stageNext = none → (s.fireHead h).back = 0 →
    Answers (.lineBoundary t h p) s (fun s' => (s'.fireHead h).last = p + s.lineOffset h ∧ (s'.fireHead h).lseq = (s.fireHead h).lseq ∧
      (s'.fireHead h).sent = (s.fireHead h).sent ∧ CountsUp (Par.at_ Par.fireULinesBroken h) s s' ∧
      (∀ g', s'.seg g.handle = some g' → Ranged g' h (g.lineAt p) c 0))) ∧
  (∀ (t h : Nat) (p : Int) (s : State), LineDue t h p s = false → h < s.fire.heads.length → Answers (.lineBoundary t h p) s (fun s' => s'.fire = s.fire ∧ s'.pos = s.pos ∧ s'.spool = s.spool))

/-- GO leaves once on an UP lane at the word boundary below the line's launch time, with the rest of it in FINE; a gated head gets none, nor does a lane a second. The first copy of LINE_ACK counts a fired line, and missing phases count in PHASES_MISSING; the copy that follows on the other lane does nothing (within the time of the model's choice,
log entry 157). A line without LINE_ACK 100 µs after the limit of tACK counts as broken. GATE_ACTIVATE holds its heads, sends GATE with STATE 1 on their UP lanes and raises EV057; GATE_RELEASE ends it and sends STATE 0. GATE_REPORT with FLAG 1, or 100 µs without one, ends the line in progress as kind 1, and with FLAG 0 one that had not
started as kind 0. FIRE_STATUS replies with sixteen entries. (spec/04_commands.md, spec/11_firing_and_heads.md) -/
def Obligations.LineReplies : Prop :=
  (∀ (t u q : Nat) (l : HeadLine) (s : State), u < 32 → (s.fireHead (u / 2)).sent.find? (fun x => x.lseq == q) = some l → s.laneIsUp u → s.gated (u / 2) = false →
    (s.at_ t).gateDue (u / 2) = false → s.power.sag = 0 → s.holding (4 + u / 4) = false → (s.head (u / 2)).fault = false → bitAt l.gone (u % 2) = false → max s.now t = (s.goTime u l).1 →
    Answers (.goLaunch t u q ()) s (fun s' => Out.marker u 0x4B (q + 65536 * (s.goTime u l).2) ∈ s'.out ∧ CountsUp (Par.at_ Par.laneUGoTx u) s s')) ∧
  (∀ (t u q : Nat) (s : State), s.gated (u / 2) ∨ (∀ l, (s.fireHead (u / 2)).sent.find? (fun x => x.lseq == q) = some l → bitAt l.gone (u % 2)) →
    Answers (.goLaunch t u q ()) s (fun s' => s'.out = [] ∧ s'.fire = s.fire)) ∧
  (∀ (t u q m : Nat) (l : HeadLine) (s : State), s.heads.length = 16 → FirstCopy u [0x83, q, 0, m] s → u / 2 < s.fire.heads.length → (s.fireHead (u / 2)).sent.find? (fun x => x.lseq == q) = some l →
    Answers (.lineAck t u q 0 m) s (fun s' => (s'.fireHead (u / 2)).acked = q ∧ CountsUp (Par.at_ Par.fireULinesFired (u / 2)) s s' ∧
      (s'.fireHead (u / 2)).sent = (s.fireHead (u / 2)).sent.filter (fun x => x.lseq != q) ∧
      s'.par (Par.at_ Par.fireUPhasesMissing (u / 2)) = s.par (Par.at_ Par.fireUPhasesMissing (u / 2)))) ∧
  (∀ (t u q m : Nat) (l : HeadLine) (s : State), s.heads.length = 16 → FirstCopy u [0x83, q, 1, m] s → u / 2 < s.fire.heads.length → (s.fireHead (u / 2)).sent.find? (fun x => x.lseq == q) = some l →
    l.gated = none → l.broke = false →
    Answers (.lineAck t u q 1 m) s (fun s' => (s'.fireHead (u / 2)).acked = q ∧ CountsUp (Par.at_ Par.fireULinesFired (u / 2)) s s' ∧ CountsUp (Par.at_ Par.fireULinesBroken (u / 2)) s s' ∧
      s'.par (Par.at_ Par.fireUPhasesMissing (u / 2)) = min (s.par (Par.at_ Par.fireUPhasesMissing (u / 2)) + popcount 64 m) (2 ^ 32 - 1) ∧
      (s'.fireHead (u / 2)).sent = (s.fireHead (u / 2)).sent.filter (fun x => x.lseq != q))) ∧
  (∀ (t u q f m : Nat) (a : Nat × Nat × List Nat) (s : State), a ∈ (s.head (u / 2)).ahead → a.1 = u % 2 → a.2.2 = [0x83, q, f, m] → max s.now t < a.2.1 + copyNs →
    Answers (.lineAck t u q f m) s (fun s' => s'.fire = s.fire ∧ s'.spool = s.spool ∧ s'.params = s.params)) ∧
  (∀ (t h q : Nat) (l : HeadLine) (s : State), h < s.fire.heads.length → (s.fireHead h).sent.find? (fun x => x.lseq == q) = some l → l.gated = none → l.broke = false →
    l.fireAt + l.period * 126 / 64 + 120000 ≤ max s.now t →
    Answers (.lineAckTimeout t h q) s (fun s' => CountsUp (Par.at_ Par.fireULinesBroken h) s s' ∧ (s'.fireHead h).sent = (s.fireHead h).sent.filter (fun x => x.lseq != q) ∧
      s'.par (Par.at_ Par.fireULinesFired h) = s.par (Par.at_ Par.fireULinesFired h))) ∧
  (∀ (t n r hm : Nat) (s : State), n < 6 → s.fire.gates.length = 6 → s.par (Par.posGate0Role + 4 * n) = r → 1 ≤ r → r ≤ 5 → s.par (Par.posGate0Heads + 4 * n) = hm →
    (nth s.fire.gates ⟨false, 0, 0⟩ n).active = false → s.saveMode = false → s.dev.resync = [] →
    Answers (.gateActivate t n) s (fun s' => (∀ h < 16, bitAt hm h → s'.gated h ∧ 3 ∈ s'.causesAt h ∧ ∀ u ∈ s.lanesUp h, Out.marker u 0x55 1 ∈ s'.out) ∧
      (r = 4 → s.heads.length = 16 → ∀ h < 16, bitAt hm h → (s'.head h).hpen = false) ∧ CountsUp (Par.evtCount000 + Ev.gateActive) s s')) ∧
  (∀ (t n : Nat) (g : Gate) (s : State), n < 6 → s.fire.gates.length = 6 → s.fire.gates[n]? = some g → g.active → s.fire.sag = false → s.saveMode = false → s.dev.resync = [] →
    (∀ m < 6, m ≠ n → (nth s.fire.gates ⟨false, 0, 0⟩ m).active = false) →
    Answers (.gateRelease t n) s (fun s' => (∀ h, s'.gated h = false) ∧ (∀ h < 16, bitAt g.heads h → ∀ u ∈ s.lanesUp h, Out.marker u 0x55 0 ∈ s'.out) ∧ s'.cond Ev.gateActive n = false)) ∧
  (∀ (t u q a m hd i d : Nat) (l : HeadLine) (s : State), s.heads.length = 16 → FirstCopy u [0x85, q, 1, m] s → u / 2 < s.fire.heads.length → (s.fireHead (u / 2)).sent = [l] → l.lseq = q →
    l.items = [(hd, i, d)] → l.gated = some (3, a) → l.broke = false →
    Answers (.gateReport t u q 1 m) s (fun s' => CountsUp (Par.at_ Par.fireUGateBreaks (u / 2)) s s' ∧ CountsUp (Par.at_ Par.fireULinesBroken (u / 2)) s s' ∧
      (s'.fireHead (u / 2)).sent = [] ∧ ∀ g', s'.seg hd = some g' → Ranged g' (u / 2) i 3 1)) ∧
  (∀ (t u q a m hd i d : Nat) (l : HeadLine) (s : State), s.heads.length = 16 → FirstCopy u [0x85, q, 0, m] s → u / 2 < s.fire.heads.length → (s.fireHead (u / 2)).sent = [l] →
    l.items = [(hd, i, d)] → l.gated = some (3, a) → l.broke = false → s.unstarted (u / 2) l →
    Answers (.gateReport t u q 0 m) s (fun s' => CountsUp (Par.at_ Par.fireUGateBreaks (u / 2)) s s' ∧ CountsUp (Par.at_ Par.fireULinesBroken (u / 2)) s s' ∧
      (s'.fireHead (u / 2)).sent = [] ∧ ∀ g', s'.seg hd = some g' → Ranged g' (u / 2) i 3 0)) ∧
  (∀ (t h a hd i d : Nat) (l : HeadLine) (s : State), h < s.fire.heads.length → (s.fireHead h).sent = [l] → l.items = [(hd, i, d)] → l.gated = some (3, a) → l.broke = false →
    a + 100000 ≤ max s.now t → s.running h l →
    Answers (.gateReportTimeout t h ()) s (fun s' => CountsUp (Par.at_ Par.fireUGateBreaks h) s s' ∧ (s'.fireHead h).sent = [] ∧ ∀ g', s'.seg hd = some g' → Ranged g' h i 3 1)) ∧
  (∀ (t : Nat) (h : Hdr) (s : State), Taken 0x0A01 t h s → learnRight (s.role h.session) .counters = .all →
    Answers (.fireStatus t h []) s (fun s' => s'.rest = (s.taken t h).rest ∧ Replied h 0x0A01 St.ok 0 (.bytes ((List.range 16).flatMap (fun k =>
      leBytes 8 (s.par (Par.at_ Par.fireULinesFired k)) ++ leBytes 2 (s.fireHead k).acked ++
      leBytes 1 (s.headState k + 8 * s.par (Par.at_ Par.headUTempStage k) + bit (s.gated k) 5 + 64 * s.par (Par.at_ Par.headULaneMode k)) ++
      leBytes 1 (s.par (Par.at_ Par.headUDepth k)) ++ [0, 0, 0, 0]))) s'))

/-- A HELLO on an UP lane of a port without a head starts its attach and sends MEM_READ for the first 512 bytes. The last MEM_DATA of a valid memory authenticates the head, takes its slots, rank and line rate, counts it and raises EV044; an invalid one raises EV042 and the head stays unpowered. HEAD_POWER on asserts HPEN of an attached head, off deasserts it; on for a
head not authenticated draws 0x0214. HEAD_MEMORY_READ and HEAD_REAUTH queue a read; HEAD_RECIPE_WRITE stages one level of the seven. POWER_GOOD_TIMEOUT deasserts HPEN with EV040. A readback that disagrees raises EV040 until it agrees. (spec/06_secrecy.md, spec/11_firing_and_heads.md, spec/22_pins_and_electrical.md) -/
def Obligations.HeadsAttach : Prop :=
  (∀ (t u id n ms : Nat) (s : State), u < 32 → s.heads.length = 16 → s.laneIsUp u → LanesOn (u / 2) s → (s.head (u / 2)).laneIds = [] → (s.head (u / 2)).phase = 0 → (s.head (u / 2)).reads = [] →
    id < 2 ^ 128 → n < 2 ^ 14 → ms < 65536 → ms % 4 = 0 → 512 ≤ ms →
    Answers (.headHello t u id n ms) s (fun s' => (s'.head (u / 2)).phase = 1 ∧ (s'.head (u / 2)).identity = id ∧ (s'.head (u / 2)).slots = n ∧ (s'.head (u / 2)).memSize = ms ∧
      s'.headState (u / 2) = 1 ∧ Out.theal u 4 [((s.head (u / 2)).rtag + 1) % 256, 512, 0] [] ∈ s'.out)) ∧
  (∀ (t u h : Nat) (r : MemRead) (rest : List MemRead) (data : List Byte) (c : Chain) (s : State), h = u / 2 → s.heads.length = 16 →
    FirstCopy u ([0x84, (s.head h).rtag, 0] ++ data.map BitVec.toNat) s → (s.head h).reads = r :: rest → data.length = 512 → r.data.length + 512 < r.total → s.saveMode = false →
    Answers (.memData t u (s.head h).rtag false data c ()) s (fun s' => (s'.head h).reads = { r with data := r.data ++ data } :: rest ∧
      Out.theal u 4 [((s.head h).rtag + 1) % 256, min 512 (r.total - (r.data.length + 512)), r.offset + (r.data.length + 512)] [] ∈ s'.out)) ∧
  (∀ (t u h : Nat) (r : MemRead) (data : List Byte) (c : Chain) (s : State), h = u / 2 → s.heads.length = 16 → FirstCopy u ([0x84, (s.head h).rtag, 0] ++ data.map BitVec.toNat) s →
    (s.head h).reads = [r] → r.kind = 0 → data.length = min 512 (r.total - r.data.length) →
    r.total ≤ r.data.length + data.length → s.shell.tampered = false → (s.at_ t).headValid h (r.data ++ data) c → (s.head h).out = false → (s.head h).hpen = false → (s.head h).good = false →
    (s.head h).cmd = none → (s.head h).readback = false →
    s.par (Par.at_ Par.headUAutoPower h) = 1 → s.withholding h = none → s.nozPerCol h = 1 → s.colCount h ≤ leAt (r.data ++ data) 6 2 → (∀ g ∈ s.spool.segs, g.live → bitAt g.heads h = false) →
    Answers (.memData t u (s.head h).rtag false data c ()) s (fun s' => s'.attached h ∧ (s'.head h).mem = r.data ++ data ∧ s'.slots h = leAt (r.data ++ data) 6 2 ∧
      s'.par (Par.at_ Par.headURank h) = leAt (r.data ++ data) 5 1 % 16 ∧ s'.maxLineRate h = min (leAt (r.data ++ data) 12 4) (s.rateCeiling h) ∧ (s'.head h).hpen ∧ s'.headState h = 4 ∧
      ((s.head h).lastIdent ≠ some (s.head h).identity → s'.par (Par.at_ Par.headURecipe h) = defaultRecipe (r.data ++ data)) ∧
      CountsUp (Par.at_ Par.headUAttaches h) s s' ∧ CountsUp (Par.evtCount000 + Ev.headAttached) s s')) ∧
  (∀ (t u h : Nat) (r : MemRead) (data : List Byte) (c : Chain) (s : State), h = u / 2 → s.heads.length = 16 → FirstCopy u ([0x84, (s.head h).rtag, 0] ++ data.map BitVec.toNat) s →
    (s.head h).reads = [r] → r.kind = 0 →
    data.length = min 512 (r.total - r.data.length) → r.total ≤ r.data.length + data.length → (s.at_ t).headValid h (r.data ++ data) c = false →
    Answers (.memData t u (s.head h).rtag false data c ()) s (fun s' => (s'.head h).auth = false ∧ (s'.head h).hpen = false ∧ s'.headState h = 2 ∧ CountsUp (Par.evtCount000 + Ev.headAuthFail) s s')) ∧
  (∀ (t : Nat) (h : Hdr) (k : Nat) (s : State), Taken 0x0B02 t h s → k < 16 → s.heads.length = 16 → mayChange (s.role h.session) .oper → s.owns h.session → s.attached k → (s.head k).nocap = false → (s.head k).out = false →
    s.withholding k = none →
    Answers (.headPower t h (leBytes 1 k ++ [1, 0, 0])) s (fun s' => (s'.head k).hpen ∧ s'.par (Par.at_ Par.headUPower k) ≠ 0 ∧ Replied h 0x0B02 St.ok 0 (.bytes []) s')) ∧
  (∀ (t : Nat) (h : Hdr) (k : Nat) (s : State), Taken 0x0B02 t h s → k < 16 → s.heads.length = 16 → mayChange (s.role h.session) .oper → s.owns h.session →
    Answers (.headPower t h (leBytes 1 k ++ [0, 0, 0])) s (fun s' => (s'.head k).hpen = false ∧ s'.par (Par.at_ Par.headUPower k) = 0 ∧ Replied h 0x0B02 St.ok 0 (.bytes []) s')) ∧
  (∀ (t : Nat) (h : Hdr) (k : Nat) (s : State), Taken 0x0B02 t h s → k < 16 → mayChange (s.role h.session) .oper → s.owns h.session → s.attached k = false →
    Answers (.headPower t h (leBytes 1 k ++ [1, 0, 0])) s (fun s' => s'.rest = (s.taken t h).rest ∧ Replied h 0x0B02 St.headNotReady k (.bytes []) s')) ∧
  (∀ (t : Nat) (h : Hdr) (k n off : Nat) (s : State), Taken 0x0B01 t h s → k < 16 → s.heads.length = 16 → 4 ≤ n → n ≤ 4096 → n % 4 = 0 → learnRight (s.role h.session) .headCal = .all → (s.head k).phase = 2 →
    off + n ≤ (s.head k).memSize → off < 2 ^ 32 →
    Answers (.headMemoryRead t h (leBytes 1 k ++ [0] ++ leBytes 2 n ++ leBytes 4 off)) s (fun s' => ∃ cid, (s'.head k).reads = (s.head k).reads ++ [⟨2, cid, off, n, []⟩] ∧
      (s'.head k).mem = (s.head k).mem)) ∧
  (∀ (t : Nat) (h : Hdr) (k : Nat) (s : State), Taken 0x0B04 t h s → k < 16 → s.heads.length = 16 → mayChange (s.role h.session) .oper → s.owns h.session → (s.head k).phase = 2 → (s.head k).memSize < 65536 →
    (s.head k).memSize % 4 = 0 → 4 ≤ (s.head k).memSize →
    Answers (.headReauth t h (leBytes 1 k ++ [0, 0, 0])) s (fun s' => ∃ cid, (s'.head k).reads = (s.head k).reads ++ [⟨1, cid, 0, (s.head k).memSize, []⟩] ∧ (s'.head k).auth = (s.head k).auth)) ∧
  (∀ (t : Nat) (h : Hdr) (k l : Nat) (r : List Byte) (s : State), Taken 0x0B03 t h s → k < 16 → 1 ≤ l → l ≤ 7 → r.length = 20 → recipeForm (leAt r 0 20 * ((256 ^ 140 - 1) / (256 ^ 20 - 1))) = none →
    mayWrite (s.role h.session) (Par.at_ Par.headURecipe k) → s.stageOf h.session = [] →
    Answers (.headRecipeWrite t h (leBytes 1 k ++ leBytes 1 l ++ [0, 0] ++ r)) s (fun s' => s'.stageOf h.session = [⟨Par.at_ Par.headURecipe k,
        leNat ((leBytes 140 (s.par (Par.at_ Par.headURecipe k))).take (20 * (l - 1)) ++ r ++ (leBytes 140 (s.par (Par.at_ Par.headURecipe k))).drop (20 * l))⟩] ∧
      s'.par (Par.at_ Par.headURecipe k) = s.par (Par.at_ Par.headURecipe k) ∧ Replied h 0x0B03 St.ok 0 (.bytes []) s')) ∧
  (∀ (t k : Nat) (s : State), k < 16 → s.heads.length = 16 → (s.head k).hpen → (s.head k).good = false → (s.head k).hpenAt + 100000000 ≤ max s.now t →
    Answers (.powerGoodTimeout t k) s (fun s' => (s'.head k).hpen = false ∧ (s'.head k).powerFail ∧ CountsUp (Par.evtCount000 + Ev.headFault) s s')) ∧
  (∀ (t k : Nat) (s : State), k < 16 → s.heads.length = 16 → (s.head k).readback = false →
    Answers (.hpenReadbackFault t k) s (fun s' => (s'.head k).readback ∧ CountsUp (Par.evtCount000 + Ev.headFault) s s' ∧ (s.attached k → (s.head k).nocap = false → s'.headState k = 7))) ∧
  (∀ (t k : Nat) (s : State), k < 16 → s.heads.length = 16 → Answers (.hpenReadbackAgree t k) s (fun s' => (s'.head k).readback = false))

/-- The first copy of STATUS of an attached head reports its reading in HEAD[h].TEMP and ends its silence. A reading at or above the limit leads to stage 2, one at or above the warning to stage 1 from stage 0, one at or below the warning less 5 °C to stage 0, and between them a head at the limit stays there; the head's next line boundary takes the
stage with EV041, and none before. FAULT makes the state FAULT with EV040; POWER_GOOD that falls under HPEN loses the head with EV043. The loop of R275 moves PREHEAT by one against the mean, unless it is pinned or the core restarts. FAULT clears after 10 ms; 1 ms of silence loses the head; a table message not echoed for 200 µs goes again for the next line. (spec/11_firing_and_heads.md) -/
def Obligations.HeadStatusActs : Prop :=
  (∀ (t u h temp rq vq : Nat) (s : State), h = u / 2 → s.heads.length = 16 → FirstCopy u [0x82, temp, 0, 0, rq, vq] s → temp < 65536 → s.attached h → (s.head h).hpen = false →
    (s.head h).stageNext = none → s.tempLimit h ≤ signed 16 temp → s.par (Par.at_ Par.headUTempStage h) ≠ 2 →
    Answers (.status t u temp 0 0 rq vq) s (fun s' => s'.par (Par.at_ Par.headUTemp h) = temp ∧ (s'.head h).stageNext = some (2, temp) ∧ (s'.head h).lastStatus = max s.now t ∧
      s'.par (Par.at_ Par.headUTempStage h) = s.par (Par.at_ Par.headUTempStage h))) ∧
  (∀ (t u h temp rq vq : Nat) (s : State), h = u / 2 → s.heads.length = 16 → FirstCopy u [0x82, temp, 0, 0, rq, vq] s → temp < 65536 → s.attached h → (s.head h).hpen = false →
    (s.head h).stageNext = none → signed 16 temp < s.tempLimit h → s.tempWarn h ≤ signed 16 temp → s.par (Par.at_ Par.headUTempStage h) = 0 →
    Answers (.status t u temp 0 0 rq vq) s (fun s' => (s'.head h).stageNext = some (1, temp) ∧ s'.par (Par.at_ Par.headUTempStage h) = 0)) ∧
  (∀ (t u h temp rq vq : Nat) (s : State), h = u / 2 → s.heads.length = 16 → FirstCopy u [0x82, temp, 0, 0, rq, vq] s → temp < 65536 → s.attached h → (s.head h).hpen = false →
    (s.head h).stageNext = none → signed 16 temp < s.tempLimit h → s.tempWarn h - 80 < signed 16 temp → s.par (Par.at_ Par.headUTempStage h) = 2 →
    Answers (.status t u temp 0 0 rq vq) s (fun s' => s'.par (Par.at_ Par.headUTemp h) = temp ∧ s'.par (Par.at_ Par.headUTempStage h) = 2 ∧ (s'.head h).stageNext = none)) ∧
  (∀ (t u h temp rq vq : Nat) (s : State), h = u / 2 → s.heads.length = 16 → FirstCopy u [0x82, temp, 0, 0, rq, vq] s → temp < 65536 → s.attached h → (s.head h).hpen = false →
    (s.head h).stageNext = none → signed 16 temp < s.tempLimit h → signed 16 temp ≤ s.tempWarn h - 80 → s.par (Par.at_ Par.headUTempStage h) ≠ 0 →
    Answers (.status t u temp 0 0 rq vq) s (fun s' => (s'.head h).stageNext = some (0, temp))) ∧
  (∀ (t h st r : Nat) (p : Int) (s : State), LineDue t h p s → s.heads.length = 16 → (s.head h).stageNext = some (st, r) →
    Answers (.lineBoundary t h p) s (fun s' => s'.par (Par.at_ Par.headUTempStage h) = st ∧ (s'.head h).stageNext = none ∧ CountsUp (Par.evtCount000 + Ev.headTemperature) s s')) ∧
  (∀ (t u h temp fc rq vq : Nat) (s : State), h = u / 2 → s.heads.length = 16 → FirstCopy u [0x82, temp, 2, fc, rq, vq] s → s.attached h → (s.head h).nocap = false → (s.head h).hpen = false →
    (s.head h).fault = false →
    Answers (.status t u temp 2 fc rq vq) s (fun s' => (s'.head h).fault ∧ (s'.head h).faultCode = fc % 256 ∧ s'.headState h = 7 ∧ 5 ∈ s'.causesAt h ∧ CountsUp (Par.evtCount000 + Ev.headFault) s s')) ∧
  (∀ (t u h temp rq vq : Nat) (s : State), h = u / 2 → s.heads.length = 16 → FirstCopy u [0x82, temp, 0, 0, rq, vq] s → s.attached h → (s.head h).hpen → (s.head h).good →
    Answers (.status t u temp 0 0 rq vq) s (fun s' => (s'.head h).hpen = false ∧ (s'.head h).phase = 2 ∧ CountsUp (Par.evtCount000 + Ev.headLost) s s')) ∧
  (∀ (t h p : Nat) (s : State), h < 16 → s.heads.length = 16 → (s.head h).phase = 2 → (s.head h).tickAt + 10000000 ≤ max s.now t → s.par (Par.at_ Par.headUPreheat h) = p → 0 < (s.head h).tempN →
    s.loopsRun → s.pinned (Par.at_ Par.headUPreheat h) = false →
    Answers (.tempLoopTick t h) s (fun s' => (s'.head h).tickAt = max s.now t ∧ (s'.head h).tempN = 0 ∧ s'.par (Par.at_ Par.headUPreheat h) =
      (if (signed 16 (s.par (Par.at_ Par.headUTempSet h)) + 8) * (s.head h).tempN < (s.head h).tempSum then p - 1
       else if (s.head h).tempSum < (signed 16 (s.par (Par.at_ Par.headUTempSet h)) - 8) * (s.head h).tempN then min 16 (p + 1) else p))) ∧
  (∀ (t h : Nat) (s : State), s.loopsRun = false ∨ s.pinned (Par.at_ Par.headUPreheat h) →
    Answers (.tempLoopTick t h) s (fun s' => s'.par (Par.at_ Par.headUPreheat h) = s.par (Par.at_ Par.headUPreheat h))) ∧
  (∀ (t h g : Nat) (s : State), h < 16 → s.heads.length = 16 → (s.head h).faultGone = some g → g + 10000000 ≤ max s.now t →
    Answers (.headFaultClear t h) s (fun s' => (s'.head h).fault = false ∧ (s'.head h).faultGone = none)) ∧
  (∀ (t h g : Nat) (s : State), (s.head h).faultGone = some g → max s.now t < g + 10000000 → Answers (.headFaultClear t h) s (fun s' => s'.heads = s.heads)) ∧
  (∀ (t h : Nat) (s : State), h < 16 → s.heads.length = 16 → (s.head h).phase = 2 → s.lanesUp h ≠ [] → (s.head h).lastStatus + 1000000 ≤ max s.now t →
    Answers (.statusSilence t h) s (fun s' => (s'.head h).phase = 0 ∧ (s'.head h).auth = false ∧ (s'.head h).hpen = false ∧ s'.headState h = 0 ∧ s'.slots h = 0 ∧ 5 ∈ s'.causesAt h ∧
      CountsUp (Par.evtCount000 + Ev.headLost) s s')) ∧
  (∀ (t h k q : Nat) (m : TableMsg) (s : State), h < 16 → s.heads.length = 16 → (s.head h).tables.find? (fun x => x.kind == k && x.tseq == q) = some m → m.sentAt + 200000 ≤ max s.now t → s.laneIsUp (2 * h) → LanesOn h s →
    Answers (.tableResend t h k q) s (fun s' => Out.theal (2 * h) k [(s.fireHead h).lseq, q, m.first, m.data.length] m.data ∈ s'.out ∧ CountsUp (Par.at_ Par.headUTableResends h) s s'))

/-- LANE_RETRAIN_TIMER starts a lane that is DOWN, or FAILED for 20 ms, at step 1 with a non-zero scrambler state; a HELD lane stays. The load check passes to training or fails with NO_LOAD or LOAD_SHORT. A probe is echoed with READY and its turnaround. The eighth echo with both ends READY makes the lane UP with LATENCY the largest half of round trip less turnaround, or fails it with LATENCY above 300 ns
(Causeway 90 ns). A lane not UP 10 ms after step 1 fails with TRAIN_TIMEOUT. An ALIGN loads the carried state and counts a resync when its own disagrees; one that shows RX_UP 0 takes an UP lane down with FAR_RX. A training cycle is ALIGN, TRAIN with the next probe, and 61 FILL; an UP lane sends ALIGN in clear with its carried state, and FILL scrambled; a loopback that this end runs sends words of zeros. (spec/12_theal_lanes.md) -/
def Obligations.LanesComeUp : Prop :=
  (∀ (t u : Nat) (s : State), u < 36 → s.lanes.length = 36 → s.laneState u = Ln.down ∨ (s.laneState u = Ln.failed ∧ (s.lane u).failedAt + 20000000 ≤ max s.now t) → Seeds u s →
    Answers (.laneRetrainTimer t u) s (fun s' => s'.laneState u = Ln.detect ∧ (s'.lane u).startAt = max s.now t ∧ 0 < (s'.lane u).txState ∧ (s'.lane u).txState < 2 ^ 31 ∧
      (s'.lane u).probes = [] ∧ CountsUp (Par.at_ Par.laneUTrainings u) s s')) ∧
  (∀ (t u : Nat) (s : State), s.laneState u = Ln.held → Answers (.laneRetrainTimer t u) s (fun s' => s'.lanes = s.lanes ∧ s'.laneState u = Ln.held)) ∧
  (∀ (t u : Nat) (s : State), s.laneState u = Ln.detect → Answers (.loadCheck t u 0) s (fun s' => s'.laneState u = Ln.training)) ∧
  (∀ (t u k : Nat) (s : State), k < 2 → s.laneState u = Ln.detect → s.cond Ev.laneDown u = false → (s.lane u).flapping = false → Answers (.loadCheck t u (1 + k)) s (WentDown u (3 + k) s)) ∧
  (∀ (t u w rtt turn ctle : Nat) (s : State), u < 36 → s.lanes.length = 36 → s.laneState u = Ln.training → bitAt w 16 = false → (s.lane u).probes.length < 8 → LanesOn (u / 2) s →
    Answers (.train t u w rtt turn ctle) s (fun s' => s'.laneState u = Ln.training ∧ (s'.lane u).peerReady = ((s.lane u).peerReady || bitAt w 17) ∧
      Out.marker u 0x66 (256 * bitsAt w 8 8 + 2 ^ 16 + bit (s.lane u).rxReady 17 + 2 ^ 18 * (turn % 2 ^ 14)) ∈ s'.out)) ∧
  (∀ (t u w rtt turn ctle : Nat) (s : State), u < 36 → s.lanes.length = 36 → s.laneState u = Ln.training → bitAt w 16 → bitsAt w 8 8 < 8 → bitsAt w 8 8 ∉ (s.lane u).probes →
    (s.lane u).probes.length = 7 → (s.lane u).rxReady → (s.lane u).peerReady = true ∨ bitAt w 17 = true → max (s.lane u).rtt ((rtt - bitsAt w 18 14 + 1) / 2) ≤ (if u < 32 then 300 else 90) → Wired u s →
    Answers (.train t u w rtt turn ctle) s (fun s' => s'.laneState u = Ln.up ∧ s'.par (Par.at_ Par.laneULatency u) = max (s.lane u).rtt ((rtt - bitsAt w 18 14 + 1) / 2) ∧
      (s'.lane u).upAt = max s.now t ∧ s'.cond Ev.laneDown u = false ∧
      (u < 32 → s.fire.heads.length = 16 → (s.fireHead (u / 2)).lanes = 0 → (s'.fireHead (u / 2)).lanes = 2 ^ (u % 2)))) ∧
  (∀ (t u w rtt turn ctle : Nat) (s : State), u < 36 → s.lanes.length = 36 → s.laneState u = Ln.training → bitAt w 16 → bitsAt w 8 8 < 8 → bitsAt w 8 8 ∉ (s.lane u).probes →
    (s.lane u).probes.length = 7 → (s.lane u).rxReady → (s.lane u).peerReady = true ∨ bitAt w 17 = true → (if u < 32 then 300 else 90) < max (s.lane u).rtt ((rtt - bitsAt w 18 14 + 1) / 2) →
    s.cond Ev.laneDown u = false → (s.lane u).flapping = false → Answers (.train t u w rtt turn ctle) s (WentDown u 9 s)) ∧
  (∀ (t u : Nat) (s : State), s.laneState u = Ln.detect ∨ s.laneState u = Ln.training → (s.lane u).startAt + 10000000 ≤ max s.now t → s.cond Ev.laneDown u = false → (s.lane u).flapping = false →
    Answers (.trainTimeout t u) s (WentDown u 0xB s)) ∧
  (∀ (t u w1 w2 n : Nat) (s : State), u < 36 → s.lanes.length = 36 → s.laneState u = Ln.up → bitAt w1 16 → (∀ v, v ≠ u → v / 2 = u / 2 → (s.lane v).peerLane ≠ some (bitsAt w1 8 1)) →
    Answers (.align t u w1 w2 n false) s (fun s' => s'.laneState u = Ln.up ∧ (s'.lane u).rxState = some (w2 % 2 ^ 31) ∧ (s'.lane u).alignAt = max s.now t ∧
      s'.par (Par.at_ Par.laneUSwapped u) = (if bitsAt w1 8 1 = u % 2 then 0 else 1) ∧
      (∀ r, (s.lane u).rxState = some r → scrambleWords (n + 2) r ≠ w2 % 2 ^ 31 → CountsUp (Par.at_ Par.laneUSeedResync u) s s') ∧
      (∀ r, (s.lane u).rxState = some r → scrambleWords (n + 2) r = w2 % 2 ^ 31 → s'.par (Par.at_ Par.laneUSeedResync u) = s.par (Par.at_ Par.laneUSeedResync u)))) ∧
  (∀ (t u w1 w2 n : Nat) (s : State), u < 36 → s.lanes.length = 36 → s.laneState u = Ln.up → bitAt w1 16 = false → (∀ v, v ≠ u → v / 2 = u / 2 → (s.lane v).peerLane ≠ some (bitsAt w1 8 1)) → Steady t u s →
    Answers (.align t u w1 w2 n false) s (WentDown u 8 s)) ∧
  (∀ (t u : Nat) (s : State), u < 36 → s.lanes.length = 36 → s.laneState u = Ln.up → LanesOn (u / 2) s → (s.lane u).sinceFill + 2 ≤ 639 → (s.lane u).acount < 256 →
    Answers (.alignDue t u ()) s (fun s' => s'.out = [.line u [(2, 0x33 + 256 * (u % 2) + bit (32 ≤ u) 9 + bit (u == 34 || u == 35) 10 + 2 ^ 16 + 2 ^ 24 * (s.lane u).acount),
        (2, scrambleWords 2 (s.lane u).txState)]] ∧ (s'.lane u).txState = scrambleWords 2 (s.lane u).txState ∧ (s'.lane u).acount = ((s.lane u).acount + 1) % 256)) ∧
  (∀ (t u : Nat) (s : State), u < 36 → s.lanes.length = 36 → s.laneState u = Ln.training → LanesOn (u / 2) s →
    Answers (.alignDue t u ()) s (fun s' => Out.marker u 0x66 (if (s.lane u).rxReady then 256 * (s.lane u).nextProbe + 2 ^ 17 else 0) ∈ s'.out ∧
      ∃ ws, Out.line u ws ∈ s'.out ∧ 64 ≤ ws.length ∧ ws.length ≤ 65 ∧ (s'.lane u).txState = scrambleWords ws.length (s.lane u).txState)) ∧
  (∀ (t u n : Nat) (s : State), u < 36 → s.lanes.length = 36 → s.laneState u = Ln.training ∨ s.laneState u = Ln.up ∨ s.laneState u = Ln.loopback → LanesOn (u / 2) s → (s.lane u).far = none →
    (s.lane u).loop = none → (s.lane u).sinceAlign + n < 8190 →
    Answers (.fillDue t ⟨u, n⟩) s (fun s' => s'.out = [.line u (scrambled (s.lane u).txState (List.replicate n (2, 0x1E)))] ∧ (s'.lane u).txState = scrambleWords n (s.lane u).txState)) ∧
  (∀ (t u n : Nat) (s : State), u < 36 → s.lanes.length = 36 → s.laneState u = Ln.loopback → LanesOn (u / 2) s → (s.lane u).far = none → (s.lane u).loop ≠ none → (s.lane u).sinceAlign + n < 8190 →
    (s.lane u).sinceFill + n ≤ 639 → Answers (.fillDue t ⟨u, n⟩) s (fun s' => s'.out = [.line u (scrambled (s.lane u).txState (List.replicate n (1, 0)))]))

/-- A frame whose words carry its CRC is delivered and counted, and one whose CRC word is any other counts in CRC_FAIL and delivers nothing. A fault takes an UP lane down with its reason, DOWNS and EV046; the one that reaches LANE.FLAP_LIMIT holds it with FLAPPING. 16,384 words without ALIGN are FAR_RX. A lane in a loopback that this end runs checks each word that returns; a far end returns the words it receives. The report of a loss takes the lane from FIRE, and with no lane left raises EV049;
the end of LANE.RESTORE_HOLD offers it to the next line boundary. LANE_RETRAIN and LANE_LOOPBACK take the lane down with FORCED; a loopback ends with its counts and retrains. LANE_STATUS replies with 36 entries. (spec/11_firing_and_heads.md, spec/12_theal_lanes.md) -/
def Obligations.LaneFramesAndFaults : Prop :=
  (∀ (t u fill q st : Nat) (ws : List Nat) (s : State), u < 36 → s.lanes.length = 36 → s.laneState u = Ln.up → (s.lane u).rxState = some st → (s.lane u).errs = [] → 0 < s.par Par.laneErrLimit → 1 ≤ fill → fill ≤ 32 → LanesIn u s →
    q < 256 → 1 ≤ ws.length → ws.length ≤ 1024 → (∀ w ∈ ws, w < 2 ^ 32) → (s.lane u).fseqRx = none ∨ (s.lane u).fseqRx = some ((q + 255) % 256) →
    s.par (Par.at_ Par.laneUCrcFail u) < 2 ^ 32 → s.par (Par.at_ Par.laneUFrameGap u) < 2 ^ 32 →
    Answers (.thealFrameReceive t u fill (scrambled st (frameWords q (frameCrc q ws) ws))) s (fun s' => (s'.lane u).rx = ws.flatMap (leBytes 4) ∧ s'.laneState u = Ln.up ∧ (s'.lane u).fseqRx = some q ∧
      CountsUp (Par.at_ Par.laneUFramesRx u) s s' ∧ s'.par (Par.at_ Par.laneUCrcFail u) = s.par (Par.at_ Par.laneUCrcFail u) ∧ s'.par (Par.at_ Par.laneUFrameGap u) = s.par (Par.at_ Par.laneUFrameGap u))) ∧
  (∀ (t u fill q st c : Nat) (ws : List Nat) (s : State), u < 36 → s.lanes.length = 36 → s.laneState u = Ln.up → (s.lane u).rxState = some st → (s.lane u).errs = [] → 1 < s.par Par.laneErrLimit → 1 ≤ fill → fill ≤ 32 → LanesIn u s →
    q < 256 → 1 ≤ ws.length → ws.length ≤ 1024 → (∀ w ∈ ws, w < 2 ^ 32) → c < 2 ^ 32 → c ≠ frameCrc q ws → s.par (Par.at_ Par.laneUFramesRx u) < 2 ^ 32 →
    Answers (.thealFrameReceive t u fill (scrambled st (frameWords q c ws))) s (fun s' => (s'.lane u).rx = (s.lane u).rx ∧ s'.laneState u = Ln.up ∧
      CountsUp (Par.at_ Par.laneUCrcFail u) s s' ∧ s'.par (Par.at_ Par.laneUFramesRx u) = s.par (Par.at_ Par.laneUFramesRx u))) ∧
  (∀ (t u fill n st : Nat) (r : LoopRun) (s : State), s.lanes.length = 36 → u < 36 → s.laneState u = Ln.loopback → LanesIn u s → (s.lane u).loop = some r → (s.lane u).rxState = some st →
    Answers (.thealFrameReceive t u fill (scrambled st (List.replicate n (1, 0)))) s (fun s' => (s'.lane u).loop = some { r with words := r.words + n } ∧ (s'.lane u).rxState = some (scrambleWords n st))) ∧
  (∀ (t u fill w st : Nat) (r : LoopRun) (s : State), s.lanes.length = 36 → u < 36 → s.laneState u = Ln.loopback → LanesIn u s → (s.lane u).loop = some r → (s.lane u).rxState = some st → 0 < w → w < 2 ^ 32 →
    Answers (.thealFrameReceive t u fill (scrambled st [(1, w)])) s (fun s' => (s'.lane u).loop = some { r with words := r.words + 1, wordErrs := r.wordErrs + 1, bitErrs := r.bitErrs + popcount 32 w })) ∧
  (∀ (t u fill a : Nat) (ws : List (Nat × Nat)) (s : State), s.laneState u = Ln.loopback → LanesIn u s → LanesOn (u / 2) s → u < 36 → (s.lane u).loop = none → (s.lane u).far = some a → 12 ≤ fill → fill ≤ 20 →
    (∀ w ∈ ws, w.1 < 4 ∧ w.2 < 2 ^ 32) → Answers (.thealFrameReceive t u fill ws) s (fun s' => s'.out = [.line u ws])) ∧
  (∀ (t u r : Nat) (s : State), s.laneState u = Ln.up → r ∈ [1, 2, 5, 6] → Steady t u s → Answers (.laneFault t u r) s (WentDown u r s)) ∧
  (∀ (t u r : Nat) (s : State), s.laneState u = Ln.up → r ∈ [1, 2, 5, 6] → Steady t u s = false → Answers (.laneFault t u r) s (fun s' => s'.laneState u = Ln.held ∧
      s'.par (Par.at_ Par.laneUReason u) = 0xC ∧ CountsUp (Par.at_ Par.laneUDowns u) s s' ∧ CountsUp (Par.evtCount000 + Ev.laneDown) s s')) ∧
  (∀ (t u : Nat) (s : State), s.laneState u = Ln.up → 1000 * (s.lane u).alignAt + 16384 * s.wordPs u ≤ 1000 * max s.now t → Steady t u s → Answers (.farRxSilence t u) s (WentDown u 8 s)) ∧
  (∀ (t u : Nat) (s : State), u < 32 → s.fire.heads.length = 16 → s.laneIsUp u = false → (s.fireHead (u / 2)).lanes = 3 →
    Answers (.laneLossReport t u) s (fun s' => (s'.fireHead (u / 2)).lanes = 3 - 2 ^ (u % 2) ∧ (s'.fireHead (u / 2)).lossAt = some (s.lane u).failedAt ∧
      s'.par (Par.evtCount000 + Ev.portLanesLost) = s.par (Par.evtCount000 + Ev.portLanesLost))) ∧
  (∀ (t u : Nat) (s : State), u < 32 → s.fire.heads.length = 16 → s.laneIsUp u = false → (s.fireHead (u / 2)).lanes = 2 ^ (u % 2) →
    Answers (.laneLossReport t u) s (fun s' => (s'.fireHead (u / 2)).lanes = 0 ∧ s'.par (Par.at_ Par.headUDepth (u / 2)) = 0 ∧ 7 ∈ s'.causesAt (u / 2) ∧
      CountsUp (Par.evtCount000 + Ev.portLanesLost) s s')) ∧
  (∀ (t u e : Nat) (s : State), u < 32 → s.lanes.length = 36 → s.fire.heads.length = 16 → s.laneIsUp u → (s.lane u).hold = some e → e ≤ max s.now t →
    Answers (.laneRestoreHoldEnd t u) s (fun s' => (s'.lane u).hold = none ∧ (s'.fireHead (u / 2)).back = (s.fireHead (u / 2)).back ||| 2 ^ (u % 2))) ∧
  (∀ (t u : Nat) (s : State), u < 36 → s.lanes.length = 36 → s.laneState u = Ln.up → Answers (.loop t u true) s (fun s' => s'.laneState u = Ln.loopback ∧ (s'.lane u).far = some (max s.now t))) ∧
  (∀ (t u a : Nat) (s : State), u < 36 → s.lanes.length = 36 → (s.lane u).far = some a → Seeds u s → Answers (.loop t u false) s (fun s' => s'.laneState u = Ln.detect ∧ (s'.lane u).far = none)) ∧
  (∀ (t u a : Nat) (s : State), u < 36 → s.lanes.length = 36 → (s.lane u).far = some a → Seeds u s → a + 60000000000 ≤ max s.now t →
    Answers (.farLoopbackExpiry t u) s (fun s' => s'.laneState u = Ln.detect ∧ (s'.lane u).far = none)) ∧
  (∀ (t u : Nat) (r : LoopRun) (s : State), u < 36 → s.lanes.length = 36 → (s.lane u).loop = some r → Seeds u s → r.stop ≤ max s.now t →
    Answers (.loopbackEnd t u () () ()) s (fun s' => s'.laneState u = Ln.detect ∧ (s'.lane u).loop = none ∧ FinalSent r.cid St.ok 0 (.bytes (leBytes 8 r.words ++ leBytes 4 (min (2 ^ 32 - 1) r.wordErrs) ++ leBytes 4 (min (2 ^ 32 - 1) r.bitErrs))) s s')) ∧
  (∀ (t : Nat) (h : Hdr) (s : State), Taken 0x0C01 t h s → learnRight (s.role h.session) .oper = .all →
    Answers (.laneStatus t h []) s (fun s' => s'.rest = (s.taken t h).rest ∧ Replied h 0x0C01 St.ok 0 (.bytes ((List.range 36).flatMap (fun u =>
      leBytes 1 (s.laneState u) ++ leBytes 1 (s.par (Par.at_ Par.laneUReason u)) ++
      leBytes 1 (s.par (Par.at_ Par.laneURate u) + 4 * s.par (Par.at_ Par.laneUPnInverted u) + 8 * s.par (Par.at_ Par.laneUSwapped u) + bit (s.lane u).peerRx 4) ++
      leBytes 1 (s.par (Par.at_ Par.laneUCtle u)) ++ leBytes 2 (s.par (Par.at_ Par.laneULatency u)) ++ leBytes 1 (s.par (Par.at_ Par.laneUEbufFill u)) ++ [0]))) s')) ∧
  (∀ (t : Nat) (h : Hdr) (u : Nat) (s : State), Taken 0x0C02 t h s → u < 36 → s.lanes.length = 36 → mayChange (s.role h.session) .oper → s.owns h.session → s.laneBusy u false = none → s.laneState u = Ln.up → s.noRandom = false → 1 < s.par Par.laneFlapLimit →
    Answers (.laneRetrain t h (leBytes 1 u ++ [0, 0, 0])) s (fun s' => s'.laneState u = Ln.detect ∧ s'.par (Par.at_ Par.laneUReason u) = 0xD ∧ (s'.lane u).retrain.isSome ∧ s'.flapsOf u = [] ∧
      (s'.lane u).downs = [] ∧ CountsUp (Par.at_ Par.laneUDowns u) s s')) ∧
  (∀ (t : Nat) (h : Hdr) (u st d : Nat) (s : State), Taken 0x0C02 t h s → u < 36 → mayChange (s.role h.session) .oper → s.owns h.session → s.laneBusy u false = some (st, d) →
    Answers (.laneRetrain t h (leBytes 1 u ++ [0, 0, 0])) s (fun s' => s'.rest = (s.taken t h).rest ∧ Replied h 0x0C02 st d (.bytes []) s')) ∧
  (∀ (t : Nat) (h : Hdr) (u k ms : Nat) (s : State), Taken 0x0C03 t h s → u < 36 → s.lanes.length = 36 → 1 ≤ k → k ≤ 3 → 1 ≤ ms → ms ≤ 60000 → mayChange (s.role h.session) .oper → s.owns h.session →
    s.laneBusy u true = none → (s.lane u).loop = none →
    Answers (.laneLoopback t h (leBytes 1 u ++ leBytes 1 k ++ [0, 0] ++ leBytes 4 ms)) s (fun s' => s'.laneState u = Ln.loopback ∧ (Steady t u s → s'.par (Par.at_ Par.laneUReason u) = 0xD) ∧
      ((s'.lane u).loop.map LoopRun.stop) = some (max s.now t + 1000000 * ms) ∧ (k = 3 → LanesOn (u / 2) s → Out.marker u 0x78 256 ∈ s'.out) ∧ PendingSent h 0x0C03 s'))

/-- A trigger whose position is reached leaves with its stamp, raises k and moves the next position by the pitch; at a designated start the waiting set comes into force. A trigger too soon after the last is skipped and counted as lost, and none leaves while firing is held or position is lost. A camera line takes the oldest stamp inside LINE_WINDOW; one without a stamp is LINES_EXTRA, and
a stamp beyond the window is LINES_LOST. The first line of an image opens the frame of number CAM[c].FRAMES, REALIGNED where its stamp is no designated start. The end of the image closes the frame, SHORT before H stamps. A closed frame leaves its statistics record. (spec/13_camera_pipeline.md) -/
def Obligations.CameraTriggersAndLines : Prop :=
  (∀ (t c : Nat) (s : State), c < 4 → s.cams.length = 4 → s.camLeads c → CamsOn s → (s.cam c).state ≠ 0 → s.pos.hold = false → s.pos.lost = none → (s.cam c).stalled = false →
    (s.at_ t).reachedAt (s.cam c).next → (∀ l, (s.cam c).last = some l → l + ceilDiv 1000000000 (max 1 (s.camPar Par.camUTrigMaxRate c)) ≤ max s.now t) → (s.cam c).stamps.length < 4096 →
    (s.cam c).k ≠ nextStart (s.cam c).start ((s.cam c).cur.height c) (s.cam c).k → (s.cam c).cur.par Par.camUExposureB c = 0 →
    Answers (.cameraTrigger t c) s (fun s' => (s'.cam c).stamps = (s.cam c).stamps ++ [⟨(s.cam c).k, (s.cam c).next, (s.at_ t).ring, max s.now t, (s.cam c).cur.seq, false⟩] ∧
      (s'.cam c).k = (s.cam c).k + 1 ∧ (s'.cam c).next = (s.cam c).next + (s.cam c).cur.step c ∧
      s'.out = [.camera c 0 [s.camPar Par.camUTrigOut c, s.camPar Par.camUTrigPolarity c, (s.cam c).cur.par Par.camUExposureA c]])) ∧
  (∀ (t c : Nat) (v : CamSet) (s : State), c < 4 → s.cams.length = 4 → s.camLeads c → (s.cam c).state ≠ 0 → s.pos.hold = false → s.pos.lost = none → (s.cam c).stalled = false →
    (s.at_ t).reachedAt (s.cam c).next → (s.cam c).last = none → (s.cam c).stamps.length < 4096 → (s.cam c).shadow = some v →
    (s.cam c).k = nextStart (s.cam c).start ((s.cam c).cur.height c) (s.cam c).k →
    Answers (.cameraTrigger t c) s (fun s' => (s'.cam c).cur = v ∧ (s'.cam c).shadow = none ∧ (s'.cam c).start = (s.cam c).k + v.height c ∧ (s'.cam c).next = (s.cam c).next + v.step c ∧
      (s'.cam c).stamps = (s.cam c).stamps ++ [⟨(s.cam c).k, (s.cam c).next, (s.at_ t).ring, max s.now t, v.seq, true⟩])) ∧
  (∀ (t c l : Nat) (s : State), c < 4 → s.cams.length = 4 → s.camLeads c → (s.cam c).state ≠ 0 → s.pos.hold = false → s.pos.lost = none → (s.cam c).stalled = false →
    (s.at_ t).reachedAt (s.cam c).next → (s.cam c).last = some l → max s.now t < l + ceilDiv 1000000000 (max 1 (s.camPar Par.camUTrigMaxRate c)) →
    Answers (.cameraTrigger t c) s (fun s' => (s'.cam c).stamps = (s.cam c).stamps ∧ (s'.cam c).k = (s.cam c).k + 1 ∧ CountsUp (Par.at_ Par.camUTrigSkipped c) s s' ∧
      CountsUp (Par.at_ Par.camULinesLost c) s s')) ∧
  (∀ (t c : Nat) (s : State), s.pos.hold = true ∨ s.pos.lost.isSome = true → Answers (.cameraTrigger t c) s (fun s' => (s'.cam c).stamps = (s.cam c).stamps ∧ (s'.cam c).k = (s.cam c).k ∧ s'.out = [])) ∧
  (∀ (t c : Nat) (px : List Nat) (st : Stamp) (rest : List Stamp) (f : CamFrame) (s : State), c < 4 → s.cams.length = 4 → s.camLeads c → (s.cam c).state = 3 → s.holding 14 = false → (s.cam c).stamps = st :: rest →
    max s.now t ≤ st.edge + s.camPar Par.camULineWindow c → (s.cam c).fresh = 0 → (s.cam c).opened = some f → f.format = false → f.consumed + 1 < f.set.height c →
    Answers (.cameraLine t c none px false) s (fun s' => (s'.cam c).stamps = rest ∧ (s'.cam c).opened = some { f with lines := f.lines ++ [⟨st.k, st.x, px⟩], consumed := f.consumed + 1, pLast := st.x })) ∧
  (∀ (t c : Nat) (px : List Nat) (s : State), c < 4 → s.cams.length = 4 → s.camLeads c → (s.cam c).state = 3 → s.holding 14 = false → (s.cam c).stamps = [] →
    Answers (.cameraLine t c none px false) s (fun s' => CountsUp (Par.at_ Par.camULinesExtra c) s s' ∧ (s'.cam c).opened = (s.cam c).opened)) ∧
  (∀ (t c : Nat) (px : List Nat) (st : Stamp) (s : State), c < 4 → s.cams.length = 4 → s.camLeads c → (s.cam c).state = 3 → s.holding 14 = false → (s.cam c).stamps = [st] → st.edge + s.camPar Par.camULineWindow c < max s.now t →
    Answers (.cameraLine t c none px false) s (fun s' => CountsUp (Par.at_ Par.camULinesLost c) s s' ∧ CountsUp (Par.at_ Par.camULinesExtra c) s s' ∧ (s'.cam c).stamps = [])) ∧
  (∀ (t c : Nat) (px : List Nat) (st : Stamp) (rest : List Stamp) (s : State), c < 4 → s.cams.length = 4 → s.camLeads c → (s.cam c).state = 3 → s.holding 14 = false → (s.cam c).stamps = st :: rest →
    max s.now t ≤ st.edge + s.camPar Par.camULineWindow c → (s.cam c).opened = none → ((s.cam c).setOf st.seq).par Par.camUExposureB c = 0 → 1 < ((s.cam c).setOf st.seq).height c →
    ((s.cam c).setOf st.seq).podsNeeded c ≤ min 4096 (runTotal s.spool.bufs) → s.spool.epochs = [] →
    Answers (.cameraLine t c (some (((s.cam c).setOf st.seq).par Par.camUWidth c, ((s.cam c).setOf st.seq).par Par.camUPixelBits c)) px false) s (fun s' =>
      (∃ f, (s'.cam c).opened = some f ∧ f.num = s.camPar Par.camUFrames c ∧ f.set = (s.cam c).setOf st.seq ∧ f.lines = [⟨st.k, st.x, px⟩] ∧ f.consumed = 1 ∧ f.realigned = !st.start ∧ f.unbuffered = false ∧ f.pods.length = ((s.cam c).setOf st.seq).podsNeeded c) ∧
      s'.camPar Par.camUFrames c = (s.camPar Par.camUFrames c + 1) % 2 ^ 32 ∧ (st.start = false → CountsUp (Par.at_ Par.camURealigns c) s s'))) ∧
  (∀ (t c : Nat) (px : List Nat) (st : Stamp) (rest : List Stamp) (f : CamFrame) (s : State), c < 4 → s.cams.length = 4 → s.camLeads c → (s.cam c).state = 3 → s.holding 14 = false → (s.cam c).stamps = st :: rest →
    max s.now t ≤ st.edge + s.camPar Par.camULineWindow c → (s.cam c).fresh = 0 → (s.cam c).opened = some f → f.format = false → f.consumed + 1 < f.set.height c →
    Answers (.cameraLine t c none px true) s (fun s' => (s'.cam c).opened = none ∧
      (s'.cam c).closing = (s.cam c).closing ++ [{ f with lines := f.lines ++ [⟨st.k, st.x, px⟩], consumed := f.consumed + 1, short := true, pLast := st.x }])) ∧
  (∀ (t c : Nat) (s : State), c < 4 → Answers (.camPacketError t c) s (fun s' => CountsUp (Par.at_ Par.camUPacketErr c) s s' ∧ s'.cams = s.cams)) ∧
  (∀ (t c : Nat) (ms : List Int) (f : CamFrame) (rest : List CamFrame) (s : State), c < 4 → s.cams.length = 4 → (s.cam c).closing = f :: rest →
    (s.cam c).stats.length < 1024 →
    Answers (.cameraFrameClose t c false ms () ()) s (fun s' => (s'.cam c).closing = rest ∧ (s'.cam c).stats = (s.cam c).stats ++ [f.stat c (f.set.pipeline c f.lines)]))

/-- CAM_LINK_DOWN of any port of a device that is up takes it down with LINK_DOWNS and EV060, and its control command in work ends with 0x0502. CAM_LINK_UP locks a connection; the last of a device brings it up at the lowest of the speeds with EV061, and an earlier one leaves it discovering (the model's choice, log entry 169). CAM_REG_ACCESS to a device that is UP queues one command and sends it when none is in work; to one that is down it draws 0x0502; a write that touches a connection-configuration bootstrap
register draws 0x0101. The acknowledgement is the FINAL reply, with the COUNT bytes of a read; 40 ms without one is 0x0502. CAM_STATUS and CAM_STATS_READ reply with their entries and change nothing. (spec/13_camera_pipeline.md) -/
def Obligations.CameraLinks : Prop :=
  (∀ (t c : Nat) (s : State), c < 4 → s.cams.length = 4 → (s.cam (s.camLeader c)).state = 3 → s.camLeader c < 4 →
    Answers (.camLinkDown t c) s (fun s' => (s'.cam (s.camLeader c)).state = 1 ∧ (s'.cam (s.camLeader c)).cmds = [] ∧ CountsUp (Par.at_ Par.camULinkDowns (s.camLeader c)) s s' ∧
      CountsUp (Par.evtCount000 + Ev.camLinkDown) s s' ∧
      (∀ q, (s.cam (s.camLeader c)).cmds = [q] → FinalSent q.cid St.unitFault (0x0D00 + s.camLeader c) (.bytes []) s s'))) ∧
  (∀ (t c : Nat) (s : State), c < 4 → s.cams.length = 4 → (s.cam (s.camLeader c)).state = 2 → s.camLeader c < 4 →
    Answers (.camLinkDown t c) s (fun s' => (s'.cam (s.camLeader c)).state = 1 ∧ s'.params = s.params)) ∧
  (∀ (t c v l : Nat) (s : State), c < 4 → s.cams.length = 4 → s.camLeader c = l → l < 4 → (s.cam l).state ≠ 0 → (s.cam l).state ≠ 3 → (∀ p ∈ s.camGroup l, p ≠ c → (s.cam p).lock.isSome) →
    Answers (.camLinkUp t c v) s (fun s' => (s'.cam l).state = 3 ∧ (s'.cam l).speed = ((s.camGroup l).map (fun p => if p = c then v else ((s.cam p).lock).getD 0)).foldl min (s.camPar Par.camUCxpSpeed l) ∧
      CountsUp (Par.evtCount000 + Ev.camLinkUp) s s')) ∧
  (∀ (t c v l p : Nat) (s : State), c < 4 → s.cams.length = 4 → s.camLeader c = l → l < 4 → (s.cam l).state ≠ 0 → (s.cam l).state ≠ 3 → p ∈ s.camGroup l → p ≠ c → (s.cam p).lock = none →
    Answers (.camLinkUp t c v) s (fun s' => (s'.cam l).state = 2 ∧ (s'.cam c).lock = some v ∧ s'.params = s.params)) ∧
  (∀ (t c v : Nat) (s : State), c < 4 → s.cams.length = 4 → s.camLeads c → s.camPar Par.camUAggregate c = 1 → (s.cam c).state ≠ 0 → (s.cam c).state ≠ 3 →
    Answers (.camLinkUp t c v) s (fun s' => (s'.cam c).state = 3 ∧ (s'.cam c).speed = min v (s.camPar Par.camUCxpSpeed c) ∧ s'.cond Ev.camLinkDown c = false ∧
      CountsUp (Par.evtCount000 + Ev.camLinkUp) s s')) ∧
  (∀ (t c code : Nat) (data : List Byte) (q : CamCmd) (rest : List CamCmd) (s : State), c < 4 → s.cams.length = 4 → s.holding 14 = false → (s.cam c).cmds = q :: rest → q.sentAt.isSome → q.write = false → data.length = q.count →
    Answers (.camControlAck t c code false data) s (fun s' => (s'.cam c).cmds.length = rest.length ∧ FinalSent q.cid St.ok 0 (.bytes (leBytes 1 code ++ [0, 0, 0] ++ data)) s s')) ∧
  (∀ (t c code : Nat) (data : List Byte) (q : CamCmd) (rest : List CamCmd) (s : State), c < 4 → s.cams.length = 4 → s.holding 14 = false → (s.cam c).cmds = q :: rest → q.sentAt.isSome → q.write = true →
    Answers (.camControlAck t c code false data) s (fun s' => (s'.cam c).cmds.length = rest.length ∧ FinalSent q.cid St.ok 0 (.bytes (leBytes 1 code ++ [0, 0, 0])) s s')) ∧
  (∀ (t c l : Nat) (q : CamCmd) (rest : List CamCmd) (s : State), c < 4 → s.cams.length = 4 → (s.cam c).cmds = q :: rest → q.sentAt = some l → l + 40000000 ≤ max s.now t →
    Answers (.camAckTimeout t c) s (fun s' => (s'.cam c).cmds.length = rest.length ∧ FinalSent q.cid St.unitFault (0x0D00 + c) (.bytes []) s s')) ∧
  (∀ (t c l : Nat) (q : CamCmd) (rest : List CamCmd) (s : State), (s.cam c).cmds = q :: rest → q.sentAt = some l → max s.now t < l + 40000000 → Answers (.camAckTimeout t c) s (fun s' => s'.cams = s.cams)) ∧
  (∀ (t : Nat) (h : Hdr) (c a n : Nat) (s : State), Taken 0x0D02 t h s → s.cams.length = 4 → s.camLeads c → a < 2 ^ 32 → 4 ≤ n → n ≤ 512 → n % 4 = 0 → mayChange (s.role h.session) .oper → s.owns h.session →
    (s.cam c).state = 3 → (s.cam c).cmds = [] → CamsOn s →
    Answers (.camRegRead t h (leBytes 1 c ++ [0, 0, 0] ++ leBytes 4 a ++ leBytes 2 n ++ [0, 0])) s (fun s' => (∃ cid, (s'.cam c).cmds = [⟨cid, false, a, n, [], some (max s.now t)⟩]) ∧
      Out.camera c 1 [0, a, n] ∈ s'.out)) ∧
  (∀ (t : Nat) (h : Hdr) (c a n : Nat) (s : State), Taken 0x0D02 t h s → s.cams.length = 4 → s.camLeads c → a < 2 ^ 32 → 4 ≤ n → n ≤ 512 → n % 4 = 0 → mayChange (s.role h.session) .oper → s.owns h.session →
    (s.cam c).state ≠ 3 →
    Answers (.camRegRead t h (leBytes 1 c ++ [0, 0, 0] ++ leBytes 4 a ++ leBytes 2 n ++ [0, 0])) s (fun s' => s'.rest = (s.taken t h).rest ∧ Replied h 0x0D02 St.unitFault (0x0D00 + c) (.bytes []) s')) ∧
  (∀ (t : Nat) (h : Hdr) (c a n : Nat) (d : List Byte) (s : State), Taken 0x0D02 t h s → s.cams.length = 4 → s.camLeads c → a < 2 ^ 32 → 4 ≤ n → n ≤ 512 → n % 4 = 0 → d.length = n →
    (∀ i < n, Config.bootstrapRegister (a + i) ≠ 1) → mayChange (s.role h.session) .oper → s.owns h.session → (s.cam c).state = 3 → (s.cam c).cmds = [] → CamsOn s →
    Answers (.camRegWrite t h (leBytes 1 c ++ [1, 0, 0] ++ leBytes 4 a ++ leBytes 2 n ++ [0, 0] ++ d)) s (fun s' => (∃ cid, (s'.cam c).cmds = [⟨cid, true, a, n, d, some (max s.now t)⟩]) ∧
      Out.camera c 1 ([1, a, n] ++ d.map BitVec.toNat) ∈ s'.out)) ∧
  (∀ (t : Nat) (h : Hdr) (c a n i : Nat) (d : List Byte) (s : State), Taken 0x0D02 t h s → s.camLeads c → a < 2 ^ 32 → 4 ≤ n → n ≤ 512 → n % 4 = 0 → d.length = n → i < n → Config.bootstrapRegister (a + i) = 1 →
    Answers (.camRegWrite t h (leBytes 1 c ++ [1, 0, 0] ++ leBytes 4 a ++ leBytes 2 n ++ [0, 0] ++ d)) s (fun s' => s'.rest = (s.taken t h).rest ∧ Replied h 0x0D02 St.valueRange 12 (.bytes []) s')) ∧
  (∀ (t : Nat) (h : Hdr) (s : State), Taken 0x0D01 t h s → learnRight (s.role h.session) .oper = .all →
    Answers (.camStatus t h []) s (fun s' => s'.rest = (s.taken t h).rest ∧ Replied h 0x0D01 St.ok 0 (.bytes ((List.range 4).flatMap (fun p =>
      leBytes 1 ((s.cam (s.camLeader p)).state + 4 * (if s.camLeader p ≠ p then 2 else if s.camPar Par.camUAggregate p = 1 then 0 else 1)) ++ leBytes 1 (s.cam (s.camLeader p)).speed ++ [0, 0] ++
      leBytes 4 (((s.cam (s.camLeader p)).closing.getLast?.map CamFrame.num).getD ((s.cam (s.camLeader p)).stats.getLast?.elim 0 FrameStat.num)) ++ leBytes 4 ((s.cam (s.camLeader p)).shadow.getD (s.cam (s.camLeader p)).cur).seq ++ [0, 0, 0, 0]))) s')) ∧
  (∀ (t : Nat) (h : Hdr) (p n first : Nat) (s : State), Taken 0x0D03 t h s → p < 4 → 1 ≤ n → n ≤ 64 → first < 2 ^ 32 → learnRight (s.role h.session) .inspStats = .all →
    Answers (.camStatsRead t h (leBytes 1 p ++ [0] ++ leBytes 2 n ++ leBytes 4 first)) s (fun s' => s'.rest = (s.taken t h).rest ∧ Replied h 0x0D03 St.ok 0
      (.bytes (leBytes 2 ((s.cam p).stats.filter (fun r => (r.num + 2 ^ 32 - first) % 2 ^ 32 < n)).length ++ [0, 0] ++
        ((s.cam p).stats.filter (fun r => (r.num + 2 ^ 32 - first) % 2 ^ 32 < n)).flatMap FrameStat.bytes)) s'))

/-- Defect analysis of a registered frame ends at nozzle health, and of an unregistered one records a class-6 defect when its class is enabled and the run is long enough, and ends the frame. Nozzle health with at most 3 frames waiting ends at alignment, and with more ends the frame; so does alignment, with at most 2. Edges found short of ALIGN_EDGES are kept for their band. An engine that fails takes no more
frames and raises EV065. Defect coverage below the alarm level for 10 s raises EV068. An alarm ends after 10 s with fewer defects. A frame is no longer held for a chart that finished 60 s ago. (spec/01_sound_and_islands.md, spec/14_inspection_loop.md) -/
def Obligations.InspectionAnalyses : Prop :=
  (∀ (t e : Nat) (i : Image) (s : State), s.working e = some i → i.stage = 0 → i.registered →
    Answers (.defectAnalysis t e) s (fun s' => (s'.image i.port i.num).map Image.stage = some 1 ∧ (s'.image i.port i.num).map Image.done = some true ∧ (s'.engine e).queue = (s.engine e).queue)) ∧
  (∀ (t e : Nat) (i : Image) (s : State), e < 8 → s.insp.engines.length = 8 → s.working e = some i → i.stage = 0 → i.registered = false → i.insp = s.frameNow → classEnable (s.classPar 6) → classReject (s.classPar 6) = false →
    classSize (s.classPar 6) ≤ i.run →
    Answers (.defectAnalysis t e) s (fun s' => (∃ d, s'.insp.defects.head? = some d ∧ d.num = s.insp.nextDefect ∧ d.cls = 6 ∧ d.view = i.port ∧ d.lines = i.lines.length) ∧
      CountsUp Par.inspDefects s s' ∧ (s'.engine e).queue = (s.engine e).queue.drop 1)) ∧
  (∀ (t e : Nat) (i : Image) (s : State), s.working e = some i → i.stage = 1 → (s.engine e).queue.length ≤ 4 →
    Answers (.nozzleHealthAnalysis t e) s (fun s' => (s'.image i.port i.num).map Image.stage = some 2 ∧ (s'.engine e).queue = (s.engine e).queue)) ∧
  (∀ (t e : Nat) (i : Image) (s : State), e < 8 → s.insp.engines.length = 8 → s.working e = some i → i.stage = 1 → 4 < (s.engine e).queue.length →
    Answers (.nozzleHealthAnalysis t e) s (fun s' => (s'.engine e).queue = (s.engine e).queue.drop 1 ∧ s'.comp = s.comp ∧ (i.done → CountsUp Par.inspFramesAnalysed s s'))) ∧
  (∀ (t e : Nat) (i : Image) (s : State), e < 8 → s.insp.engines.length = 8 → s.working e = some i → i.stage = 2 → (s.engine e).queue.length ≤ 3 →
    Answers (.alignmentAnalysis t e ()) s (fun s' => (s'.engine e).queue = (s.engine e).queue.drop 1 ∧ (i.done → CountsUp Par.inspFramesAnalysed s s'))) ∧
  (∀ (t e b : Nat) (p : Nat × Nat) (i : Image) (s : State), e < 8 → s.insp.engines.length = 8 → s.working e = some i → i.stage = 2 → (s.engine e).queue.length ≤ 3 → i.insp = s.frameNow → s.insp.bands = [] →
    s.viewPlanes i.port = [p] → s.wholeBands i = [b] → (s.edgeLines p.1 b (s.analysed i)).length < s.par Par.inspAlignEdges →
    Answers (.alignmentAnalysis t e ()) s (fun s' => (∃ sum nz, s'.insp.bands = [⟨p.1, b, (s.edgeLines p.1 b (s.analysed i)).length, sum, nz⟩]) ∧ s'.comp = s.comp)) ∧
  (∀ (t e : Nat) (i : Image) (s : State), e < 8 → s.insp.engines.length = 8 → s.working e = some i → i.stage = 2 → 3 < (s.engine e).queue.length →
    Answers (.alignmentAnalysis t e ()) s (fun s' => (s'.engine e).queue = (s.engine e).queue.drop 1 ∧ s'.insp.bands = s.insp.bands ∧ s'.comp = s.comp)) ∧
  (∀ (t e : Nat) (s : State), e < 8 → s.insp.engines.length = 8 → (s.engine e).out = false →
    Answers (.inspEngineFail t e) s (fun s' => (s'.engine e).out ∧ (s'.engine e).queue = [] ∧ CountsUp (Par.evtCount000 + Ev.inspEngineOut) s s')) ∧
  (∀ (t l : Nat) (s : State), (∃ c ∈ s.insp.cover, max s.now t < c.t + 60000000000) → (s.at_ t).coverage none 60000000000 0 < s.par Par.inspCoverAlarm → s.insp.coverLow = some l → l + 10000000000 ≤ max s.now t →
    s.cond Ev.coverageLow 0 = false →
    Answers (.coverageLow t) s (fun s' => s'.cond Ev.coverageLow 0 ∧ CountsUp (Par.evtCount000 + Ev.coverageLow) s s')) ∧
  (∀ (t l : Nat) (s : State), (∃ c ∈ s.insp.cover, max s.now t < c.t + 60000000000) → (s.at_ t).coverage none 60000000000 0 < s.par Par.inspCoverAlarm → s.insp.coverLow = some l → max s.now t < l + 10000000000 →
    Answers (.coverageLow t) s (fun s' => s'.par (Par.evtCount000 + Ev.coverageLow) = s.par (Par.evtCount000 + Ev.coverageLow) ∧ s'.insp.coverLow = some l)) ∧
  (∀ (t k : Nat) (s : State), 1 ≤ k → k ≤ 6 → s.insp.alarms.length = 6 → (nth s.insp.alarms ⟨false, [], 0⟩ (k - 1)).on → (nth s.insp.alarms ⟨false, [], 0⟩ (k - 1)).high + 10000000000 ≤ max s.now t →
    Answers (.defectAlarmClear t k) s (fun s' => (nth s'.insp.alarms ⟨false, [], 0⟩ (k - 1)).on = false ∧ s'.cond Ev.defectAlarm k = false)) ∧
  (∀ (t k : Nat) (s : State), max s.now t < (nth s.insp.alarms ⟨false, [], 0⟩ (k - 1)).high + 10000000000 → Answers (.defectAlarmClear t k) s (fun s' => s'.insp = s.insp)) ∧
  (∀ (t p f : Nat) (s : State), Answers (.frameBufferHoldExpiry t p f) s (fun s' => ∀ i ∈ s'.insp.images, i.port = p → i.num = f → ∀ h ∈ i.charts,
      (s.seg h).isSome ∨ ∃ r ∈ s.spool.records, r.seg.handle = h ∧ (s.at_ t).ring < r.seg.tLast + 60000000000))

/-- INSP_STATS_READ of KIND 0 replies to any role that may learn a summary with one bit per class in alarm; of KIND 2 with the defect records asked for, newest first, and an Observer draws 0x0304. INSP_COVERAGE_READ replies with nine entries. INSP_IMAGE_REQUEST for a job whose key the session does not hold draws 0x0307; where no line is held, every line is marked 2 and every sample is 0. INSP_CHART_MEASURE of a
finished chart replies PENDING and waits; of one that has not finished draws 0x0202, of none 0x010D. CHART_MEASURE_DONE keeps the measurement, at most 16, and ends the command; without a held and registered frame of its views, every present slot is unmeasured. A measurement goes 600 s after its FINAL. (spec/14_inspection_loop.md) -/
def Obligations.InspectionReads : Prop :=
  (∀ (t : Nat) (h : Hdr) (n first : Nat) (s : State), Taken 0x0E01 t h s → n < 2 ^ 16 → first < 2 ^ 32 → learnRight (s.role h.session) .inspStats ≠ .none →
    Answers (.inspStatsRead t h ([0, 0xFF] ++ leBytes 2 n ++ leBytes 4 first)) s (fun s' => s'.rest = (s.taken t h).rest ∧ Replied h 0x0E01 St.ok 0
      (.bytes (leBytes 4 (((List.range 6).map (fun k => bit (nth s.insp.alarms ⟨false, [], 0⟩ k).on (k + 1))).sum))) s')) ∧
  (∀ (t : Nat) (h : Hdr) (n first : Nat) (s : State), Taken 0x0E01 t h s → 1 ≤ n → n ≤ 256 → first < 2 ^ 32 → learnRight (s.role h.session) .inspStats = .all →
    Answers (.inspStatsRead t h ([2, 0xFF] ++ leBytes 2 n ++ leBytes 4 first)) s (fun s' => s'.rest = (s.taken t h).rest ∧ Replied h 0x0E01 St.ok 0
      (.bytes (((s.insp.defects.drop first).take n).flatMap Defect.bytes)) s')) ∧
  (∀ (t : Nat) (h : Hdr) (k n first : Nat) (s : State), Taken 0x0E01 t h s → k = 1 ∨ k = 2 → 1 ≤ n → n ≤ 256 → first < 2 ^ 32 → learnRight (s.role h.session) .inspStats = .summary →
    Answers (.inspStatsRead t h (leBytes 1 k ++ [0xFF] ++ leBytes 2 n ++ leBytes 4 first)) s (fun s' => s'.rest = (s.taken t h).rest ∧ Replied h 0x0E01 St.classForbidden 0 (.bytes []) s')) ∧
  (∀ (t : Nat) (h : Hdr) (s : State), Taken 0x0E03 t h s → learnRight (s.role h.session) .inspStats ≠ .none →
    Answers (.inspCoverageRead t h []) s (fun s' => s'.rest = (s.taken t h).rest ∧ Replied h 0x0E03 St.ok 0 (.bytes (((List.range 9).flatMap (fun e =>
      leBytes 1 (if e < 8 ∧ (s.engine e).out then 0 else 1) ++ [0] ++ [1000000000, 60000000000].flatMap (fun w => [0, 1, 2].flatMap (fun k =>
        leBytes 2 ((s.taken t h).coverage (if e < 8 then some e else none) w k))) ++ [0, 0])))) s')) ∧
  (∀ (t : Nat) (h : Hdr) (job d st first n px pn : Nat) (s : State), Taken 0x0E02 t h s → 1 ≤ job → job < 2 ^ 64 → d < 4 → 1 ≤ st → st ≤ 15 → first < 2 ^ 64 → 1 ≤ n → n ≤ 256 → px < s.camPar Par.camUWidth d → px < 2 ^ 16 → 1 ≤ pn →
    pn ≤ 16384 → px + (pn - 1) * st + 1 ≤ s.camPar Par.camUWidth d → learnRight (s.role h.session) .images = .key → s.holdsKey h.session job = false →
    Answers (.inspImageRequest t h (leBytes 8 job ++ leBytes 1 (d + 4) ++ [1] ++ leBytes 1 st ++ [0] ++ leBytes 8 first ++ leBytes 2 n ++ leBytes 2 px ++ leBytes 2 pn ++ [0, 0])) s (fun s' =>
      s'.rest = (s.taken t h).rest ∧ Replied h 0x0E02 St.noJobKey 0 (.bytes []) s')) ∧
  (∀ (t : Nat) (h : Hdr) (job d st first n px pn : Nat) (k : JobKey) (s : State), Taken 0x0E02 t h s → 1 ≤ job → job < 2 ^ 64 → d < 4 → 1 ≤ st → st ≤ 15 → first < 2 ^ 64 → 1 ≤ n → n ≤ 256 → px < s.camPar Par.camUWidth d → px < 2 ^ 16 → 1 ≤ pn →
    pn ≤ 16384 → px + (pn - 1) * st + 1 ≤ s.camPar Par.camUWidth d → learnRight (s.role h.session) .images = .key → s.holdsKey h.session job → s.noRandom = false → n * pn ≤ 8968 →
    s.shell.keys.find? (fun k => k.job == job) = some k → (∀ v ∈ s.insp.viewed, v.view = d → v.x < signed 64 first * 65536) → (∀ i ∈ s.insp.images, i.port = d → ∀ l ∈ i.lines, l.x < signed 64 first * 65536) →
    Answers (.inspImageRequest t h (leBytes 8 job ++ leBytes 1 (d + 4) ++ [1] ++ leBytes 1 st ++ [0] ++ leBytes 8 first ++ leBytes 2 n ++ leBytes 2 px ++ leBytes 2 pn ++ [0, 0])) s (fun s' =>
      Replied h 0x0E02 St.ok 0 (.bytes (randomBytes s.draws 32 ++ sealImage k.key (randomBytes s.draws 32) (emptyImage st first n pn))) s')) ∧
  (∀ (t : Nat) (h : Hdr) (c v : Nat) (g : Seg) (s : State), Taken 0x0E04 t h s → c < 2 ^ 64 → 1 ≤ v → v < 16 → s.seg c = none → s.chartRecord c = some g → mayChange (s.role h.session) .inspStats → s.owns h.session →
    Answers (.inspChartMeasure t h (leBytes 8 c ++ leBytes 1 v ++ [0, 0, 0])) s (fun s' => (∃ cid, s'.insp.runs = s.insp.runs ++ [⟨cid, c, v⟩]) ∧ PendingSent h 0x0E04 s')) ∧
  (∀ (t : Nat) (h : Hdr) (c v : Nat) (g : Seg) (s : State), Taken 0x0E04 t h s → c < 2 ^ 64 → 1 ≤ v → v < 16 → s.seg c = some g → g.chart.isSome → mayChange (s.role h.session) .inspStats → s.owns h.session →
    Answers (.inspChartMeasure t h (leBytes 8 c ++ leBytes 1 v ++ [0, 0, 0])) s (fun s' => s'.rest = (s.taken t h).rest ∧ Replied h 0x0E04 St.segmentState g.state (.bytes []) s')) ∧
  (∀ (t : Nat) (h : Hdr) (c v : Nat) (s : State), Taken 0x0E04 t h s → c < 2 ^ 64 → 1 ≤ v → v < 16 → s.seg c = none → s.chartRecord c = none →
    Answers (.inspChartMeasure t h (leBytes 8 c ++ leBytes 1 v ++ [0, 0, 0])) s (fun s' => s'.rest = (s.taken t h).rest ∧ Replied h 0x0E04 St.unknownHandle 0 (.bytes []) s')) ∧
  (∀ (t c : Nat) (r : MeasureRun) (g : Seg) (s : State), s.insp.runs.find? (fun r => r.chart == c) = some r → s.chartRecord c = some g →
    Answers (.chartMeasureDone t c ()) s (fun s' => (∃ m, s'.insp.measures.getLast? = some m ∧ m.handle = (Config.measureHandle s.insp.nextMeasure).toNat ∧ m.kind = g.chart.elim 0 Prod.fst ∧ m.heads = g.heads) ∧
      s'.insp.measures.length ≤ 16 ∧ CountsUp Par.inspMeasurements s s' ∧ s'.insp.runs = s.insp.runs.filter (fun x => x.cid != r.cid))) ∧
  (∀ (t c : Nat) (r : MeasureRun) (g : Seg) (s : State), s.insp.runs.find? (fun r => r.chart == c) = some r → s.chartRecord c = some g →
    (∀ i ∈ s.insp.images, i.registered → c ∈ i.charts → bitAt r.views i.port = false) →
    Answers (.chartMeasureDone t c ()) s (fun s' => (∃ m, s'.insp.measures.getLast? = some m ∧ m.slots = []) ∧ CountsUp Par.inspMeasurements s s' ∧ s'.insp.runs = s.insp.runs.filter (fun x => x.cid != r.cid) ∧
      FinalSent r.cid St.ok 0 (.bytes (leBytes 8 (Config.measureHandle s.insp.nextMeasure).toNat ++ leBytes 1 (g.chart.elim 0 Prod.fst) ++ [0, 0, 0] ++ leBytes 2 g.heads ++ [0, 0] ++
        g.headList.flatMap (fun k => [0, 0] ++ leBytes 2 ((List.range (s.slots k)).filter (fun x => s.slotState k x != 5)).length))) s s')) ∧
  (∀ (t n : Nat) (s : State), Answers (.measurementExpiry t n) s (fun s' => s'.insp.measures = s.insp.measures.filter (fun m => !(m.handle == n && decide (m.t + 600000000000 ≤ max s.now t)))))

/-- TIME_SEND leaves TIME on its lane with the ring time and DIST once 10 µs have passed since the latest. TIME at the time master moves no ring time; at another member the first one from the source steps ring time to the neighbour, and later ones never lower ring time and move it by at most 1 ns, at most once in 20 µs (the step that the model chose for the slew of R368; assumption log). Ring time is valid again within 8 ns. A silent source gives way to the best eligible lane, else to holdover with
DIST 0x7FF; a lane 2 hops better for 100 ms takes over. Holdover that lasts TIME_HOLDOVER loses ring time with EV070, and with it a position taken from the ring. (spec/15_causeway.md) -/
def Obligations.RingTimeActs : Prop :=
  (∀ (t lane : Nat) (s : State), eastA ≤ lane → lane ≤ westB → s.laneIsUp lane → s.par Par.causeGeneration ≠ 0 → s.holding 12 = false → (s.at_ t).sendDue (64 + lane) 10000 →
    Answers (.timeSend t lane) s (fun s' => s'.cause.ctr = s.cause.ctr + 1 ∧
      SentRing [lane] (s.par Par.causeGeneration) 1 0x7FF (leBytes 8 (s.at_ t).ring ++ leBytes 2 (s.par Par.causeTimeDist) ++ [0, 0]) s s')) ∧
  (∀ (t rx i : Nat) (f : CFrame) (s : State), RingTaken t 1 f s → i < 4 → f.lane = eastA + i → s.laneIsUp f.lane → s.address = 0 → s.cause.time.length = 4 →
    Answers (.time t f rx) s (fun s' => s'.offset = s.offset ∧ (s'.timeLane i).dist = cfAt f 28 2 % 2048 ∧ s'.par Par.causeTimeSource = s.par Par.causeTimeSource)) ∧
  (∀ (t rx i : Nat) (f : CFrame) (s : State), RingTaken t 1 f s → i < 4 → f.lane = eastA + i → s.laneIsUp f.lane → s.address ≠ 0 → s.cause.time.length = 4 → s.par Par.causeTimeSource = i →
    s.cause.stepped = false → cfAt f 28 2 % 2048 ≠ 0x7FF →
    Answers (.time t f rx) s (fun s' => s'.cause.stepped ∧ s'.cause.timeLost = (s.cause.timeLost && decide (8 < ((cfAt f 20 8 : Int) + s.par (Par.at_ Par.laneULatency f.lane) - (rx + s.offset)).natAbs)) ∧
      s'.offset = s.offset + ((cfAt f 20 8 : Int) + s.par (Par.at_ Par.laneULatency f.lane) - (rx + s.offset)) ∧
      s'.par Par.causeTimeDist = if s'.cause.timeLost then 0x7FF else cfAt f 28 2 % 2048 + 1)) ∧
  (∀ (t rx : Nat) (f : CFrame) (s : State), s.cause.stepped → Answers (.time t f rx) s (fun s' => s.ring ≤ s'.ring ∧ (s'.offset - s.offset).natAbs ≤ 1 ∧
      (max s.now t < s.cause.slewAt + 20000 → s'.offset = s.offset))) ∧
  (∀ (t src i : Nat) (s : State), s.par Par.causeTimeSource = src → src < 4 → (s.at_ t).carriesTime src = false → (s.at_ t).bestTime = some i →
    Answers (.timeSourceSilence t) s (fun s' => s'.par Par.causeTimeSource = i ∧ CountsUp Par.causeTimeSwitches s s' ∧ s'.cause.holdover = none ∧ s'.offset = s.offset)) ∧
  (∀ (t src : Nat) (s : State), s.par Par.causeTimeSource = src → src < 4 → (s.at_ t).carriesTime src = false → (s.at_ t).bestTime = none →
    Answers (.timeSourceSilence t) s (fun s' => s'.par Par.causeTimeSource = 5 ∧ s'.par Par.causeTimeDist = 0x7FF ∧ s'.cause.holdover = some (max s.now t) ∧ s'.offset = s.offset)) ∧
  (∀ (t src i b : Nat) (s : State), s.par Par.causeTimeSource = src → src < 4 → i < 4 → src ≠ i → (s.timeLane i).better = some b → b + 100000000 ≤ max s.now t → (s.at_ t).eligible i →
    (s.timeLane i).dist + 2 ≤ (s.timeLane src).dist →
    Answers (.timeSourceBetter t (eastA + i)) s (fun s' => s'.par Par.causeTimeSource = i ∧ CountsUp Par.causeTimeSwitches s s' ∧ s'.offset = s.offset)) ∧
  (∀ (t i b : Nat) (s : State), i < 4 → (s.timeLane i).better = some b → max s.now t < b + 100000000 →
    Answers (.timeSourceBetter t (eastA + i)) s (fun s' => s'.params = s.params)) ∧
  (∀ (t h : Nat) (s : State), s.cause.holdover = some h → h + 1000 * s.par Par.causeTimeHoldover ≤ max s.now t → s.cause.timeLost = false → s.ownPos →
    Answers (.holdoverExpiry t) s (fun s' => s'.cause.timeLost ∧ s'.par Par.causeTimeSource = 6 ∧ CountsUp (Par.evtCount000 + Ev.ringTimeLost) s s' ∧ s'.pos = s.pos)) ∧
  (∀ (t h : Nat) (s : State), s.cause.holdover = some h → h + 1000 * s.par Par.causeTimeHoldover ≤ max s.now t → s.cause.timeLost = false → s.ownPos = false → s.pos.lost = none →
    Answers (.holdoverExpiry t) s (fun s' => s'.cause.timeLost ∧ s'.par Par.causeTimeSource = 6 ∧ s'.pos.lost = some 0xA ∧ CountsUp Par.causePosTimeouts s s'))

/-- CAUSE_ENUMERATE by the owner, start-up with ENUMERATOR 1, and the time master 100 ms after the first JOIN each start a run and send DISCOVER on both rings; a second CAUSE_ENUMERATE during a run waits for its outcome (the model's choice, log entry 168). DISCOVER is answered with hop counts, address and BUSY; the own one on ring A closes the ring; of two enumerators the one with the higher ID stops (EV076). Answers are collected for 2 ms; then every member
gets a key record with the next generation, or the run fails: 0x0202 with the busy member's address, 0x0502 DETAIL 0x0F00, or 0x0504 where nothing random can be drawn. A whole KEY record that decrypts and verifies waits for T_INSTALL, and one that decrypts and does not verify takes this member out of the ring with EV072; when the address, the member count and the generation come into force with EV074, and the old generation stays accepted for 1 ms. (spec/15_causeway.md) -/
def Obligations.RingEnumeration : Prop :=
  (∀ (t : Nat) (h : Hdr) (s : State), Taken 0x0F02 t h s → mayChange (s.role h.session) .causeway → s.owns h.session → s.cause.run = none → s.noRandom = false → s.holding 12 = false →
    Answers (.causeEnumerate t h []) s (fun s' => PendingSent h 0x0F02 s' ∧ ∃ r, s'.cause.run = some r ∧ r.startAt = max s.now t ∧ r.replies = [] ∧ r.ringA = false ∧ r.cids ≠ [] ∧ s'.address = s.address ∧
      SentRing [eastA, westB] 0 8 0x7FF (leBytes 4 r.run) s s')) ∧
  (∀ (t : Nat) (h : Hdr) (r : EnumRun) (s : State), Taken 0x0F02 t h s → mayChange (s.role h.session) .causeway → s.owns h.session → s.cause.run = some r →
    Answers (.causeEnumerate t h []) s (fun s' => PendingSent h 0x0F02 s' ∧ ∃ cid, s'.cause.run = some { r with cids := r.cids ++ [cid] })) ∧
  (∀ (t : Nat) (h : Hdr) (s : State), Taken 0x0F02 t h s → mayChange (s.role h.session) .causeway = false →
    Answers (.causeEnumerate t h []) s (fun s' => s'.rest = (s.taken t h).rest ∧ Replied h 0x0F02 St.classForbidden 0 (.bytes []) s')) ∧
  (∀ (t : Nat) (s : State), s.par Par.causeEnumerator = 1 → s.cause.startEnum = false → s.cause.run = none → s.noRandom = false → s.holding 12 = false →
    ([eastA, eastB, westA, westB].all s.laneIsUp ∨ 1000000 * s.par Par.causeEnumWait ≤ max s.now t) →
    Answers (.startupEnumerate t) s (fun s' => s'.cause.startEnum ∧ ∃ r, s'.cause.run = some r ∧ r.cids = [] ∧ SentRing [eastA, westB] 0 8 0x7FF (leBytes 4 r.run) s s')) ∧
  (∀ (t : Nat) (f : CFrame) (s : State), RingTaken t 0x0B f s → s.address = 0 → s.cause.join = none → Answers (.join t f) s (fun s' => s'.cause.join = some (max s.now t))) ∧
  (∀ (t : Nat) (f : CFrame) (s : State), RingTaken t 0x0B f s → s.address ≠ 0 → Answers (.join t f) s (fun s' => s'.cause.join = s.cause.join)) ∧
  (∀ (t : Nat) (s : State), s.address = 0x7FF → s.cause.beacon → s.holding 12 = false → (s.at_ t).sendDue 0x0B 10000000 → Answers (.joinSend t) s (fun s' => SentRing [eastA, westB] 0 0x0B 0x7FF (leBytes 16 ownIdent) s s')) ∧
  (∀ (t j : Nat) (s : State), s.cause.join = some j → j + 100000000 ≤ max s.now t → s.cause.run = none → s.noRandom = false → s.holding 12 = false →
    Answers (.reenumerate t) s (fun s' => s'.cause.join = none ∧ ∃ r, s'.cause.run = some r ∧ r.cids = [] ∧ SentRing [eastA, westB] 0 8 0x7FF (leBytes 4 r.run) s s')) ∧
  (∀ (t j : Nat) (s : State), s.cause.join = some j → max s.now t < j + 100000000 → Answers (.reenumerate t) s (fun s' => s'.cause = s.cause)) ∧
  (∀ (t : Nat) (lower : Bool) (f : CFrame) (s : State), RingTaken t 8 f s → s.cause.run = none → s.cause.heard = none → f.lane = westA →
    Answers (.discover t f lower) s (fun s' => s'.cause.heard = some (cfAt f 20 4, cfHops f, 0x7FF) ∧ SentRing [eastA, westB] 0 9 (cfSrc f) (leBytes 4 (cfAt f 20 4) ++ leBytes 16 ownIdent ++ leBytes 2 (cfHops f) ++
      leBytes 2 0x7FF ++ leBytes 2 s.address ++ leBytes 1 (bit (s.enumBusy (cfHops f) 0x7FF) 0) ++ [0]) s s')) ∧
  (∀ (t : Nat) (lower : Bool) (f : CFrame) (r : EnumRun) (s : State), cfType f = 8 → s.holding 12 = false → (s.at_ t).checkFrame f = .ok → s.cause.run = some r → r.run = cfAt f 20 4 → f.lane = westA →
    Answers (.discover t f lower) s (fun s' => s'.cause.run = some { r with ringA := true } ∧ s'.out = [])) ∧
  (∀ (t : Nat) (f : CFrame) (r : EnumRun) (s : State), RingTaken t 8 f s → s.cause.run = some r → r.run ≠ cfAt f 20 4 → s.cause.wait = none →
    Answers (.discover t f true) s (fun s' => s'.cause.run = none ∧ CountsUp (Par.evtCount000 + Ev.causeEnumFailed) s s' ∧ s'.address = s.address ∧ s'.par Par.causeGeneration = s.par Par.causeGeneration)) ∧
  (∀ (t : Nat) (f : CFrame) (r : EnumRun) (s : State), RingTaken t 8 f s → s.cause.run = some r → r.run ≠ cfAt f 20 4 → s.cause.wait = none →
    Answers (.discover t f false) s (fun s' => s'.cause.run = some r)) ∧
  (∀ (t : Nat) (f : CFrame) (r : EnumRun) (s : State), RingTaken t 9 f s → s.cause.run = some r → cfAt f 20 4 = r.run → s.cause.wait = none →
    Answers (.discoverReply t f) s (fun s' => s'.cause.run = some { r with replies := r.replies.filter (fun x => x.ident != cfAt f 24 16) ++
      [⟨cfAt f 24 16, cfAt f 40 2 % 2048, cfAt f 42 2 % 2048, cfAt f 44 2 % 2048, bitAt (cfAt f 46 1) 0⟩] })) ∧
  (∀ (t : Nat) (r : EnumRun) (s : State), s.cause.run = some r → r.startAt + 2000000 ≤ max s.now t → s.cause.wait = none → s.noRandom = false → r.replies.length + 1 ≤ 1024 → r.replies.all (fun e => !e.busy) →
    (r.replies.filterMap (EnumReply.place r.ringA (r.replies.length + 1))).length = r.replies.length → (r.replies.filterMap (EnumReply.place r.ringA (r.replies.length + 1))).Nodup →
    Answers (.enumCollectEnd t) s (fun s' => ∃ w, s'.cause.wait = some w ∧ w.addr = 0 ∧ w.members = r.replies.length + 1 ∧ w.gen = (if s.par Par.causeGeneration = 255 then 1 else s.par Par.causeGeneration + 1) ∧
      w.install = (s.at_ t).ring + 10000000 ∧ s'.address = s.address ∧ s'.par Par.causeGeneration = s.par Par.causeGeneration)) ∧
  (∀ (t : Nat) (r : EnumRun) (s : State), s.cause.run = some r → max s.now t < r.startAt + 2000000 → Answers (.enumCollectEnd t) s (fun s' => s'.cause = s.cause)) ∧
  (∀ (t : Nat) (e : EnumReply) (r : EnumRun) (s : State), s.cause.run = some r → r.startAt + 2000000 ≤ max s.now t → s.cause.wait = none → s.noRandom = false → r.replies.length + 1 ≤ 1024 → r.replies.find? EnumReply.busy = some e →
    Answers (.enumCollectEnd t) s (fun s' => s'.cause.run = none ∧ s'.cause.wait = none ∧ s'.address = s.address ∧ CountsUp (Par.evtCount000 + Ev.causeEnumFailed) s s' ∧ (∀ c ∈ r.cids, FinalSent c St.segmentState e.old (.bytes []) s s'))) ∧
  (∀ (t : Nat) (r : EnumRun) (s : State), s.cause.run = some r → r.startAt + 2000000 ≤ max s.now t → s.cause.wait = none → s.noRandom →
    Answers (.enumCollectEnd t) s (fun s' => s'.cause.run = none ∧ s'.cause.wait = none ∧ s'.address = s.address ∧ (∀ c ∈ r.cids, FinalSent c St.shellFault 0 (.bytes []) s s'))) ∧
  (∀ (t : Nat) (r : EnumRun) (s : State), s.cause.run = some r → r.startAt + 2000000 ≤ max s.now t → s.cause.wait = none → s.noRandom = false → r.replies.all (fun e => !e.busy) →
    (r.replies.filterMap (EnumReply.place r.ringA (r.replies.length + 1))).length < r.replies.length ∨ ¬ (r.replies.filterMap (EnumReply.place r.ringA (r.replies.length + 1))).Nodup →
    Answers (.enumCollectEnd t) s (fun s' => s'.cause.run = none ∧ s'.cause.wait = none ∧ s'.address = s.address ∧ CountsUp (Par.evtCount000 + Ev.causeEnumFailed) s s' ∧ (∀ c ∈ r.cids, FinalSent c St.unitFault 0x0F00 (.bytes []) s s'))) ∧
  (∀ (t : Nat) (d k pub : List Byte) (f : CFrame) (s : State), KeyTaken t f s → KeyWhole f d s → recordKey d s = some k → RecordSigned pub d s →
    Answers (.key t f true pub ()) s (fun s' => s'.cause.wait = some ⟨leAt d 0 2, leAt d 2 2, leAt d 4 1, leAt d 8 8, beNat k⟩ ∧ s'.address = s.address ∧ s'.cause.key = s.cause.key)) ∧
  (∀ (t : Nat) (d k pub : List Byte) (device : Bool) (f : CFrame) (s : State), KeyTaken t f s → KeyWhole f d s → recordKey d s = some k → device = false ∨ RecordSigned pub d s = false →
    lookup (Ev.causeAuthFail, 0) s.evt.last = none →
    Answers (.key t f device pub ()) s (fun s' => s'.cause.wait = none ∧ s'.address = 0x7FF ∧ s'.par Par.causeGeneration = 0 ∧ CountsUp (Par.evtCount000 + Ev.causeAuthFail) s s')) ∧
  (∀ (t : Nat) (d pub : List Byte) (device : Bool) (f : CFrame) (s : State), KeyTaken t f s → KeyWhole f d s → recordKey d s = none → cfDst f = 0x7FF →
    Answers (.key t f device pub ()) s (fun s' => s'.cause.wait = s.cause.wait ∧ s'.address = s.address)) ∧
  (∀ (t j : Nat) (pub : List Byte) (device : Bool) (f : CFrame) (s : State), KeyTaken t f s → j < cfAt f 25 1 % 64 → (∀ e ∈ keyFrags f s, e.1 ≠ j) →
    Answers (.key t f device pub ()) s (fun s' => s'.cause.frags = keyFrags f s ∧ s'.cause.wait = s.cause.wait ∧ s'.address = s.address)) ∧
  (∀ (t : Nat) (w : KeyWait) (s : State), s.cause.wait = some w → w.install ≤ (s.at_ t).ring →
    Answers (.keyInstall t) s (fun s' => s'.address = w.addr ∧ s'.par Par.causeMembers = w.members ∧ s'.par Par.causeGeneration = w.gen ∧ s'.cause.key = w.key ∧ s'.cause.wait = none ∧ s'.cause.run = none ∧
      s'.cause.oldGen = (if s.par Par.causeGeneration = 0 then none else some ⟨s.par Par.causeGeneration, s.cause.key, w.install + 1000000⟩) ∧ CountsUp Par.causeEnumerations s s' ∧ CountsUp (Par.evtCount000 + Ev.causeEnumerated) s s' ∧
      ∀ r, s.cause.run = some r → ∀ c ∈ r.cids, FinalSent c St.ok w.members (.bytes []) s s')) ∧
  (∀ (t : Nat) (w : KeyWait) (s : State), s.cause.wait = some w → (s.at_ t).ring < w.install → Answers (.keyInstall t) s (fun s' => s'.cause = s.cause ∧ s'.params = s.params)) ∧
  (∀ (t g key stop : Nat) (s : State), s.cause.oldGen = some ⟨g, key, stop⟩ → stop ≤ (s.at_ t).ring →
    Answers (.oldGenerationWindowEnd t) s (fun s' => s'.cause.oldGen = none ∧ ∀ f : CFrame, cfGen f = g → g ≠ 0 → g ≠ s.par Par.causeGeneration → s'.checkFrame f = .bad)) ∧
  (∀ (t g key stop : Nat) (s : State), s.cause.oldGen = some ⟨g, key, stop⟩ → (s.at_ t).ring < stop → Answers (.oldGenerationWindowEnd t) s (fun s' => s'.cause = s.cause))

/-- BEACON_SEND, POSITION_SEND and EVENT_SUMMARY_SEND leave their frames on both rings. A BEACON notes that its member was heard; the own one closes its ring (EV073), which is open (EV071) when it stays away for PATH_TIMEOUT; a member heard on neither ring is lost (EV075). A POSITION frame from the source with a later T_K sets the position, its count sample and LINE_RATE, and one with LOST set loses position; one that is not later changes
nothing. Without one for POS_TIMEOUT position is lost with cause 0x0A. Frames of a period leave once it has passed since the latest. A summary is logged, and one of an event that is not listed is ignored. CAUSE_STATUS replies with the ring's status, CAUSE_MEMBER_LIST with one entry per address, to an Observer with 0x0304. (spec/15_causeway.md, spec/18_events_and_trouble_log.md) -/
def Obligations.RingMembers : Prop :=
  (∀ (t : Nat) (s : State), s.address ≠ 0x7FF → s.holding 12 = false → (s.at_ t).sendDue 2 100000 → Answers (.beaconSend t) s (fun s' => SentRing [eastA, westB] (s.par Par.causeGeneration) 2 0x7FF (leBytes 2 (s.par Par.causePosSource) ++
      leBytes 1 (bit (s.address == 0) 0 + bit (!s.cause.timeLost) 1 + bit s.pos.lost.isNone 2) ++ [0]) s s')) ∧
  (∀ (t : Nat) (f : CFrame) (s : State), RingTaken t 2 f s → s.address ≠ 0x7FF → onRingA f →
    Answers (.beacon t f) s (fun s' => ∃ m, s'.member (cfSrc f) = some m ∧ m.heardA = some (max s.now t) ∧ m.hopsA = cfHops f ∧ m.source = cfAt f 20 2 % 2048 ∧ m.lost = false)) ∧
  (∀ (t : Nat) (f : CFrame) (s : State), RingTaken t 2 f s → s.address ≠ 0x7FF → onRingA f = false →
    Answers (.beacon t f) s (fun s' => ∃ m, s'.member (cfSrc f) = some m ∧ m.heardB = some (max s.now t) ∧ m.hopsB = cfHops f ∧ m.source = cfAt f 20 2 % 2048 ∧ m.lost = false)) ∧
  (∀ (t : Nat) (f : CFrame) (s : State), cfType f = 2 → s.holding 12 = false → (s.at_ t).checkFrame f = .ok → cfSrc f = s.address → s.address ≠ 0x7FF → f.lane = westA → s.cause.openA →
    Answers (.beacon t f) s (fun s' => s'.cause.openA = false ∧ s'.cause.backA = (s.at_ t).ring ∧ CountsUp (Par.evtCount000 + Ev.ringClosed) s s' ∧ s'.cond Ev.ringOpen 0 = false)) ∧
  (∀ (t : Nat) (f : CFrame) (s : State), cfType f = 2 → s.holding 12 = false → s.address = 0x7FF → Answers (.beacon t f) s (fun s' => s'.cause.beacon)) ∧
  (∀ (t : Nat) (s : State), s.address ≠ 0x7FF → s.cause.openA = false → s.cause.backA + 1000000 * s.par Par.causePathTimeout ≤ (s.at_ t).ring →
    Answers (.ringOpen t 0) s (fun s' => s'.cause.openA ∧ s'.cond Ev.ringOpen 0 ∧ CountsUp (Par.evtCount000 + Ev.ringOpen) s s')) ∧
  (∀ (t : Nat) (s : State), s.address ≠ 0x7FF → s.cause.openB = false → s.cause.backB + 1000000 * s.par Par.causePathTimeout ≤ (s.at_ t).ring →
    Answers (.ringOpen t 1) s (fun s' => s'.cause.openB ∧ s'.cond Ev.ringOpen 1 ∧ CountsUp (Par.evtCount000 + Ev.ringOpen) s s')) ∧
  (∀ (t : Nat) (s : State), (s.at_ t).ring < s.cause.backA + 1000000 * s.par Par.causePathTimeout → Answers (.ringOpen t 0) s (fun s' => s'.cause = s.cause ∧ s'.params = s.params)) ∧
  (∀ (t a : Nat) (m : Member) (s : State), s.member a = some m → m.lost = false → m.heardA.isSome ∨ m.heardB.isSome → (s.at_ t).reachable a = false →
    Answers (.causeMemberLost t a) s (fun s' => (s'.member a).map Member.lost = some true ∧ CountsUp (Par.evtCount000 + Ev.causeMemberLost) s s')) ∧
  (∀ (t a : Nat) (s : State), (s.at_ t).reachable a → Answers (.causeMemberLost t a) s (fun s' => s'.cause = s.cause ∧ s'.params = s.params)) ∧
  (∀ (t : Nat) (f : CFrame) (s : State), RingTaken t 3 f s → s.ownPos = false → cfSrc f = s.par Par.causePosSource → s.cause.posAt.elim true (fun l => decide (l < cfAt f 28 8)) → cfAt f 56 1 = 0 → 0 < cfAt f 36 4 →
    0 < signed 32 (cfAt f 40 4) →
    Answers (.position t f) s (fun s' => s'.pos.p = signed 64 (cfAt f 20 8) ∧ s'.pos.tK = cfAt f 28 8 ∧ s'.pos.dt = cfAt f 36 4 ∧ s'.pos.dp = signed 32 (cfAt f 40 4) ∧ s'.pos.stopped = false ∧ s'.cause.posAt = some (cfAt f 28 8) ∧
      s'.par Par.posLineRate = cfAt f 52 4 ∧ s.pos.hw ≤ s'.pos.hw ∧ signed 64 (cfAt f 44 8) ≤ s'.pos.hw ∧ (s.cause.timeLost = false → s'.pos.lost = none))) ∧
  (∀ (t : Nat) (f : CFrame) (s : State), RingTaken t 3 f s → s.ownPos = false → cfSrc f = s.par Par.causePosSource → s.cause.posAt.elim true (fun l => decide (l < cfAt f 28 8)) → cfAt f 56 1 = 1 → s.pos.lost = none →
    Answers (.position t f) s (fun s' => s'.pos.lost = some 8 ∧ CountsUp Par.causePosTimeouts s s' ∧ CountsUp (Par.evtCount000 + Ev.encoderLostBoth) s s')) ∧
  (∀ (t l : Nat) (f : CFrame) (s : State), RingTaken t 3 f s → s.cause.posAt = some l → cfAt f 28 8 ≤ l → Answers (.position t f) s (fun s' => s'.pos = s.pos ∧ s'.cause.posAt = some l)) ∧
  (∀ (t : Nat) (s : State), s.address ≠ 0x7FF → s.par Par.causePosSource = s.address → s.cause.timeLost = false → s.holding 12 = false → (s.at_ t).sendDue 3 (1000 * s.par Par.causePosPeriod) →
    Answers (.positionSend t) s (fun s' => SentRing [eastA, westB] (s.par Par.causeGeneration) 3 0x7FF (leBytes 8 (twos 64 s.pos.p) ++ leBytes 8 s.pos.tK ++ leBytes 4 (min s.pos.dt (2 ^ 32 - 1)) ++ leBytes 4 (twos 32 s.pos.dp) ++
      leBytes 8 (twos 64 s.pos.hw) ++ leBytes 4 (s.par Par.posLineRate) ++ leBytes 1 (bit s.pos.lost.isSome 0 + bit s.pos.hold 1 + bit s.pos.stopped 2) ++ [0, 0, 0]) s s')) ∧
  (∀ (t : Nat) (s : State), s.cause.timeLost → Answers (.positionSend t) s (fun s' => s'.out = [])) ∧
  (∀ (t : Nat) (s : State), s.ownPos = false → s.pos.lost = none → s.cause.posHeard + 1000 * s.par Par.causePosTimeout ≤ (s.at_ t).ring →
    Answers (.posTimeoutExpiry t) s (fun s' => s'.pos.lost = some 0xA ∧ CountsUp Par.causePosTimeouts s s' ∧ CountsUp (Par.evtCount000 + Ev.ringTimeLost) s s')) ∧
  (∀ (t : Nat) (s : State), (s.at_ t).ring < s.cause.posHeard + 1000 * s.par Par.causePosTimeout → Answers (.posTimeoutExpiry t) s (fun s' => s'.pos = s.pos ∧ s'.params = s.params)) ∧
  (∀ (t : Nat) (f : CFrame) (s : State), RingTaken t 0x30 f s → (evRow (cfAt f 20 1)).isSome → 1 ≤ cfAt f 21 1 → cfAt f 21 1 ≤ 0x15 → Answers (.eventSummary t f) s (fun s' => ∃ e, s'.evt.log.getLast? = some e ∧ e.record ∧ e.ring ∧ e.code = 6 ∧
      e.args = pad16 (leBytes 2 (cfSrc f) ++ leBytes 1 (cfAt f 20 1) ++ leBytes 1 (cfAt f 21 1) ++ leBytes 1 (cfAt f 22 1) ++ leBytes 2 (cfAt f 24 2)))) ∧
  (∀ (t : Nat) (f : CFrame) (s : State), RingTaken t 0x30 f s → evRow (cfAt f 20 1) = none → Answers (.eventSummary t f) s (fun s' => s'.evt = s.evt)) ∧
  (∀ (t ev l : Nat) (m : Summary) (s : State), s.cause.sums.find? (fun m => m.ev == ev) = some m → m.count ≠ 0 → m.sent = some l → l + 1000000000 ≤ max s.now t → s.holding 12 = false →
    Answers (.eventSummarySend t ev) s (fun s' => (s'.cause.sums.find? (fun m => m.ev == ev)).map Summary.count = some 0 ∧ SentRing [eastA, westB] (s.par Par.causeGeneration) 0x30 0x7FF
      (leBytes 1 m.ev ++ leBytes 1 m.svc ++ leBytes 1 m.unit ++ [0] ++ leBytes 2 m.count ++ [0, 0] ++ leBytes 8 m.t) s s')) ∧
  (∀ (t ev l : Nat) (m : Summary) (s : State), s.cause.sums.find? (fun m => m.ev == ev) = some m → m.sent = some l → max s.now t < l + 1000000000 → Answers (.eventSummarySend t ev) s (fun s' => s'.cause = s.cause ∧ s'.out = [])) ∧
  (∀ (t : Nat) (h : Hdr) (s : State), Taken 0x0F01 t h s → learnRight (s.role h.session) .oper = .all →
    Answers (.causeStatus t h []) s (fun s' => s'.rest = (s.taken t h).rest ∧ Replied h 0x0F01 St.ok 0 (.bytes (leBytes 2 s.address ++ leBytes 2 (s.par Par.causeMembers) ++ leBytes 1 (s.par Par.causeGeneration) ++
      leBytes 1 (bit (s.address != 0x7FF && !s.cause.openA) 0 + bit (s.address != 0x7FF && !s.cause.openB) 1 + bit (!s.cause.timeLost) 2 + bit s.pos.lost.isNone 3 + bit (s.address == 0) 4 +
        bit (s.address != 0x7FF && s.par Par.causePosSource == s.address) 5) ++ leBytes 1 (maskOf ((List.range 4).filter (fun i => s.laneIsUp (eastA + i)))) ++ [0] ++ leBytes 2 (s.par Par.causeTimeDist) ++
      leBytes 2 (s.par Par.causePosSource) ++ [0, 0, 0, 0] ++ leBytes 8 (s.at_ t).ring)) s')) ∧
  (∀ (t a n : Nat) (h : Hdr) (s : State), Taken 0x0F03 t h s → a < 1024 → 1 ≤ n → n ≤ 256 → a + n ≤ 1024 → learnRight (s.role h.session) .causeway = .all →
    Answers (.causeMemberList t h (leBytes 2 a ++ leBytes 2 n)) s (fun s' => s'.rest = (s.taken t h).rest ∧
      Replied h 0x0F03 St.ok 0 (.bytes (leBytes 2 n ++ [0, 0] ++ ((List.range n).map (a + ·)).flatMap (s.at_ t).memberEntry)) s')) ∧
  (∀ (t a n : Nat) (h : Hdr) (s : State), Taken 0x0F03 t h s → a < 1024 → 1 ≤ n → n ≤ 256 → s.role h.session = roleObserver →
    Answers (.causeMemberList t h (leBytes 2 a ++ leBytes 2 n)) s (fun s' => s'.rest = (s.taken t h).rest ∧ Replied h 0x0F03 St.classForbidden 0 (.bytes []) s'))

/-- For every word of 32 bytes, the word with its four check bytes has syndromes of zero, so that it decodes as intact in both modes. With any one of its 36 symbols changed, basic and expert mode both find exactly that symbol and its error. A word and check field of zeros alone is not intact. (spec/16_dram_and_husk_code.md) -/
def Obligations.HuskCodeCorrects : Prop :=
  (∀ (x : Bool) (m : List Nat), m.length = 32 → (∀ v ∈ m, v < 256) → syndromes (m ++ huskCheck m) = [0, 0, 0, 0] ∧ huskDecode x (m ++ huskCheck m) = some []) ∧
  (∀ (x : Bool) (j e : Nat) (m : List Nat), m.length = 32 → (∀ v ∈ m, v < 256) → j < 36 → 0 < e → e < 256 →
    huskDecode x (modNth (fun v => v ^^^ e) j (m ++ huskCheck m)) = some [(j, e)]) ∧
  syndromes (List.replicate 36 0) ≠ [0, 0, 0, 0]

/-- A write enters its sub-channel's queue as a burst encrypted for rest with its tag and check fields, replaces a queued entry of its burst, and stalls at 64 entries. A drain starts at 48 entries or when the oldest is urgent, issues the oldest first and goes on while more than 16 wait or one is urgent. A request at 75 % of its port's maximum becomes urgent. A print read above 2 µs counts in LATE and raises EV083. A read enters its queue; the one chosen next is answered from the write queue when its burst is queued there (FORWARDED), else
from the devices: intact, corrected (CORRECTED1), uncorrectable (EV088 and its lines marked for cause 0x0B), or with a tag that fails; what a port is given is the plaintext. (spec/06_secrecy.md, spec/16_dram_and_husk_code.md) -/
def Obligations.DramTraffic : Prop :=
  (∀ (t port burst : Nat) (data : List Byte) (s : State), s.dramReady → burst < s.bursts → port ≤ 5 → data.length = 64 → s.dram.subs.length = 4 →
    (s.sub (s.place burst).sub).writes.all (fun e => e.addr != burst) → (s.sub (s.place burst).sub).writes.length < 64 → (s.sub (s.place burst).sub).strait = [] →
    Answers (.dramWriteRequest t port burst data ()) s (fun s' => (s'.sub (s.place burst).sub).writes = (s.sub (s.place burst).sub).writes ++ [⟨burst, port, max s.now t, false, s.sealBurst burst data⟩])) ∧
  (∀ (t port burst : Nat) (data : List Byte) (s : State), s.dramReady → burst < s.bursts → port ≤ 5 → data.length = 64 → s.dram.subs.length = 4 →
    (s.sub (s.place burst).sub).writes.any (fun e => e.addr == burst) → (s.sub (s.place burst).sub).strait.all (fun e => e.addr != burst) →
    Answers (.dramWriteRequest t port burst data ()) s (fun s' => (s'.sub (s.place burst).sub).writes = (s.sub (s.place burst).sub).writes.map (fun e => if e.addr == burst then { e with lines := s.sealBurst burst data } else e))) ∧
  (∀ (t port burst : Nat) (data : List Byte) (s : State), s.dramReady → burst < s.bursts → port ≤ 5 → data.length = 64 → s.dram.subs.length = 4 →
    (s.sub (s.place burst).sub).writes.all (fun e => e.addr != burst) → 64 ≤ (s.sub (s.place burst).sub).writes.length ∨ (s.sub (s.place burst).sub).strait ≠ [] →
    Answers (.dramWriteRequest t port burst data ()) s (fun s' => (s'.sub (s.place burst).sub).writes = (s.sub (s.place burst).sub).writes ∧
      (s'.sub (s.place burst).sub).strait = (s.sub (s.place burst).sub).strait ++ [⟨burst, port, max s.now t, false, s.sealBurst burst data⟩])) ∧
  (∀ (t u : Nat) (w : DramWrite) (r : List DramWrite) (s : State), u < 4 → s.dram.subs.length = 4 → (s.at_ t).inWindow u = false → (s.sub u).draining = false → (s.sub u).writes = w :: r → 48 ≤ r.length + 1 ∨ w.isUrgent (max s.now t) → (s.sub u).strait = [] → DramOn s →
    (s.sub u).pressing (max s.now t) = false →
    Answers (.writeDrain t u 1) s (fun s' => (s'.sub u).writes = r ∧ (s'.sub u).draining = (decide (16 < r.length) || r.any (DramWrite.isUrgent (max s.now t))) ∧ Out.dram u 2 (w.addr :: w.lines) ∈ s'.out ∧ CountsUp (Par.at_ Par.dramUDrains u) s s')) ∧
  (∀ (t u n : Nat) (w : DramWrite) (r : List DramWrite) (s : State), u < 4 → s.dram.subs.length = 4 → (s.at_ t).inWindow u = false → (s.sub u).draining → (s.sub u).writes = w :: r → r.length = 16 → r.all (fun e => !e.isUrgent (max s.now t)) →
    (s.sub u).strait = [] → (s.sub u).pressing (max s.now t) = false → 1 ≤ n →
    Answers (.writeDrain t u n) s (fun s' => (s'.sub u).writes = r ∧ (s'.sub u).draining = false)) ∧
  (∀ (t u n : Nat) (s : State), (s.sub u).draining = false → (s.sub u).writes.length < 48 → (s.sub u).writes.head?.all (fun e => !e.isUrgent (max s.now t)) → Answers (.writeDrain t u n) s (fun s' => s'.dram = s.dram ∧ s'.out = [])) ∧
  (∀ (t u port burst : Nat) (s : State), u < 4 → s.dram.subs.length = 4 → 1 ≤ port → port ≤ 5 →
    Answers (.requestUrgent t u port burst) s (fun s' => (s'.sub u).reads = (s.sub u).reads.map (fun (r : DramRead) => if r.port = port ∧ r.addr = burst ∧ r.since + portMax port * 3 / 4 ≤ max s.now t then { r with urgent := true } else r) ∧
      (s'.sub u).writes = (s.sub u).writes.map (fun (w : DramWrite) => if w.port = port ∧ w.addr = burst ∧ w.since + portMax port * 3 / 4 ≤ max s.now t then { w with urgent := true } else w))) ∧
  (∀ (t u : Nat) (q : DramRead) (s : State), u < 4 → (s.sub u).reads.find? (fun r => r.port == 0 && !r.late && decide (r.since + 2000 < max s.now t)) = some q → lookup (Ev.dramPrintLate, u) s.evt.last = none →
    Answers (.dramPrintLate t u) s (fun s' => CountsUp (Par.at_ Par.dramULate u) s s' ∧ CountsUp (Par.evtCount000 + Ev.dramPrintLate) s s')) ∧
  (∀ (t u : Nat) (s : State), (s.sub u).reads.all (fun r => r.port != 0 || r.late || decide (max s.now t ≤ r.since + 2000)) → Answers (.dramPrintLate t u) s (fun s' => s'.params = s.params)) ∧
  (∀ (t u port burst : Nat) (s : State), s.dramReady → s.dram.subs.length = 4 → port < 5 → burst < s.bursts → (s.place burst).sub = u →
    Answers (.dramReadRequest t u (some (port, burst)) none) s (fun s' => (s'.sub u).reads = (s.sub u).reads ++ [⟨burst, port, max s.now t, false, false, s.par Par.dramHuskMode == 1⟩])) ∧
  (∀ (t u : Nat) (b : Burst) (r : DramRead) (w : DramWrite) (s : State), s.dramReady → u < 4 → s.dram.subs.length = 4 → (s.sub u).nextRead (max s.now t) = some r → (s.at_ t).inWindow u = false →
    (s.sub u).writes.find? (fun w => w.addr == r.addr) = some w → r.port ≠ 5 → (s.place r.addr).sub = u → DramOn s →
    Answers (.dramReadRequest t u none (some b)) s (fun s' => (s'.sub u).reads = dropOne r (s.sub u).reads ∧ Out.dram u 1 (r.addr :: r.port :: ((s.openBurst r.addr w.lines).getD []).map BitVec.toNat) ∈ s'.out ∧ CountsUp (Par.at_ Par.dramUForwarded u) s s')) ∧
  (∀ (t u : Nat) (b : Burst) (d : List Byte) (r : DramRead) (s : State), s.dramReady → u < 4 → s.dram.subs.length = 4 → (s.sub u).nextRead (max s.now t) = some r → (s.at_ t).inWindow u = false → (s.sub u).writes = [] →
    decodeBurst r.expert b.lines = ⟨[], [], none⟩ → s.openBurst r.addr b.lines = some d → DramOn s → r.port ≠ 5 → (s.place r.addr).sub = u →
    Answers (.dramReadRequest t u none (some b)) s (fun s' => (s'.sub u).reads = dropOne r (s.sub u).reads ∧ Out.dram u 1 (r.addr :: r.port :: d.map BitVec.toNat) ∈ s'.out ∧ s'.dram.errors = s.dram.errors)) ∧
  (∀ (t u : Nat) (b : Burst) (d : List Byte) (e : Nat × Nat) (r : DramRead) (s : State), s.dramReady → u < 4 → s.dram.subs.length = 4 → (s.sub u).nextRead (max s.now t) = some r → (s.at_ t).inWindow u = false → (s.sub u).writes = [] →
    decodeBurst r.expert b.lines = ⟨[e], [], none⟩ → s.openBurst r.addr (fixLines 0 [e] b.lines) = some d → DramOn s → r.port ≠ 5 → (s.place r.addr).sub = u → s.dram.errors = [] →
    Answers (.dramReadRequest t u none (some b)) s (fun s' => (s'.sub u).reads = dropOne r (s.sub u).reads ∧ Out.dram u 1 (r.addr :: r.port :: d.map BitVec.toNat) ∈ s'.out ∧ CountsUp (Par.at_ Par.dramUCorrected1 u) s s' ∧
      s'.dram.errors = [⟨(s.at_ t).ring, r.addr, 0, 1, e.1, 255, r.port, 0⟩])) ∧
  (∀ (t u g head first n : Nat) (b : Burst) (f : BurstFound) (r : DramRead) (s : State), s.dramReady → u < 4 → s.dram.subs.length = 4 → (s.sub u).nextRead (max s.now t) = some r → (s.at_ t).inWindow u = false → (s.sub u).writes = [] →
    decodeBurst r.expert b.lines = f → f.bad.isSome → b.use = .spool g head first n → s.useFits (podOf r.addr) b.use → r.port ≠ 5 → (s.place r.addr).sub = u →
    Answers (.dramReadRequest t u none (some b)) s (fun s' => CountsUp (Par.at_ Par.dramUUncorrectable u) s s' ∧ CountsUp (Par.evtCount000 + Ev.spoolUncorrectable) s s' ∧
      s'.spool.segs.map (fun x => (x.handle, x.bad)) = s.spool.segs.map (fun x => (x.handle, if x.handle = g then x.bad ++ [(head, first, n)] else x.bad)) ∧
      (podOf r.addr ∈ s'.dram.marked ∨ podOf r.addr ∈ s'.spool.retired))) ∧
  (∀ (t u : Nat) (b : Burst) (r : DramRead) (s : State), s.dramReady → u < 4 → s.dram.subs.length = 4 → (s.sub u).nextRead (max s.now t) = some r → (s.at_ t).inWindow u = false → (s.sub u).writes = [] →
    decodeBurst r.expert b.lines = ⟨[], [], none⟩ → s.openBurst r.addr b.lines = none → b.use = .nothing → r.port ≠ 5 → (s.place r.addr).sub = u →
    Answers (.dramReadRequest t u none (some b)) s (fun s' => CountsUp (Par.at_ Par.dramUTagFail u) s s' ∧ (∀ o ∈ s'.out, ∀ k xs, o ≠ Out.dram u k xs)))

/-- Discovery from the first of two board records that is well formed and signed sets the configuration, the capacity, the spool sizes and every sub-channel ready; no such record or a failed device leaves DRAM.STATE failed with EV080. A rank is refreshed at tREFI, or at half of it above 85 °C, and above 95 °C EV084 is raised. An idle rank enters power-down after PD_TIMER. The oscillators are read at intervals of 1 ms; a drift above 2 % makes a retraining window due, one above 4 % counts in DRIFT_HIGH; the window runs when none other does, 16 ms after
the latest of its sub-channel, and outside a drain. (spec/07_segments_and_spool.md, spec/16_dram_and_husk_code.md) -/
def Obligations.DramUpkeep : Prop :=
  (∀ (t : Nat) (boards : List (List Byte × Chain)) (x : List Byte × Chain) (osc temp : List Nat) (s : State), s.par Par.dramState = 0 → s.power.down = false → s.par Par.powerPhase ≠ 0 → s.dram.subs.length = 4 →
    (boards.take 2).find? (fun x => boardForm x.1 && (s.at_ t).boardSigned x.1 x.2) = some x →
    Answers (.dramDiscovery t boards osc temp none) s (fun s' => s'.par Par.dramState = 1 ∧ s'.power.board = some (boardOf x.1) ∧ s'.par Par.dramChannels = (boardOf x.1).channels ∧ s'.par Par.dramRanks = (boardOf x.1).ranks ∧
      s'.par Par.dramDensity = 16 + 8 * (boardOf x.1).density ∧ s'.par Par.dramRate = (boardOf x.1).rate ∧
      s'.par Par.dramCapacity = (boardOf x.1).channels * 2 * (boardOf x.1).ranks * 4 * (16 + 8 * (boardOf x.1).density) * 1073741824 / 8 ∧ s'.par Par.spoolPodsTotal = s'.par Par.dramCapacity / 1048576 ∧
      s'.spool.free = [(0, s'.par Par.spoolPodsTotal - s.par Par.spoolPodsReserved)] ∧
      s'.par Par.spoolDramReservable = (if (boardOf x.1).rate = 3 then 51200 else if (boardOf x.1).rate = 2 then 44800 else 38400) * (boardOf x.1).channels * 4455 / 10000 ∧
      ∀ v ∈ s'.subOrder, s'.par (Par.at_ Par.dramUState v) = 2 ∧ (s'.sub v).ranks.length = (boardOf x.1).ranks)) ∧
  (∀ (t : Nat) (boards : List (List Byte × Chain)) (osc temp : List Nat) (fail : Option (Nat × Nat)) (s : State), s.par Par.dramState = 0 → s.power.down = false → s.par Par.powerPhase ≠ 0 →
    (boards.take 2).find? (fun x => boardForm x.1 && (s.at_ t).boardSigned x.1 x.2) = none →
    Answers (.dramDiscovery t boards osc temp fail) s (fun s' => s'.par Par.dramState = 3 ∧ s'.par (Par.at_ Par.dramUState 0) = 5 ∧ CountsUp (Par.evtCount000 + Ev.dramDiscoveryFailed) s s' ∧ s'.spool = s.spool)) ∧
  (∀ (t u reason : Nat) (boards : List (List Byte × Chain)) (x : List Byte × Chain) (osc temp : List Nat) (s : State), s.par Par.dramState = 0 → s.power.down = false → s.par Par.powerPhase ≠ 0 → u < 4 →
    (boards.take 2).find? (fun x => boardForm x.1 && (s.at_ t).boardSigned x.1 x.2) = some x →
    Answers (.dramDiscovery t boards osc temp (some (u, reason))) s (fun s' => s'.par Par.dramState = 3 ∧ s'.par (Par.at_ Par.dramUState u) = 5 ∧ CountsUp (Par.evtCount000 + Ev.dramDiscoveryFailed) s s' ∧ s'.spool = s.spool)) ∧
  (∀ (t u k temp : Nat) (r : Rank) (s : State), u < 4 → s.dram.subs.length = 4 → (s.sub u).ranks[k]? = some r → r.refreshAt + (if r.hot then 1950 else 3900) ≤ max s.now t → s.par Par.testPinDriven ≠ 1 → DramOn s → temp ≤ 1 →
    Answers (.refreshDue t u k temp) s (fun s' => (s'.sub u).ranks[k]? = some ⟨false, decide (1 ≤ temp), r.last, max s.now t⟩ ∧ Out.dram u 3 [k] ∈ s'.out ∧ s'.cond Ev.dramTemperature (2 * u + k) = false ∧ s'.params = s.params)) ∧
  (∀ (t u k temp : Nat) (r : Rank) (s : State), u < 4 → s.dram.subs.length = 4 → (s.sub u).ranks[k]? = some r → r.refreshAt + (if r.hot then 1950 else 3900) ≤ max s.now t → s.par Par.testPinDriven ≠ 1 → DramOn s → 2 ≤ temp →
    s.cond Ev.dramTemperature (2 * u + k) = false →
    Answers (.refreshDue t u k temp) s (fun s' => (s'.sub u).ranks[k]? = some ⟨false, true, r.last, max s.now t⟩ ∧ Out.dram u 3 [k] ∈ s'.out ∧ s'.cond Ev.dramTemperature (2 * u + k) ∧ CountsUp (Par.evtCount000 + Ev.dramTemperature) s s')) ∧
  (∀ (t u k temp : Nat) (r : Rank) (s : State), (s.sub u).ranks[k]? = some r → max s.now t < r.refreshAt + (if r.hot then 1950 else 3900) → Answers (.refreshDue t u k temp) s (fun s' => s'.dram = s.dram ∧ s'.out = [])) ∧
  (∀ (t u k : Nat) (r : Rank) (s : State), u < 4 → s.dram.subs.length = 4 → (s.sub u).ranks[k]? = some r → s.par (Par.at_ Par.dramUPdTimer u) ≠ 0 → (s.sub u).reads = [] → (s.sub u).writes = [] → (s.sub u).strait = [] → (s.at_ t).inWindow u = false → r.down = false → DramOn s →
    r.last + s.par (Par.at_ Par.dramUPdTimer u) ≤ max s.now t →
    Answers (.powerDownEntry t u k) s (fun s' => (s'.sub u).ranks[k]? = some { r with down := true } ∧ Out.dram u 4 [k] ∈ s'.out)) ∧
  (∀ (t u k : Nat) (s : State), s.par (Par.at_ Par.dramUPdTimer u) = 0 → Answers (.powerDownEntry t u k) s (fun s' => s'.dram = s.dram ∧ s'.out = [])) ∧
  (∀ (t u k : Nat) (r : DramRead) (s : State), r ∈ (s.sub u).reads → (s.place r.addr).rank = k → Answers (.powerDownEntry t u k) s (fun s' => s'.dram = s.dram ∧ s'.out = [])) ∧
  (∀ (t u count temp : Nat) (s : State), s.dramReady → u ∈ s.subOrder → s.dram.subs.length = 4 → (s.sub u).oscAt + 1000000 ≤ max s.now t → (s.sub u).osc < 50 * (count - (s.sub u).osc) → count - (s.sub u).osc ≤ (s.sub u).osc / 25 →
    Answers (.dqsOscillatorRead t u count temp) s (fun s' => (s'.sub u).dueAt = some ((s.sub u).dueAt.getD (max s.now t)) ∧ (s'.sub u).oscNow = count ∧ s'.params = s.params)) ∧
  (∀ (t u count temp : Nat) (s : State), s.dramReady → u ∈ s.subOrder → s.dram.subs.length = 4 → (s.sub u).oscAt + 1000000 ≤ max s.now t → (s.sub u).osc < 25 * (count - (s.sub u).osc) → (s.sub u).highSeen = false →
    Answers (.dqsOscillatorRead t u count temp) s (fun s' => (s'.sub u).dueAt.isSome ∧ CountsUp (Par.at_ Par.dramUDriftHigh u) s s')) ∧
  (∀ (t u : Nat) (s : State), s.dramReady → u ∈ s.subOrder → s.dram.subs.length = 4 → (s.sub u).oscAt + 1000000 ≤ max s.now t → (s.sub u).dueAt = none →
    Answers (.dqsOscillatorRead t u (s.sub u).osc ((s.sub u).temp + 1)) s (fun s' => (s'.sub u).dueAt = none ∧ s'.params = s.params)) ∧
  (∀ (t u : Nat) (s : State), s.dramReady → u ∈ s.subOrder → s.dram.subs.length = 4 → (s.sub u).oscAt + 1000000 ≤ max s.now t → Answers (.dqsOscillatorRead t u (s.sub u).osc ((s.sub u).temp + 2)) s (fun s' => (s'.sub u).dueAt.isSome)) ∧
  (∀ (t u len : Nat) (s : State), u < 4 → s.dram.subs.length = 4 → (s.sub u).dueAt.isSome → (s.sub u).draining = false → (s.sub u).windowAt.elim true (fun w => decide (w + 16000000 ≤ max s.now t)) → (List.range 4).all (fun v => !(s.at_ t).inWindow v) →
    1 ≤ len → len ≤ 1000 →
    Answers (.retrainWindow t u len) s (fun s' => (s'.sub u).windowAt = some (max s.now t) ∧ (s'.sub u).windowEnd = max s.now t + len ∧ (s'.sub u).dueAt = none ∧ (s'.sub u).osc = (s.sub u).oscNow ∧ CountsUp (Par.at_ Par.dramURetrains u) s s')) ∧
  (∀ (t u w len : Nat) (s : State), (s.sub u).windowAt = some w → max s.now t < w + 16000000 → Answers (.retrainWindow t u len) s (fun s' => s'.dram = s.dram ∧ s'.params = s.params)) ∧
  (∀ (t u len : Nat) (s : State), (s.sub u).draining → Answers (.retrainWindow t u len) s (fun s' => s'.dram = s.dram ∧ s'.params = s.params))

/-- The scrub's read enters its queue when it is due. Served, an intact burst goes on to the next one and shows the pass in permille; after the last burst a pass counts and the next begins at 0. A corrected burst of an allocated pod waits to be written back with its correction made; the write-back leaves, or is dropped and counted when the burst was written or its pod has another epoch. An uncorrectable one retires its pod. DRAM_STATUS and DRAM_ERROR_READ reply as their tables say. (spec/06_secrecy.md, spec/16_dram_and_husk_code.md) -/
def Obligations.DramScrubAndStatus : Prop :=
  (∀ (t : Nat) (s : State), s.dramReady → s.dram.subs.length = 4 → (s.at_ t).scrubDue (s.place s.dram.scrub).sub → (s.sub (s.place s.dram.scrub).sub).reads.all (fun r => r.port != 5) →
    Answers (.scrubRead t none) s (fun s' => (s'.sub (s.place s.dram.scrub).sub).reads = (s.sub (s.place s.dram.scrub).sub).reads ++ [⟨s.dram.scrub, 5, max s.now t, false, false, s.par Par.dramHuskMode == 1⟩] ∧ s'.dram.scrub = s.dram.scrub)) ∧
  (∀ (t : Nat) (b : Burst) (s : State), s.dramReady → s.dram.subs.length = 4 → ScrubFree t s → decodeBurst (s.par Par.dramHuskMode == 1) b.lines = ⟨[], [], none⟩ → s.dram.scrub + 1 < s.bursts →
    Answers (.scrubRead t (some b)) s (fun s' => s'.dram.scrub = s.dram.scrub + 1 ∧ s'.par Par.dramScrubProgress = (s.dram.scrub + 1) * 1000 / s.bursts ∧ s'.dram.errors = s.dram.errors ∧ s'.dram.backs = s.dram.backs ∧
      (s'.sub (s.place s.dram.scrub).sub).reads = [])) ∧
  (∀ (t : Nat) (b : Burst) (s : State), s.dramReady → s.dram.subs.length = 4 → ScrubFree t s → s.dram.scrub + 1 = s.bursts →
    Answers (.scrubRead t (some b)) s (fun s' => s'.dram.scrub = 0 ∧ s'.par Par.dramScrubProgress = 0 ∧ CountsUp Par.dramScrubPasses s s' ∧ s'.dram.tPass = (s.at_ t).ring ∧ s'.dram.podErrs = [])) ∧
  (∀ (t : Nat) (b : Burst) (e : Nat × Nat) (s : State), s.dramReady → s.dram.subs.length = 4 → ScrubFree t s → decodeBurst (s.par Par.dramHuskMode == 1) b.lines = ⟨[], [e], none⟩ → s.podUsed (podOf s.dram.scrub) →
    Answers (.scrubRead t (some b)) s (fun s' => s'.dram.backs = s.dram.backs.filter (fun x => x.addr != s.dram.scrub) ++ [⟨s.dram.scrub, fixLines 1 [e] b.lines, s.podEpoch (podOf s.dram.scrub), false⟩] ∧
      CountsUp (Par.at_ Par.dramUCorrected1 (s.place s.dram.scrub).sub) s s')) ∧
  (∀ (t : Nat) (b : Burst) (f : BurstFound) (s : State), s.dramReady → s.dram.subs.length = 4 → ScrubFree t s → decodeBurst (s.par Par.dramHuskMode == 1) b.lines = f → f.bad.isSome → s.podUsed (podOf s.dram.scrub) →
    Answers (.scrubRead t (some b)) s (fun s' => CountsUp (Par.at_ Par.dramUUncorrectable (s.place s.dram.scrub).sub) s s' ∧ (podOf s.dram.scrub ∈ s'.dram.marked ∨ podOf s.dram.scrub ∈ s'.spool.retired))) ∧
  (∀ (t : Nat) (b : Burst) (f : BurstFound) (s : State), s.dramReady → s.dram.subs.length = 4 → ScrubFree t s → decodeBurst (s.par Par.dramHuskMode == 1) b.lines = f → f.bad.isSome → s.podUsed (podOf s.dram.scrub) = false →
    Answers (.scrubRead t (some b)) s (fun s' => podOf s.dram.scrub ∈ s'.spool.retired)) ∧
  (∀ (t a : Nat) (b : BackWrite) (s : State), s.dram.backs.find? (fun b => b.addr == a) = some b → b.written = false → s.podEpoch (podOf a) = b.epoch → (s.at_ t).inWindow (s.place a).sub = false → DramOn s →
    Answers (.scrubWriteBack t a) s (fun s' => s'.out = [.dram (s.place a).sub 2 (a :: b.lines)] ∧ s'.dram.backs = s.dram.backs.filter (fun x => x.addr != a) ∧ s'.params = s.params)) ∧
  (∀ (t a : Nat) (b : BackWrite) (s : State), s.dram.backs.find? (fun b => b.addr == a) = some b → b.written ∨ s.podEpoch (podOf a) ≠ b.epoch → (s.at_ t).inWindow (s.place a).sub = false →
    Answers (.scrubWriteBack t a) s (fun s' => s'.out = [] ∧ s'.dram.backs = s.dram.backs.filter (fun x => x.addr != a) ∧ CountsUp (Par.at_ Par.dramUScrubDropped (s.place a).sub) s s')) ∧
  (∀ (t : Nat) (h : Hdr) (s : State), Taken 0x0601 t h s →
    Answers (.dramStatus t h []) s (fun s' => s'.rest = (s.taken t h).rest ∧ Replied h 0x0601 St.ok 0 (.bytes (leBytes 1 (s.par Par.dramRate + 4 * s.par Par.dramChannels + 16 * s.par Par.dramRanks) ++
      leBytes 1 (s.par Par.dramDensity + 64 * s.par Par.dramHuskMode) ++ leBytes 1 (s.par Par.dramState) ++ [0] ++ (List.range 4).flatMap (fun u => leBytes 1 ((s.at_ t).subState u)) ++ leBytes 8 (s.par Par.dramCapacity) ++
      leBytes 2 (s.par Par.dramScrubProgress) ++ [0, 0] ++ leBytes 4 (s.par Par.dramScrubPasses) ++ leBytes 8 s.dram.tPass)) s')) ∧
  (∀ (t a n : Nat) (h : Hdr) (s : State), Taken 0x0602 t h s → a < 2 ^ 16 → 1 ≤ n → n ≤ 64 →
    Answers (.dramErrorRead t h (leBytes 2 a ++ leBytes 2 n)) s (fun s' => s'.rest = (s.taken t h).rest ∧ Replied h 0x0602 St.ok 0 (.bytes (leBytes 2 ((s.dram.errors.drop a).take n).length ++ [0, 0] ++
      ((s.dram.errors.drop a).take n).flatMap s.dramErrBytes)) s')) ∧
  (∀ (t a n : Nat) (h : Hdr) (s : State), Taken 0x0602 t h s → a < 2 ^ 16 → n < 2 ^ 16 → n = 0 ∨ 64 < n →
    Answers (.dramErrorRead t h (leBytes 2 a ++ leBytes 2 n)) s (fun s' => s'.rest = (s.taken t h).rest ∧ Replied h 0x0602 St.badCount 0 (.bytes []) s'))

/-- PACK_SUBMIT of a compression or a decompression of inline data joins the queue and replies at its end; a decompression of another SOURCE draws 0x0101. The oldest job starts when none runs, with its source copied. A compression ends OK with header and stream where that stays below the source and within OUT_LIMIT, else with NO_GAIN or OUTPUT_FULL, the bytes read until then, and BYTES_OUT 0; a decompression whose stream, length and CRC are right ends OK with the data, one whose
MAGIC is wrong with 0x0101. A word beyond the husk code fails the job with 0x0503. A unit fault fails every job with 0x0502 and raises EV090. PACK_ABORT fails its job with 0x0418; a job that has ended stands, and of an unknown tag it draws 0x010C. (spec/17_pack_engine.md) -/
def Obligations.PackJobsRun : Prop :=
  (∀ (t n limit : Nat) (h : Hdr) (data : List Byte) (s : State), Taken 0x1001 t h s → data.length = n → 1 ≤ n → n ≤ 9096 → 17 ≤ limit → limit ≤ 9088 → s.pack.out = false →
    Answers (.packCompress t h ([1, 0, 0, 0] ++ leBytes 4 n ++ leBytes 4 0 ++ leBytes 2 limit ++ [0, 0] ++ pad4 data)) s (fun s' => (∃ cid, s'.pack.jobs = s.pack.jobs ++ [⟨cid, h.session, h.tag, 1, 0, .host, 0, n, limit, data, 0, false, none⟩]) ∧ s'.out = [])) ∧
  (∀ (t n limit : Nat) (h : Hdr) (data : List Byte) (s : State), Taken 0x1001 t h s → data.length = n → 1 ≤ n → n ≤ 9096 → 17 ≤ limit → limit ≤ 9088 → s.pack.out = false →
    Answers (.packDecompress t h ([2, 0, 0, 0] ++ leBytes 4 n ++ leBytes 4 0 ++ leBytes 2 limit ++ [0, 0] ++ pad4 data)) s (fun s' => (∃ cid, s'.pack.jobs = s.pack.jobs ++ [⟨cid, h.session, h.tag, 2, 0, .host, 0, n, limit, data, 0, false, none⟩]) ∧ s'.out = [])) ∧
  (∀ (t n first limit src : Nat) (h : Hdr) (s : State), Taken 0x1001 t h s → src = 1 ∨ src = 2 → 1 ≤ n → n ≤ 8192 → 17 ≤ limit → limit ≤ 9088 → first < 2 ^ 32 →
    Answers (.packDecompress t h ([2] ++ leBytes 1 src ++ [0, 0] ++ leBytes 4 n ++ leBytes 4 first ++ leBytes 2 limit ++ [0, 0])) s (fun s' => s'.rest = (s.taken t h).rest ∧ Replied h 0x1001 St.valueRange 9 (.bytes []) s')) ∧
  (∀ (t : Nat) (j : PackJob) (js : List PackJob) (s : State), s.pack.jobs = j :: js → s.pack.jobs.all (fun k => !k.running) → s.saveMode = false →
    Answers (.packJobStart t) s (fun s' => s'.pack.jobs = { j with data := (s.packSource j).1, skipped := (s.packSource j).2, running := true, pod := (State.allocPod 2 4096 (s.at_ t)).2 } :: js)) ∧
  (∀ (t : Nat) (s : State), s.pack.jobs.any PackJob.running → Answers (.packJobStart t) s (fun s' => s'.pack = s.pack)) ∧
  (∀ (t : Nat) (j : PackJob) (s : State), s.pack.jobs.find? PackJob.running = some j → s.saveMode = false → s.test.bist = [] → j.op = 1 → j.use = .host →
    Answers (.packJobComplete t true) s (fun s' => s'.pack.jobs = s.pack.jobs.filter (fun k => k.cid != j.cid) ∧ CountsUp Par.packJobs s s' ∧
      ((packOut j.data).length ≤ j.limit → j.limit ≤ 9088 → (packOut j.data).length < j.data.length ∨ j.limit < (if j.source = 1 then 32 * j.count else j.count) →
        FinalSent j.cid St.ok 0 (.bytes (leBytes 4 j.data.length ++ leBytes 4 (packOut j.data).length ++ leBytes 4 j.skipped ++ leBytes 4 0 ++ pad4 (packOut j.data))) s s') ∧
      ((if j.source = 1 then 32 * j.count else j.count) ≤ j.limit → j.data.length ≤ (packOut j.data).length → CountsUp Par.packFailGain s s' ∧
        FinalSent j.cid St.noGain 0 (.bytes (leBytes 4 (packReadGain j.data) ++ leBytes 4 0 ++ leBytes 4 j.skipped ++ leBytes 4 0)) s s') ∧
      (j.limit < (packOut j.data).length → (packOut j.data).length < j.data.length ∨ j.limit < (if j.source = 1 then 32 * j.count else j.count) → CountsUp Par.packFailFull s s' ∧
        FinalSent j.cid St.outputFull (packReadFull j.data j.limit) (.bytes (leBytes 4 (packReadFull j.data j.limit) ++ leBytes 4 0 ++ leBytes 4 j.skipped ++ leBytes 4 0)) s s'))) ∧
  (∀ (t : Nat) (j : PackJob) (s : State), s.pack.jobs.find? PackJob.running = some j → s.saveMode = false → s.test.bist = [] → j.op = 1 → j.use = .logExport → j.data.length ≤ 9088 → (if j.source = 1 then 32 * j.count else j.count) ≤ j.limit → j.data.length ≤ (packOut j.data).length →
    Answers (.packJobComplete t true) s (fun s' => CountsUp Par.packJobs s s' ∧ CountsUp Par.packFailGain s s' ∧
      FinalSent j.cid St.ok 0 (.bytes (leBytes 4 j.data.length ++ leBytes 4 j.data.length ++ leBytes 4 j.skipped ++ leBytes 4 0 ++ pad4 j.data)) s s')) ∧
  (∀ (t : Nat) (j : PackJob) (out : List Byte) (s : State), s.pack.jobs.find? PackJob.running = some j → s.saveMode = false → s.test.bist = [] → j.use = .host → j.limit ≤ 9088 → j.op = 2 → j.data.take 8 = leBytes 4 0x4B504C41 ++ [1, 0, 0, 0] → out.length + 16 ≤ j.limit → leAt j.data 8 4 = out.length →
    leAt j.data 12 4 = crc32 out → (inflate (j.data.drop 16) out.length [] none).reason = 0 → (inflate (j.data.drop 16) out.length [] none).out = out →
    Answers (.packJobComplete t true) s (fun s' => CountsUp Par.packJobs s s' ∧ FinalSent j.cid St.ok 0 (.bytes (leBytes 4 j.data.length ++ leBytes 4 out.length ++ leBytes 4 j.skipped ++ leBytes 4 0 ++ pad4 out)) s s')) ∧
  (∀ (t : Nat) (j : PackJob) (s : State), s.pack.jobs.find? PackJob.running = some j → s.saveMode = false → s.test.bist = [] → j.use = .host → j.op = 2 → leAt j.data 0 4 ≠ 0x4B504C41 →
    Answers (.packJobComplete t true) s (fun s' => CountsUp Par.packFailData s s' ∧ FinalSent j.cid St.valueRange 0 (.bytes (leBytes 4 16 ++ leBytes 4 0 ++ leBytes 4 j.skipped ++ leBytes 4 0)) s s')) ∧
  (∀ (t : Nat) (j : PackJob) (s : State), s.pack.jobs.find? PackJob.running = some j → s.saveMode = false → s.test.bist = [] → j.use = .host →
    Answers (.packJobComplete t false) s (fun s' => CountsUp Par.packFailData s s' ∧ FinalSent j.cid St.dataUncorrectable 0 (.bytes (leBytes 4 0 ++ leBytes 4 0 ++ leBytes 4 j.skipped ++ leBytes 4 0)) s s')) ∧
  (∀ (t : Nat) (s : State), s.pack.out = false → s.test.bist = [] → (s.pack.jobs.map PackJob.cid).Nodup →
    Answers (.packUnitFault t) s (fun s' => s'.pack.out ∧ s'.pack.jobs = [] ∧ CountsUp (Par.evtCount000 + Ev.packUnitFault) s s' ∧
      ∀ j ∈ s.pack.jobs, j.use = .host → FinalSent j.cid St.unitFault 0x1000 (.bytes (leBytes 4 0 ++ leBytes 4 0 ++ leBytes 4 j.skipped ++ leBytes 4 0)) s s')) ∧
  (∀ (t tag : Nat) (h : Hdr) (j : PackJob) (s : State), TakenBeside [j.cid] 0x1002 t h s → tag < 2 ^ 16 → s.pack.jobs.find? (fun j => j.sn == h.session && j.tag == tag && j.use == .host) = some j → s.test.bist = [] →
    j.cid < s.nextCid → (s.flight j.cid).all (fun f => f.final.isNone && !s.behind f) →
    Answers (.packAbort t h (leBytes 2 tag ++ [0, 0])) s (fun s' => s'.pack.jobs = s.pack.jobs.filter (fun k => k.cid != j.cid) ∧ CountsUp Par.packFailFull s s' ∧ Replied h 0x1002 St.ok 0 (.bytes []) s' ∧
      FinalSent j.cid St.outputFull 0xFFFFFFFF (.bytes (leBytes 4 0 ++ leBytes 4 0 ++ leBytes 4 j.skipped ++ leBytes 4 0)) s s')) ∧
  (∀ (t tag : Nat) (h : Hdr) (s : State), Taken 0x1002 t h s → tag < 2 ^ 16 → s.pack.jobs.all (fun j => !(j.sn == h.session && j.tag == tag && j.use == .host)) →
    s.results.all (fun r => !(r.session == h.session && r.endedAt.isNone && r.tag == tag && r.opcode == 0x1001)) →
    Answers (.packAbort t h (leBytes 2 tag ++ [0, 0])) s (fun s' => s'.rest = (s.taken t h).rest ∧ Replied h 0x1002 St.noSuchResult 0 (.bytes []) s')) ∧
  (∀ (t tag : Nat) (h : Hdr) (s : State), Taken 0x1002 t h s → tag < 2 ^ 16 → s.pack.jobs.all (fun j => !(j.sn == h.session && j.tag == tag && j.use == .host)) →
    s.results.any (fun r => r.session == h.session && r.endedAt.isNone && r.tag == tag && r.opcode == 0x1001) →
    Answers (.packAbort t h (leBytes 2 tag ++ [0, 0])) s (fun s' => s'.rest = (s.taken t h).rest ∧ Replied h 0x1002 St.ok 0 (.bytes []) s'))

/-- EVT_SUBSCRIBE replaces the session's subscription, without reserved numbers. EVT_LOG_READ replies with the entries that the role may read; a role that may not read the log draws 0x0304 and a count outside 1-256 draws 0x010B. EVT_CLEAR by the owner clears the latch of a held event and writes a record of code 0x04; a latch set again at the same instant stays; an event held to reset and one whose condition holds are refused with 0x0202 in their entries. EVT_LOG_EXPORT queues a pack job.
A pin is released when its pulse ends and no latch of its mask is set. (spec/04_commands.md, spec/18_events_and_trouble_log.md) -/
def Obligations.TroubleLogAndEvents : Prop :=
  (∀ (t mask f : Nat) (h : Hdr) (s : State), Taken 0x1101 t h s → mask < 2 ^ 128 → f < 2 →
    Answers (.evtSubscribe t h (leBytes 16 mask ++ leBytes 1 f ++ [0, 0, 0])) s (fun s' => Replied h 0x1101 St.ok 0 (.bytes []) s' ∧ s'.rest = (s.taken t h).rest ∧
      ∃ x, s'.session h.session = some x ∧ x.subRing = bitAt f 0 ∧ ∀ ev < 128, bitAt x.subMask ev = (bitAt mask ev && (evRow ev).isSome))) ∧
  (∀ (t first n : Nat) (h : Hdr) (s : State), Taken 0x1102 t h s → first < 2 ^ 32 → 1 ≤ n → n ≤ 256 → learnRight (s.role h.session) .log ≠ .none →
    Answers (.evtLogRead t h (leBytes 4 first ++ leBytes 2 n ++ [0, 0])) s (fun s' => s'.rest = (s.taken t h).rest ∧ Replied h 0x1102 St.ok 0 (.bytes (s.logReply (learnsArgs (s.role h.session)) first n)) s')) ∧
  (∀ (t first n : Nat) (h : Hdr) (s : State), Taken 0x1102 t h s → first < 2 ^ 32 → n < 2 ^ 16 → n = 0 ∨ 256 < n →
    Answers (.evtLogRead t h (leBytes 4 first ++ leBytes 2 n ++ [0, 0])) s (fun s' => s'.rest = (s.taken t h).rest ∧ Replied h 0x1102 St.badCount 0 (.bytes []) s')) ∧
  (∀ (t ev : Nat) (r : EvRow) (h : Hdr) (s : State), Taken 0x1103 t h s → ev < 128 → mayChange (s.role h.session) .log → s.owns h.session → evRow ev = some r → r.clearing = .held → bitAt s.evt.latched ev → (s.at_ t).raisedNow ev = false →
    Answers (.evtClear t h ([1, 0, 0, 0] ++ leBytes 1 ev ++ [0, 0, 0])) s (fun s' => bitAt s'.evt.latched ev = false ∧ (∀ k, k ≠ ev → bitAt s'.evt.latched k = bitAt s.evt.latched k) ∧
      (∃ e, s'.evt.log.getLast? = some e ∧ e.record ∧ e.code = 4 ∧ e.args = pad16 (leBytes 1 ev ++ leBytes 1 h.session)) ∧ Replied h 0x1103 St.ok 0 (.bytes ([1, 0, 0, 0] ++ leBytes 1 ev ++ [0, 0, 0])) s')) ∧
  (∀ (t ev : Nat) (r : EvRow) (h : Hdr) (s : State), Taken 0x1103 t h s → ev < 128 → mayChange (s.role h.session) .log → s.owns h.session → evRow ev = some r →
    r.clearing = .toReset ∨ (r.clearing = .self ∧ s.evt.conds.any (fun c => c.1 == ev)) →
    Answers (.evtClear t h ([1, 0, 0, 0] ++ leBytes 1 ev ++ [0, 0, 0])) s (fun s' => s'.evt = s.evt ∧ Replied h 0x1103 St.partially 1 (.bytes ([1, 0, 0, 0] ++ leBytes 1 ev ++ [0] ++ leBytes 2 0x0202)) s')) ∧
  (∀ (t ev : Nat) (r : EvRow) (h : Hdr) (s : State), Taken 0x1103 t h s → ev < 128 → mayChange (s.role h.session) .log → s.owns h.session → evRow ev = some r →
    (r.clearing = .held ∧ (bitAt s.evt.latched ev = false ∨ (s.at_ t).raisedNow ev)) ∨ r.clearing = .oneShot ∨ (r.clearing = .self ∧ s.evt.conds.all (fun c => c.1 != ev)) →
    Answers (.evtClear t h ([1, 0, 0, 0] ++ leBytes 1 ev ++ [0, 0, 0])) s (fun s' => s'.evt = s.evt ∧ Replied h 0x1103 St.ok 0 (.bytes ([1, 0, 0, 0] ++ leBytes 1 ev ++ [0, 0, 0])) s')) ∧
  (∀ (t ev : Nat) (h : Hdr) (s : State), Taken 0x1103 t h s → ev < 128 → mayChange (s.role h.session) .log → s.owns h.session → evRow ev = none →
    Answers (.evtClear t h ([1, 0, 0, 0] ++ leBytes 1 ev ++ [0, 0, 0])) s (fun s' => s'.evt = s.evt ∧ Replied h 0x1103 St.partially 1 (.bytes ([1, 0, 0, 0] ++ leBytes 1 ev ++ [0] ++ leBytes 2 0x0101)) s')) ∧
  (∀ (t ev : Nat) (h : Hdr) (s : State), Taken 0x1103 t h s → ev < 128 → mayChange (s.role h.session) .log → s.owns h.session = false →
    Answers (.evtClear t h ([1, 0, 0, 0] ++ leBytes 1 ev ++ [0, 0, 0])) s (fun s' => s'.evt = s.evt ∧ Replied h 0x1103 St.notOwner s.own.holder (.bytes []) s')) ∧
  (∀ (t first n : Nat) (h : Hdr) (s : State), Taken 0x1104 t h s → first < 2 ^ 32 → 1 ≤ n → n ≤ 8192 → learnRight (s.role h.session) .log ≠ .none → s.pack.out = false →
    Answers (.evtLogExport t h (leBytes 4 first ++ leBytes 4 n)) s (fun s' => s'.out = [] ∧ ∃ cid, s'.pack.jobs = s.pack.jobs ++ [⟨cid, h.session, h.tag, 1, 1, .logExport, first, n, 9088, [], 0, false, none⟩])) ∧
  (∀ (t pin : Nat) (s : State), pin < 4 → s.evt.latched &&& s.pinMask pin = 0 → s.evt.pulses.all (fun p => p.1 != pin || decide (p.2 ≤ max s.now t)) →
    Answers (.eventPinPulseEnd t pin) s (fun s' => s'.pinLow pin = false ∧ s'.out = [.pin "EVT_N" (2 * pin + 1)] ∧ s'.evt.latched = s.evt.latched)) ∧
  (∀ (t pin : Nat) (s : State), pin < 4 → s.evt.latched &&& s.pinMask pin ≠ 0 → Answers (.eventPinPulseEnd t pin) s (fun s' => s'.pinLow pin ∧ s'.out = [.pin "EVT_N" (2 * pin)]))

/-- A post into an EMPTY TM mailbox stores the message under the next SEQ, of the class of MGMT.CLASS_TM; into any other it reports FULL and changes nothing. An acknowledge of a READ or FULL request-class TH mailbox makes it ACKED, and of any other reports NOT_PENDING. A read of a FULL TH mailbox returns the record and empties it, or makes it READ in the request class; of an EMPTY or ACKED one it reports EMPTY.
A take of an ACKED TM mailbox returns the acknowledge record and empties it. MGMT_DOORBELL sets TM bells and takes TH bells. Status is OK in each case. (spec/19_management_port_and_mailboxes.md) -/
def Obligations.HostMailboxes : Prop :=
  (∀ (t n : Nat) (h : Hdr) (d : List Byte) (s : State), Taken 0x1201 t h s → n < 16 → 4 ≤ d.length → d.length ≤ 64 → d.length % 4 = 0 → (s.mailbox true n).state = 0 →
    Answers (.mgmtMailboxPost t h (leBytes 1 (16 + n) ++ [0, 0, 0] ++ leBytes 2 d.length ++ [0, 0] ++ d)) s (fun s' =>
      s'.mgmt = (s.setMailbox true n ⟨1, bitAt (s.par Par.mgmtClassTm) n, ((s.mailbox true n).nextSeq + 1) % 65536, (s.mailbox true n).nextSeq, d, 0, false, false, false⟩).mgmt ∧
      Replied h 0x1201 St.ok 0 (.bytes ([0, 0, 0, 0] ++ leBytes 2 (s.mailbox true n).nextSeq ++ [0, 0])) s')) ∧
  (∀ (t n : Nat) (h : Hdr) (d : List Byte) (s : State), Taken 0x1201 t h s → n < 16 → 4 ≤ d.length → d.length ≤ 64 → d.length % 4 = 0 → (s.mailbox true n).state ≠ 0 →
    Answers (.mgmtMailboxPost t h (leBytes 1 (16 + n) ++ [0, 0, 0] ++ leBytes 2 d.length ++ [0, 0] ++ d)) s (fun s' => s'.rest = (s.taken t h).rest ∧ Replied h 0x1201 St.ok 0 (.bytes [1, 0, 0, 0]) s')) ∧
  (∀ (t n code : Nat) (h : Hdr) (s : State), Taken 0x1201 t h s → n < 16 → code < 2 ^ 16 → (s.mailbox false n).request → (s.mailbox false n).state = 1 ∨ (s.mailbox false n).state = 2 →
    Answers (.mgmtMailboxAcknowledge t h (leBytes 1 n ++ [1] ++ leBytes 2 code ++ [0, 0, 0, 0])) s (fun s' => s'.mgmt = (s.setMailbox false n { s.mailbox false n with state := 3, code := code }).mgmt ∧
      Replied h 0x1201 St.ok 0 (.bytes [0, 0, 0, 0]) s')) ∧
  (∀ (t n code : Nat) (h : Hdr) (s : State), Taken 0x1201 t h s → n < 16 → code < 2 ^ 16 → (s.mailbox false n).request = false ∨ (s.mailbox false n).state = 0 ∨ (s.mailbox false n).state = 3 →
    Answers (.mgmtMailboxAcknowledge t h (leBytes 1 n ++ [1] ++ leBytes 2 code ++ [0, 0, 0, 0])) s (fun s' => s'.rest = (s.taken t h).rest ∧ Replied h 0x1201 St.ok 0 (.bytes [3, 0, 0, 0]) s')) ∧
  (∀ (t n : Nat) (h : Hdr) (s : State), Taken 0x1202 t h s → n < 16 → (s.mailbox false n).state = 1 → (s.mailbox false n).request = false →
    Answers (.mgmtMailboxRead t h (leBytes 1 n ++ [0, 0, 0])) s (fun s' => s'.mgmt = (s.setMailbox false n (s.mailbox false n).emptied).mgmt ∧ Replied h 0x1202 St.ok 0 (.bytes ([0, 0, 0, 0] ++ (s.mailbox false n).message)) s')) ∧
  (∀ (t n : Nat) (h : Hdr) (s : State), Taken 0x1202 t h s → n < 16 → (s.mailbox false n).state = 1 ∨ (s.mailbox false n).state = 2 → (s.mailbox false n).request →
    Answers (.mgmtMailboxRead t h (leBytes 1 n ++ [0, 0, 0])) s (fun s' => s'.mgmt = (s.setMailbox false n { s.mailbox false n with state := 2, again := true }).mgmt ∧
      Replied h 0x1202 St.ok 0 (.bytes ([0, 0, 0, 0] ++ (s.mailbox false n).message)) s')) ∧
  (∀ (t n : Nat) (h : Hdr) (s : State), Taken 0x1202 t h s → n < 16 → (s.mailbox false n).state = 0 ∨ (s.mailbox false n).state = 3 →
    Answers (.mgmtMailboxRead t h (leBytes 1 n ++ [0, 0, 0])) s (fun s' => s'.rest = (s.taken t h).rest ∧ Replied h 0x1202 St.ok 0 (.bytes [2, 0, 0, 0]) s')) ∧
  (∀ (t n : Nat) (h : Hdr) (s : State), Taken 0x1202 t h s → n < 16 → (s.mailbox true n).state = 3 →
    Answers (.mgmtAcknowledgeTake t h (leBytes 1 (16 + n) ++ [1, 0, 0])) s (fun s' => s'.mgmt = (s.setMailbox true n (s.mailbox true n).emptied).mgmt ∧ Replied h 0x1202 St.ok 0 (.bytes ([0, 0, 0, 0] ++ (s.mailbox true n).ackRecord)) s')) ∧
  (∀ (t r k : Nat) (h : Hdr) (s : State), Taken 0x1203 t h s → r < 2 ^ 32 → k < 2 ^ 32 →
    Answers (.mgmtDoorbell t h (leBytes 4 r ++ leBytes 4 k)) s (fun s' => s'.mgmt = { s.mgmt with tmBells := s.mgmt.tmBells ||| r, thBells := s.mgmt.thBells - (s.mgmt.thBells &&& k) } ∧
      Replied h 0x1203 St.ok 0 (.bytes (leBytes 4 (s.mgmt.thBells &&& k))) s'))

/-- A read returns the status byte, RSTATUS, RDATA and their CRC. READ_PARAM of an operating parameter returns its value, of a class that the port may not learn 0x0304. WRITE_PARAM of MGMT.ATTN_MASK by the port as owner puts it in force, and without ownership sets 0x0305 in RESULT. LOG_READ returns the entries that the port may read. MBOX_POST, MBOX_READ, MBOX_ACK and ACK_READ act on the mailboxes, BELL_RING and BELL_TAKE on the bells.
SIDE_RESET marks the messages and counts. A malformed transaction sets LAST_ERR, counts and raises EV100, and does nothing else. (spec/05_ownership.md, spec/06_secrecy.md, spec/18_events_and_trouble_log.md, spec/19_management_port_and_mailboxes.md) -/
def Obligations.ManagementPortActs : Prop :=
  (∀ (t id : Nat) (s : State), SpiOn s → id < 2 ^ 32 → vlenOf id = some 4 → mgmtReadStatus id = St.ok →
    Answers (.readParam t (readBytes 0x01 id 4)) s (fun s' => SpiAnswer St.ok (leBytes 4 ((s.at_ t).spiActive.readParam Ow.mgmtPort id)) s s' ∧ SpiDone t s.mgmt s s' ∧ s'.params = s.params)) ∧
  (∀ (t id n : Nat) (s : State), SpiOn s → id < 2 ^ 32 → n ≤ 512 → vlenOf id = some n → mgmtReadStatus id ≠ St.ok →
    Answers (.readParam t (readBytes 0x01 id n)) s (fun s' => SpiAnswer (mgmtReadStatus id) (List.replicate n 0) s s' ∧ s'.params = s.params)) ∧
  (∀ (t v : Nat) (s : State), s.holding 15 = false → v < 8 → s.own.holder = Ow.mgmtPort → (s.at_ t).spiActive.refusals Ow.mgmtPort [⟨Par.mgmtAttnMask, v⟩] = [] →
    Answers (.writeParam t (writeBytes 0x02 Par.mgmtAttnMask (leBytes 1 v))) s (fun s' => s'.par Par.mgmtAttnMask = v ∧ s'.par Par.devCommitSeq = (s.par Par.devCommitSeq + 1) % 2 ^ 32 ∧ s'.mgmt.resStatus = St.ok)) ∧
  (∀ (t v : Nat) (s : State), s.holding 15 = false → v < 8 → s.own.holder ≠ Ow.mgmtPort →
    Answers (.writeParam t (writeBytes 0x02 Par.mgmtAttnMask (leBytes 1 v))) s (fun s' => s'.params = s.params ∧ s'.mgmt.resStatus = St.notOwner ∧ s'.own.mgmtLast = max s.now t)) ∧
  (∀ (t : Nat) (s : State), SpiOn s → Answers (.result t (readBytes 0x05 0 4)) s (fun s' => SpiAnswer St.ok (leBytes 2 s.mgmt.resStatus ++ leBytes 1 s.mgmt.resByte ++ [0]) s s' ∧ SpiDone t s.mgmt s s')) ∧
  (∀ (t first n : Nat) (s : State), SpiOn s → first < 2 ^ 32 → 1 ≤ n → n ≤ 16 →
    Answers (.logRead t (readBytes 0x06 first (32 * n))) s (fun s' => SpiAnswer St.ok (((takeLog mgmtLearns n (s.logFrom first)).1.flatMap LogEntry.bytes ++ List.replicate (32 * n) 0).take (32 * n)) s s' ∧ s'.evt = s.evt)) ∧
  (∀ (t n : Nat) (d : List Byte) (s : State), s.holding 15 = false → n < 16 → 4 ≤ d.length → d.length ≤ 64 → d.length % 4 = 0 → (s.mailbox false n).state = 0 →
    Answers (.mboxPost t (writeBytes 0x10 n d)) s (fun s' => SpiDone t { (s.setMailbox false n ⟨1, bitAt (s.par Par.mgmtClassTh) n, ((s.mailbox false n).nextSeq + 1) % 65536, (s.mailbox false n).nextSeq, d, 0, false, false, false⟩).mgmt with
      resStatus := St.ok, resByte := 0 } s s')) ∧
  (∀ (t n : Nat) (d : List Byte) (s : State), s.holding 15 = false → n < 16 → 4 ≤ d.length → d.length ≤ 64 → d.length % 4 = 0 → (s.mailbox false n).state ≠ 0 →
    Answers (.mboxPost t (writeBytes 0x10 n d)) s (fun s' => SpiDone t { s.mgmt with resStatus := St.ok, resByte := 1 } s s')) ∧
  (∀ (t n : Nat) (s : State), SpiOn s → n < 16 → (s.mailbox true n).state = 1 → (s.mailbox true n).request = false →
    Answers (.mboxRead t (readBytes 0x11 (16 + n) 72)) s (fun s' => SpiAnswer St.ok (s.mailbox true n).message s s' ∧ SpiDone t (s.setMailbox true n (s.mailbox true n).emptied).mgmt s s')) ∧
  (∀ (t n code : Nat) (s : State), s.holding 15 = false → n < 16 → code < 2 ^ 16 → (s.mailbox true n).request → (s.mailbox true n).state = 1 ∨ (s.mailbox true n).state = 2 →
    Answers (.mboxAck t (writeBytes 0x12 (16 + n) (leBytes 2 code ++ [0, 0]))) s (fun s' => SpiDone t { (s.setMailbox true n { s.mailbox true n with state := 3, code := code }).mgmt with resStatus := St.ok, resByte := 0 } s s')) ∧
  (∀ (t n code : Nat) (s : State), s.holding 15 = false → n < 16 → code < 2 ^ 16 → (s.mailbox true n).request = false →
    Answers (.mboxAck t (writeBytes 0x12 (16 + n) (leBytes 2 code ++ [0, 0]))) s (fun s' => SpiDone t { s.mgmt with resStatus := St.ok, resByte := 3 } s s')) ∧
  (∀ (t n : Nat) (s : State), SpiOn s → n < 16 → (s.mailbox false n).state = 3 →
    Answers (.ackRead t (readBytes 0x13 n 8)) s (fun s' => SpiAnswer St.ok (s.mailbox false n).ackRecord s s' ∧ SpiDone t (s.setMailbox false n (s.mailbox false n).emptied).mgmt s s')) ∧
  (∀ (t m : Nat) (s : State), s.holding 15 = false → m < 2 ^ 32 → Answers (.bellRing t (writeBytes 0x20 0 (leBytes 4 m))) s (fun s' => SpiDone t { s.mgmt with thBells := s.mgmt.thBells ||| m, resStatus := St.ok, resByte := 0 } s s')) ∧
  (∀ (t : Nat) (s : State), SpiOn s → s.mgmt.tmBells < 2 ^ 32 →
    Answers (.bellTake t (readBytes 0x21 0 4)) s (fun s' => SpiAnswer St.ok (leBytes 4 s.mgmt.tmBells) s s' ∧ SpiDone t { s.mgmt with tmBells := 0 } s s')) ∧
  (∀ (t : Nat) (s : State), s.holding 15 = false → Answers (.sideReset t (writeBytes 0x30 0 [])) s (fun s' => CountsUp Par.mgmtSideResets s s' ∧ s'.mgmt.thBells = s.mgmt.thBells ∧ s'.mgmt.tmBells = s.mgmt.tmBells ∧
      s'.mgmt.th = s.mgmt.th.map (fun m => if m.state = 0 then m else { m with senderReset := true }) ∧ s'.mgmt.tm = s.mgmt.tm.map (fun m => if m.state = 0 then m else { m with preReset := true }))) ∧
  (∀ (t : Nat) (mosi : List Byte) (s : State), s.holding 15 = false → spiCommand (leAt mosi 0 1) = none →
    Answers (.malformedTransaction t mosi) s (fun s' => s'.mgmt = { s.mgmt with lastErr := true } ∧ CountsUp Par.mgmtProtocolErrors s s' ∧ CountsUp (Par.evtCount000 + Ev.mgmtProtocolError) s s' ∧ s'.own = s.own)) ∧
  (∀ (t : Nat) (mosi : List Byte) (s : State), s.holding 15 = false → mosi.length < 8 → Answers (.bellRing t mosi) s (fun s' => s'.mgmt = { s.mgmt with lastErr := true } ∧ CountsUp Par.mgmtProtocolErrors s s' ∧ s'.own = s.own))

/-- PORST_ASSERT clears everything but what R435 keeps, drives HPEN low, holds the device in reset with kind 1; PORST_RELEASE samples the strap and starts the count at 0. SYSRST_ASSERT and SAG_RECOGNISED send GATE on every lane up and begin the sequence. A glitch is only counted. At 10 microseconds HPEN falls; then sessions end and the save begins; its end writes state 2, and the device resets, after a sag
held until HOLD_RESTART. RAIL_FAULT raises EV109, RAILS_GOOD ends it. A store write that fails raises EV107 and is retried after 10 ms; a good one writes what is due. (spec/20_power_boot_and_holdup.md, spec/22_pins_and_electrical.md) -/
def Obligations.ResetsAndSag : Prop :=
  (∀ (t n : Nat) (s : State), s.power.saving = none →
    Answers (.porstAssert t n) s (fun s' => s'.power.down ∧ s'.now = 0 ∧ s'.sessions = [] ∧ s'.flights = [] ∧ s'.evt = State.reset.evt ∧ s'.spool = State.reset.spool ∧ s'.mgmt = State.reset.mgmt ∧ s'.heads = State.reset.heads ∧ s'.own = State.reset.own ∧
      s'.power.banks = s.power.banks ∧ s'.power.select = s.power.select ∧ s'.power.store = s.power.store ∧ s'.shell.slots = s.shell.slots ∧ s'.par Par.powerResetKind = 1 ∧ s'.par Par.shellSvnFuse = s.par Par.shellSvnFuse ∧ s'.pending = s.pending ∧
      (∀ id, id ∉ [Par.powerResetKind, Par.powerSaveSeq, Par.shellSvnFuse, Par.devSerial, Par.testTestEn, Par.testInstruction] → s'.par id = resetVal id) ∧ ∀ h < 16, (s.head h).hpen → Out.pin (hpenName h) 0 ∈ s'.out)) ∧
  (∀ (t : Nat) (strap : Bool) (s : State), s.power.down → s.power.sag = 0 → Answers (.porstRelease t strap) s (fun s' => s'.now = 0 ∧ s'.power.down = false ∧ s'.shell.strap = strap ∧ s'.params = s.params)) ∧
  (∀ (t : Nat) (s : State), s.power.sag = 0 → s.power.down = false →
    Answers (.sysrstAssert t) s (fun s' => s'.power.sag = 1 ∧ s'.power.sagKind = 2 ∧ s'.fire.reset ∧ ∀ h < 16, LanesOn h s → ∀ u ∈ s.lanesUp h, Out.marker u 0x55 1 ∈ s'.out)) ∧
  (∀ (t mv : Nat) (s : State), s.power.sag = 0 → s.power.down = false → mv ≤ 10600 →
    Answers (.sagRecognised t mv) s (fun s' => s'.power.sag = 1 ∧ s'.power.sagKind = 3 ∧ s'.power.sagAt = (s.at_ t).ring ∧ s'.fire.sag ∧ s'.par Par.powerHoldMv = mv ∧ CountsUp (Par.evtCount000 + Ev.supplySag) s s' ∧
      (∀ h < 16, LanesOn h s → ∀ u ∈ s.lanesUp h, Out.marker u 0x55 1 ∈ s'.out) ∧ (s.par Par.powerSagReject = 1 → s.pos.rejects.length = 2 → (s'.rej 0).sag ∧ (s'.rej 1).sag))) ∧
  (∀ (t mv : Nat) (s : State), mv ≤ 10600 → Answers (.sagGlitch t mv) s (fun s' => CountsUp Par.powerSagGlitches s s' ∧ s'.power = s.power ∧ s'.evt = s.evt ∧ s'.out = [])) ∧
  (∀ (t : Nat) (s : State), s.power.sag = 1 → s.fire.sag ∨ s.fire.reset → Answers (.sagGateDone t) s (fun s' => s'.power.sag = 2 ∧ ∀ h < 16, (s'.head h).hpen = false)) ∧
  (∀ (t : Nat) (s : State), s.power.sag ≠ 1 → Answers (.sagGateDone t) s (fun s' => s'.heads = s.heads ∧ s'.power = s.power)) ∧
  (∀ (t : Nat) (x : Session) (s : State), s.power.sag = 2 → s.sessions = [x] →
    Answers (.saveModeEntry t) s (fun s' => s'.power.sag = 3 ∧ s'.sessions = [] ∧ CountsUp (Par.evtCount000 + Ev.sessionLost) s s' ∧ ∃ v, s'.power.saving = some v ∧ v.kind = s.power.sagKind ∧ v.seq = s.power.store.seq + 1 ∧ v.sections = 0 ∧
      v.journal = s.comp.journal ∧ v.log.length ≤ 512)) ∧
  (∀ (t : Nat) (s : State), s.power.sag = 2 → s.sessions = [] → 4 ≤ s.par Par.powerPhase → s.par Par.powerPhase ≠ 6 →
    Answers (.saveModeEntry t) s (fun s' => s'.power.sag = 3 ∧ ∃ v, s'.power.saving = some v ∧ v.header ∧ v.tSag = s.power.sagAt ∧ v.counters = accountIds.map s.par ∧ v.segs = (s.spool.segs.filter (fun g => g.state == Sg.printing)).map s.saved)) ∧
  (∀ (t : Nat) (v : Save) (s : State), s.power.saving = some v → s.power.sagKind = 3 →
    Answers (.saveComplete t) s (fun s' => s'.power.store.state = 2 ∧ s'.power.store.save = some { v with sections := 6 } ∧ s'.power.store.seq = v.seq ∧ s'.power.down ∧ s'.power.sag = 4 ∧ s'.par Par.powerResetKind = 3 ∧ s'.spool = State.reset.spool)) ∧
  (∀ (t : Nat) (v : Save) (s : State), s.power.saving = some v → s.power.sagKind = 2 →
    Answers (.saveComplete t) s (fun s' => s'.power.store.state = 2 ∧ s'.power.down = false ∧ s'.power.sag = 0 ∧ s'.now = 0 ∧ s'.par Par.powerResetKind = 2 ∧ s'.par Par.powerPhase = 0)) ∧
  (∀ (t mv : Nat) (s : State), s.power.sag = 4 → 11000 < mv → mv < 65536 → Answers (.holdRestart t mv) s (fun s' => s'.power.sag = 0 ∧ s'.power.down = false ∧ s'.now = 0 ∧ s'.par Par.powerHoldMv = mv ∧ s'.power.store = s.power.store)) ∧
  (∀ (t r : Nat) (s : State), r ∉ s.power.railBad → Answers (.railFault t r) s (fun s' => s'.power.railBad = r :: s.power.railBad ∧ s'.cond Ev.railFault 0 ∧ CountsUp (Par.evtCount000 + Ev.railFault) s s')) ∧
  (∀ (t : Nat) (s : State), Answers (.railsGood t) s (fun s' => s'.power.railBad = [] ∧ s'.cond Ev.railFault 0 = false ∧ s'.params = s.params)) ∧
  (∀ (t : Nat) (s : State), Answers (.saveStoreRetry t false) s (fun s' => s'.power.retryAt = some (max s.now t + 10000000) ∧ s'.power.ringDue = s.power.ringDue ∧ s'.cond Ev.saveStoreFault 0 ∧ CountsUp (Par.evtCount000 + Ev.saveStoreFault) s s')) ∧
  (∀ (t : Nat) (s : State), s.power.store.ring.length + s.power.ringDue.length ≤ 65536 → Answers (.saveStoreRetry t true) s (fun s' => s'.power.retryAt = none ∧ s'.power.ringDue = [] ∧ s'.power.store.ring = s.power.store.ring ++ s.power.ringDue ∧
      s'.cond Ev.saveStoreFault 0 = false))

/-- SHELL_ROM_DONE leads to phase 1 with the serial number, MAC addresses, commissioning state and the select records that are well formed. IMAGE_VERIFIED boots the named bank, or the other with EV112, or recovery (phase 6). ENGINES_LOADED leads to phase 3. RESTORE writes the record of the reset as the first entry after the saved ones and reports every segment accepted and not finished, which is then BROKEN; without a save it is reported unknown. PHASE_READY leads to phase 5 with EV000 when R440 holds, else to phase 4.
POWER_STATUS replies with the values; POWER_RESTART_REPORT with the report from its offset, to an Observer with 0x0304. (spec/06_secrecy.md, spec/07_segments_and_spool.md, spec/18_events_and_trouble_log.md, spec/20_power_boot_and_holdup.md) -/
def Obligations.StartUpAndRestore : Prop :=
  (∀ (t serial : Nat) (a b : List Byte) (macs : List Nat) (records : List (List Byte × List Byte)) (s : State), s.power.down = false → s.par Par.powerPhase = 0 → s.par Par.testTestEn = 0 → serial < 2 ^ 128 →
    Answers (.shellRomDone t a b serial macs records) s (fun s' => s'.par Par.powerPhase = 1 ∧ s'.par Par.devSerial = serial ∧ (∀ p < 4, s'.par (Par.at_ Par.fresyUMac p) = nth macs 0 p % 2 ^ 48) ∧
      s'.par Par.shellCommissionState = (if s.shell.strap then 1 else if (s.slot 0).kind = 0 then 0 else 2) ∧ s'.power.select = [selectOf a, selectOf b])) ∧
  (∀ q b : Nat, q < 2 ^ 32 → b < 2 → selectOf (selectBytes q b) = some (q, b)) ∧
  (∀ (t : Nat) (i : ImageEv) (img1 : Option ImageEv) (s : State), s.power.down = false → s.par Par.powerPhase = 1 → s.power.banks.length = 2 → s.namedBank = 0 → s.acceptable i →
    Answers (.imageVerified t (some i) img1) s (fun s' => s'.par Par.powerPhase = 2 ∧ s'.par Par.powerRunningBank = 0 ∧ s'.par Par.powerRunningSvn = i.svn ∧ s'.par Par.devFwVersion = i.version % 2 ^ 32 ∧ s'.par Par.shellUtcFloor = max i.build s.power.store.utcFloor ∧ s'.evt = s.evt)) ∧
  (∀ (t : Nat) (i j : ImageEv) (s : State), s.power.down = false → s.par Par.powerPhase = 1 → s.power.banks.length = 2 → s.namedBank = 0 → s.acceptable i = false → s.acceptable j →
    Answers (.imageVerified t (some i) (some j)) s (fun s' => s'.par Par.powerPhase = 2 ∧ s'.par Par.powerRunningBank = 1 ∧ s'.par Par.powerRunningSvn = j.svn ∧ CountsUp (Par.evtCount000 + Ev.bootBankFallback) s s' ∧
      CountsUp (Par.evtCount000 + Ev.fwRefused) s s' ∧ s'.power.select = s.power.select)) ∧
  (∀ (t : Nat) (s : State), s.power.down = false → s.par Par.powerPhase = 1 → s.power.banks.length = 2 →
    Answers (.imageVerified t none none) s (fun s' => s'.par Par.powerPhase = 6 ∧ s'.par Par.shellCommissionState = 3 ∧ s'.shell.recoveryFw)) ∧
  (∀ (t : Nat) (s : State), s.power.down = false → s.par Par.powerPhase = 2 →
    Answers (.enginesLoaded t) s (fun s' => s'.par Par.powerPhase = 3 ∧ (s.power.restored → CountsUp (Par.evtCount000 + Ev.restartReportReady) s s') ∧ (s.power.restored = false → s'.evt = s.evt))) ∧
  (∀ (t : Nat) (a : List Bool) (b c d e' : Bool) (s : State), LatestOk a s → s.power.restored = false → s.power.down = false → s.power.sag = 0 → s.par Par.powerPhase = 1 ∨ s.par Par.powerPhase = 2 → s.power.store.state = 0 → s.evt.log = [] →
    Answers (.restore t ⟨a, b⟩ c d e' []) s (fun s' => s'.power.restored ∧ (∃ e, s'.evt.log.head? = some e ∧ e.record ∧ e.code = 7 ∧ e.seq = 0 ∧ e.args = pad16 (leBytes 1 (s.par Par.powerResetKind) ++ [0, 0])) ∧
      ∃ r, s'.power.report = some r ∧ r.kind = s.par Par.powerResetKind ∧ r.seq = s.power.store.seq ∧ r.tSag = 0 ∧ r.utc = 0 ∧
        ∀ e ∈ latestEntries s.power.store.ring, e.state = Sg.accepted → (⟨e.handle, Sg.accepted, false, true, false, 0, List.replicate 16 0xFFFFFFFE⟩ : SavedSeg) ∈ r.segs ∧ ∃ x ∈ s'.spool.done, x.handle = e.handle ∧ x.state = Sg.broken)) ∧
  (∀ (t : Nat) (a : List Bool) (v : Save) (s : State), LatestOk a s → v.seq = s.power.store.seq → s.power.restored = false → s.power.down = false → s.power.sag = 0 → s.par Par.powerPhase = 1 ∨ s.par Par.powerPhase = 2 → s.power.store.state = 2 → s.power.store.save = some v → v.header → v.sections = 6 → v.log.length ≤ 512 → s.evt.log = [] →
    Answers (.restore t ⟨a, true⟩ true true true []) s (fun s' => s'.power.restored ∧ (∃ e, s'.evt.log[v.log.length]? = some e ∧ e.record ∧ e.code = 7 ∧ e.seq = v.log.length) ∧
      (∀ i < v.log.length, (s'.evt.log[i]?).map (fun e => (e.seq, e.preReset)) = some (i, true)) ∧ (s.par Par.powerResetKind = 3 → CountsUp (Par.evtCount000 + Ev.supplySag) s s') ∧
      ∃ r, s'.power.report = some r ∧ bitAt r.flags 0 ∧ bitAt r.flags 1 = false ∧ r.tSag = v.tSag ∧ r.utc = v.utc ∧ r.counters = v.counters ∧
        ∀ e ∈ latestEntries s.power.store.ring, e.state = Sg.accepted → reportOf (some v.segs) e.handle ∈ r.segs ∧ ∃ x ∈ s'.spool.done, x.handle = e.handle ∧ x.state = Sg.broken)) ∧
  (∀ (t : Nat) (a : List Bool) (b c d e : Bool) (l : List Nat) (s : State), s.power.restored → Answers (.restore t ⟨a, b⟩ c d e l) s (fun s' => s'.power = s.power ∧ s'.evt = s.evt ∧ s'.spool = s.spool)) ∧
  (∀ (t : Nat) (s : State), s.power.down = false → s.power.sag = 0 → s.par Par.powerPhase = 3 ∨ s.par Par.powerPhase = 4 → s.r440 → s.par Par.testTestEn = 0 → s.par Par.shellCommissionState ≠ 1 →
    Answers (.phaseReady t) s (fun s' => s'.par Par.powerPhase = 5 ∧ s'.par Par.devState = 1 ∧ CountsUp (Par.evtCount000 + Ev.deviceReady) s s')) ∧
  (∀ (t : Nat) (s : State), s.power.down = false → s.power.sag = 0 → s.par Par.powerPhase = 3 ∨ s.par Par.powerPhase = 4 → s.r440 = false → Answers (.phaseReady t) s (fun s' => s'.par Par.powerPhase = 4 ∧ s'.evt = s.evt)) ∧
  (∀ (t : Nat) (h : Hdr) (s : State), Taken 0x1301 t h s → learnRight (s.role h.session) .oper = .all →
    Answers (.powerStatus t h []) s (fun s' => s'.rest = (s.taken t h).rest ∧ Replied h 0x1301 St.ok 0 (.fields [("phase", s.par Par.powerPhase), ("resetKind", s.par Par.powerResetKind), ("vddCore", s.par Par.powerVddCore),
      ("vddCoreSet", s.par Par.powerVddCoreSet), ("holdMv", s.par Par.powerHoldMv), ("sag", s.power.sag), ("railsBad", s.power.railBad.length)]) s')) ∧
  (∀ (t o : Nat) (h : Hdr) (r : Report) (s : State), Taken 0x1304 t h s → s.power.report = some r → learnRight (s.role h.session) .spool = .all → o < 2 ^ 32 → o ≤ (r.toBytes (learnRight (s.role h.session) .counters == .all)).length →
    Answers (.powerRestartReport t h (leBytes 4 o)) s (fun s' => s'.rest = (s.taken t h).rest ∧ Replied h 0x1304 St.ok 0 (.bytes (leBytes 4 (r.toBytes (learnRight (s.role h.session) .counters == .all)).length ++ leBytes 4 o ++
      ((r.toBytes (learnRight (s.role h.session) .counters == .all)).drop o).take 8192)) s')) ∧
  (∀ (t : Nat) (h : Hdr) (b : List Byte) (s : State), Taken 0x1304 t h s → b.length = 4 → s.role h.session = roleObserver → Answers (.powerRestartReport t h b) s (fun s' => s'.rest = (s.taken t h).rest ∧ Replied h 0x1304 St.classForbidden 0 (.bytes []) s'))

/-- POWER_FW_STAGE of offset 0 erases the idle bank with PENDING, and the end of the erase writes its data and replies; a later packet writes its data at its offset. When the whole image is held, it is verified: STAGED reads 2, or 3 with EV006 and 0x0302. POWER_FW_SWITCH to the idle bank with a verified image waits for a gap, else draws 0x0202. At a gap the switch is under way; without one for FW_GAP_WAIT it draws 0x0202. A good switch to an image that the Shell accepts runs the new bank, writes the select record that is not valid, raises EV008 and replies OK; a bad one raises EV006 and
replies 0x0502 DETAIL 0x1300. (spec/06_secrecy.md, spec/20_power_boot_and_holdup.md) -/
def Obligations.FirmwareSwitches : Prop :=
  (∀ (t n : Nat) (h : Hdr) (d : List Byte) (len : Nat) (img : Option ImageEv) (s : State), Taken 0x1302 t h s → d.length = n → 4 ≤ n → n ≤ 9000 → n % 4 = 0 → mayChange (s.role h.session) .firmware → s.owns h.session → s.power.switch = none →
    Answers (.powerFwStage t h (leBytes 4 0 ++ leBytes 2 n ++ [0, 0] ++ d) len img) s (fun s' => PendingSent h 0x1302 s' ∧ s'.par Par.powerStaged = 1 ∧ s'.power.banks = modNth (fun _ => ⟨none, len, 0, []⟩) s.idleBank s.power.banks ∧
      ∃ f ∈ s'.flights, s'.power.erase = s.power.erase ++ [(f.cid, img)] ∧ f.body = leBytes 4 0 ++ leBytes 2 n ++ [0, 0] ++ d)) ∧
  (∀ (t n : Nat) (h : Hdr) (d old : List Byte) (len total : Nat) (img : Option ImageEv) (s : State), Taken 0x1302 t h s → d.length = n → 4 ≤ n → n ≤ 9000 → n % 4 = 0 → mayChange (s.role h.session) .firmware → s.owns h.session → s.power.switch = none →
    s.power.banks[s.idleBank]? = some ⟨none, total, old.length, old⟩ → 0 < old.length → old.length + n < total → old.length + n ≤ 15728640 →
    Answers (.powerFwStage t h (leBytes 4 old.length ++ leBytes 2 n ++ [0, 0] ++ d) len img) s (fun s' => s'.par Par.powerStaged = 1 ∧ s'.power.banks[s.idleBank]? = some ⟨none, total, old.length + n, old ++ d⟩ ∧
      Replied h 0x1302 St.ok 0 (.fields [("held", old.length + n), ("staged", 1)]) s')) ∧
  (∀ (t n : Nat) (h : Hdr) (d old : List Byte) (len : Nat) (i : ImageEv) (s : State), Taken 0x1302 t h s → d.length = n → 4 ≤ n → n ≤ 9000 → n % 4 = 0 → mayChange (s.role h.session) .firmware → s.owns h.session → s.power.switch = none →
    s.power.banks[s.idleBank]? = some ⟨none, old.length + n, old.length, old⟩ → 0 < old.length → old.length + n ≤ 15728640 → s.acceptable i → s.shell.tampered = false →
    Answers (.powerFwStage t h (leBytes 4 old.length ++ leBytes 2 n ++ [0, 0] ++ d) len (some i)) s (fun s' => s'.par Par.powerStaged = 2 ∧ s'.power.banks[s.idleBank]? = some ⟨some i, old.length + n, old.length + n, old ++ d⟩)) ∧
  (∀ (t n : Nat) (h : Hdr) (d old : List Byte) (len : Nat) (i : ImageEv) (s : State), Taken 0x1302 t h s → d.length = n → 4 ≤ n → n ≤ 9000 → n % 4 = 0 → mayChange (s.role h.session) .firmware → s.owns h.session → s.power.switch = none →
    s.power.banks[s.idleBank]? = some ⟨none, old.length + n, old.length, old⟩ → 0 < old.length → old.length + n ≤ 15728640 → s.acceptable i = false → s.shell.tampered = false →
    Answers (.powerFwStage t h (leBytes 4 old.length ++ leBytes 2 n ++ [0, 0] ++ d) len (some i)) s (fun s' => s'.par Par.powerStaged = 3 ∧ CountsUp (Par.evtCount000 + Ev.fwRefused) s s' ∧ Replied h 0x1302 St.signatureInvalid 0 (.bytes []) s')) ∧
  (∀ (t n : Nat) (h : Hdr) (d : List Byte) (len : Nat) (img : Option ImageEv) (s : State), Taken 0x1302 t h s → d.length = n → 4 ≤ n → n ≤ 9000 → n % 4 = 0 → mayChange (s.role h.session) .firmware → s.owns h.session → s.power.switch.isSome →
    Answers (.powerFwStage t h (leBytes 4 0 ++ leBytes 2 n ++ [0, 0] ++ d) len img) s (fun s' => s'.rest = (s.taken t h).rest ∧ Replied h 0x1302 St.segmentState 0 (.bytes []) s')) ∧
  (∀ (t cid : Nat) (img : Option ImageEv) (q : List (Nat × Option ImageEv)) (f : Flight) (total : Nat) (s : State), s.power.erase = (cid, img) :: q → s.flights.find? (fun f => f.cid == cid) = some f → s.power.banks[s.idleBank]? = some ⟨none, total, 0, []⟩ →
    f.body.length < total + 8 → 8 ≤ f.body.length →
    Answers (.fwBankErased t) s (fun s' => s'.power.erase = q ∧ s'.par Par.powerStaged = 1 ∧ s'.power.banks[s.idleBank]? = some ⟨none, total, f.body.length - 8, f.body.drop 8⟩ ∧
      FinalSent cid St.ok 0 (.fields [("held", f.body.length - 8), ("staged", 1)]) s s')) ∧
  (∀ (t b : Nat) (h : Hdr) (s : State), Taken 0x1303 t h s → mayChange (s.role h.session) .firmware → s.owns h.session → s.power.switch = none → s.par Par.powerStaged = 2 → b = s.idleBank → b < 2 →
    Answers (.powerFwSwitch t h (leBytes 1 b ++ [0, 0, 0])) s (fun s' => PendingSent h 0x1303 s' ∧ ∃ cid, s'.power.switch = some (cid, b, max s.now t))) ∧
  (∀ (t b : Nat) (h : Hdr) (s : State), Taken 0x1303 t h s → mayChange (s.role h.session) .firmware → s.owns h.session → b < 2 → b ≠ s.idleBank ∨ s.par Par.powerStaged ≠ 2 →
    Answers (.powerFwSwitch t h (leBytes 1 b ++ [0, 0, 0])) s (fun s' => s'.rest = (s.taken t h).rest ∧ Replied h 0x1303 St.segmentState 0 (.bytes []) s')) ∧
  (∀ (t cid b since : Nat) (s : State), s.power.switch = some (cid, b, since) → s.spool.segs.all (fun g => g.state != Sg.verifying && g.state != Sg.voting) → s.flights.all (fun f => f.cid == cid) →
    Answers (.firmwareGap t) s (fun s' => s'.power.switch = none ∧ s'.power.switching = some (cid, b) ∧ s'.cmdHeld)) ∧
  (∀ (t cid b since : Nat) (s : State), s.power.switch = some (cid, b, since) → (∃ f ∈ s.flights, f.cid ≠ cid) → Answers (.firmwareGap t) s (fun s' => s'.power = s.power)) ∧
  (∀ (t cid b since : Nat) (s : State), s.power.switch = some (cid, b, since) → since + 1000000 * s.par Par.powerFwGapWait ≤ max s.now t →
    Answers (.fwGapWaitExpiry t) s (fun s' => s'.power.switch = none ∧ s'.power.banks = s.power.banks ∧ FinalSent cid St.segmentState 0 (.bytes []) s s')) ∧
  (∀ (t cid b since : Nat) (s : State), s.power.switch = some (cid, b, since) → max s.now t < since + 1000000 * s.par Par.powerFwGapWait → Answers (.fwGapWaitExpiry t) s (fun s' => s'.power = s.power)) ∧
  (∀ (t cid b : Nat) (i : ImageEv) (s : State), s.power.switching = some (cid, b) → s.bankImage b = some i → s.acceptable i → s.parked = [] → s.flights.all (fun f => f.wait.isNone) → s.power.select.length = 2 → s.shell.recoveryFw = false →
    Answers (.fwSwitchComplete t true) s (fun s' => s'.power.switching = none ∧ s'.par Par.powerRunningBank = b ∧ s'.par Par.powerRunningSvn = i.svn ∧ s'.par Par.devFwVersion = i.version % 2 ^ 32 ∧ CountsUp (Par.evtCount000 + Ev.fwSwitched) s s' ∧
      FinalSent cid St.ok 0 (.bytes []) s s' ∧ (∃ k, k < 2 ∧ (nth s'.power.select none k).map Prod.snd = some b ∧ nth s'.power.select none (1 - k) = nth s.power.select none (1 - k)))) ∧
  (∀ (t cid b : Nat) (good : Bool) (i : ImageEv) (s : State), s.power.switching = some (cid, b) → s.bankImage b = some i → good = false ∨ s.acceptable i = false → s.parked = [] → s.flights.all (fun f => f.wait.isNone) →
    Answers (.fwSwitchComplete t good) s (fun s' => s'.power.switching = none ∧ s'.par Par.powerRunningBank = s.par Par.powerRunningBank ∧ s'.power.select = s.power.select ∧ CountsUp (Par.evtCount000 + Ev.fwRefused) s s' ∧
      FinalSent cid St.unitFault 0x1300 (.bytes []) s s'))

/-- PORST_ASSERT resets from every state with kind 1, and abandons a save with the sections that it had completed; a restart that finds its control block reports that save as cut short. SYSRST_ASSERT during a save, and SAG_RECOGNISED during a SYSTEM or an ENGINE save, change nothing, and SAVE_COMPLETE after them completes the save. (R436) -/
def Obligations.SavesAreNotDisturbed : Prop :=
  (∀ (t n : Nat) (s : State), Answers (.porstAssert t n) s (fun s' => s'.power.down ∧ s'.power.sag = 0 ∧ s'.power.saving = none ∧ s'.par Par.powerResetKind = 1)) ∧
  (∀ (t n : Nat) (v : Save) (s : State), s.power.saving = some v →
    Answers (.porstAssert t n) s (fun s' => (n = 0 → s'.power.store = s.power.store) ∧ (1 ≤ n → s'.power.store.state = 1 ∧ s'.power.store.save = some { v with sections := min n 5 } ∧ s'.power.store.seq = v.seq))) ∧
  (∀ (t : Nat) (a : List Bool) (b c d e : Bool) (l : List Nat) (s : State), LatestOk a s → s.power.restored = false → s.power.down = false → s.power.sag = 0 → s.par Par.powerPhase ≠ 0 → s.power.store.state = 1 →
    Answers (.restore t ⟨a, b⟩ c d e l) s (fun s' => ∃ r, s'.power.report = some r ∧ bitAt r.flags 1 ∧ bitAt r.flags 0 = false ∧ r.seq = s.power.store.seq)) ∧
  (∀ (t : Nat) (s : State), s.power.sag ≠ 0 → Answers (.sysrstAssert t) s (fun s' => s' = s.at_ t)) ∧
  (∀ (t mv : Nat) (s : State), s.power.sag ≠ 0 → s.power.sagKind = 2 ∨ s.power.sagKind = 4 → Answers (.sagRecognised t mv) s (fun s' => s' = s.at_ t)) ∧
  (∀ (t t' mv : Nat) (v : Save) (s s' : State), s.power.sag ≠ 0 → s.power.saving = some v → exec (.sysrstAssert t) s = .next s' ∨ exec (.sagRecognised t mv) s = .next s' →
    Answers (.saveComplete t') s' (fun r => r.power.store.state = 2 ∧ r.power.store.save = some { v with sections := 6 } ∧ r.par Par.powerResetKind = s.power.sagKind))

/-- A mismatch starts a restart of the pair with EV001; the command pair cuts off the commands that have not started, and answers them with 0x0501 after the restart. A mismatch during it, or 50 ms without its end, is a failed restart: it raises EV001 and restarts again, and the third within 60 s begins an ENGINE reset, which gates every head and saves. The end of a restart lets the pair run; a command that arrived meanwhile is then met. A waiting command starts once its turn has come, and not while it is fenced and an earlier command of its session is in flight, or an earlier one has not started. (spec/01_sound_and_islands.md, spec/04_commands.md) -/
def Obligations.CorePairsAndFences : Prop :=
  (∀ (t p : Nat) (s : State), p < 2 → (s.pair p).restart = none →
    Answers (.lockstepMismatch t p ()) s (fun s' => (s'.pair p).restart = some (max s.now t) ∧ (s'.pair p).fails = (s.pair p).fails ∧ s'.pair (1 - p) = s.pair (1 - p) ∧ CountsUp (Par.evtCount000 + Ev.corePairRestart) s s' ∧ (p = 0 → s'.cmdHeld) ∧
      s'.power = s.power ∧ s'.spool = s.spool)) ∧
  (∀ (t : Nat) (s : State), s.dev.cmd.restart = none →
    Answers (.lockstepMismatch t 0 ()) s (fun s' => ∀ f ∈ s.flights, f.started = false → f.final = none → ∃ g ∈ s'.flights, g.cid = f.cid ∧ ∃ r, g.final = some r ∧ r.final ∧ r.status = St.engineRestart)) ∧
  (∀ (t a : Nat) (f : Flight) (r : Reply) (s : State), s.dev.cmd.restart = some a → s.parked = [] → s.flights = [f] → f.final = some r → f.endedAt = none →
    Answers (.coreRestartComplete t 0) s (fun s' => s'.dev.cmd.restart = none ∧ s'.flights = [] ∧ ∃ q, Out.reply f.session q ∈ s'.out ∧ q.opcode = r.opcode ∧ q.tag = r.tag ∧ q.status = r.status ∧ q.body = r.body)) ∧
  (∀ (t p : Nat) (s : State), p < 2 → (s.pair p).restart.isSome → ((s.pair p).fails.filter (fun a => decide (max s.now t < a + 60000000000))).length < 2 →
    Answers (.lockstepMismatch t p ()) s (fun s' => (s'.pair p).restart = some (max s.now t) ∧ (s'.pair p).fails = max s.now t :: (s.pair p).fails.filter (fun a => decide (max s.now t < a + 60000000000)) ∧
      CountsUp (Par.evtCount000 + Ev.corePairRestart) s s' ∧ s'.power = s.power)) ∧
  (∀ (t p a : Nat) (s : State), p < 2 → (s.pair p).restart = some a → a + 50000000 ≤ max s.now t → 2 ≤ ((s.pair p).fails.filter (fun a => decide (max s.now t < a + 60000000000))).length → s.power.sag = 0 → s.power.down = false →
    Answers (.coreRestartTimeout t p) s (fun s' => s'.power.sag = 1 ∧ s'.power.sagKind = 4 ∧ s'.fire.reset ∧ CountsUp (Par.evtCount000 + Ev.corePairRestart) s s' ∧ ∀ h < 16, LanesOn h s → ∀ u ∈ s.lanesUp h, Out.marker u 0x55 1 ∈ s'.out)) ∧
  (∀ (t p a : Nat) (s : State), p < 2 → (s.pair p).restart = some a → a + 50000000 ≤ max s.now t → ((s.pair p).fails.filter (fun a => decide (max s.now t < a + 60000000000))).length < 2 →
    Answers (.coreRestartTimeout t p) s (fun s' => (s'.pair p).restart = some (max s.now t) ∧ (s'.pair p).fails.length = ((s.pair p).fails.filter (fun a => decide (max s.now t < a + 60000000000))).length + 1 ∧
      CountsUp (Par.evtCount000 + Ev.corePairRestart) s s' ∧ s'.power = s.power)) ∧
  (∀ (t p a : Nat) (s : State), (s.pair p).restart = some a → max s.now t < a + 50000000 → Answers (.coreRestartTimeout t p) s (fun s' => s'.dev = s.dev ∧ s'.evt = s.evt ∧ s'.out = [])) ∧
  (∀ (t a : Nat) (s : State), s.dev.pol.restart = some a → Answers (.coreRestartComplete t 1) s (fun s' => s'.dev.pol = { s.dev.pol with restart := none } ∧ s'.dev.cmd = s.dev.cmd ∧ s'.params = s.params ∧ s'.flights = s.flights)) ∧
  (∀ (t a : Nat) (s : State), s.dev.cmd.restart = some a → s.parked = [] → Quiet t s → s.flights.all (fun f => f.final.isNone) →
    Answers (.coreRestartComplete t 0) s (fun s' => s'.dev.cmd = { s.dev.cmd with restart := none } ∧ s'.flights = s.flights.map (fun f => { f with extra := f.extra + 50000000 }))) ∧
  (∀ (t t' a n : Nat) (h : Hdr) (s : State), s.dev.cmd.restart = some a → s.parked = [.row n (.powerStatus t' h [])] → s.flights.all (fun f => f.final.isNone) → learnRight (s.role h.session) .oper = .all →
    TakenBeside [] 0x1301 t h { s with dev := { s.dev with cmd := { s.dev.cmd with restart := none } }, flights := s.flights.map (fun f => { f with extra := f.extra + 50000000 }) } →
    Answers (.coreRestartComplete t 0) s (fun s' => s'.dev.cmd.restart = none ∧ s'.parked = [] ∧ ∃ b, Replied h 0x1301 St.ok 0 b s')) ∧
  (∀ (t : Nat) (h : Hdr) (b : List Byte) (s : State), s.cmdHeld → Quiet t s → (s.session h.session).isSome →
    Answers (.powerStatus t h b) s (fun s' => s'.parked = s.parked ++ [.row h.session (.powerStatus t h b)] ∧ s'.flights = s.flights ∧ s'.out = [])) ∧
  (∀ (t cid : Nat) (f g : Flight) (i : Instr) (s : State), Quiet t s → s.flights.find? (fun f => f.cid == cid) = some f → f.wait = some i → (hostCmd i).isSome → f.endedAt = none → g ∈ s.flights → g.cid < cid → g.session = f.session → g.endedAt = none →
    bitAt f.flags 0 ∨ (g.started = false ∧ g.final = none) →
    Answers (.fencedCommandStart t cid) s (fun s' => s'.flights = s.flights ∧ s'.params = s.params ∧ s'.out = [])) ∧
  (∀ (t : Nat) (f : Flight) (h : Hdr) (s : State), s.cmdHeld = false → s.flights = [f] → f.wait = some (.powerStatus 0 h []) → f.started = false → f.final = none → f.endedAt = none → f.body = [] → f.flags < 2 → f.rsv = 0 → s.shell.recoveryFw = false → learnRight f.role .oper = .all →
    Answers (.fencedCommandStart t f.cid) s (fun s' => ∃ r, Out.reply f.session r ∈ s'.out ∧ r.tag = f.tag ∧ r.final = true ∧ r.status = St.ok))

/-- PACE_WINDOW reports 1,000 times the count over the floor count of a ring, at most 4,095: of two rings the lower within 300 permille, else the higher, and the tenth window of disagreement excludes the lower ring; 0xFFFF without a ring; PACE_MIN keeps the least. The second window of a print-path service below 1,000 raises EV002, puts the device outside its operating conditions and asks for 10 mV more. VDD_CORE_LOWER and VDD_CORE_RAISE write a step of 5 mV within 700-850 mV and no sooner than 100 ms or 1 ms, the latter while coverage or a pace falls short. READ_VOUT_CHECK raises EV104 on a bad
answer and ends it on a good one. ISLAND_RESET takes back the lines not started of the entries in flight, and STRAIT_RESYNC counts the entries, logs it and lets what waited cross. (spec/01_sound_and_islands.md, spec/20_power_boot_and_holdup.md, spec/21_calibration_and_self_check.md) -/
def Obligations.PaceVoltageAndStraits : Prop :=
  (∀ (counts : List (List Nat)) (n r f : Nat) (s : State), (s.trim 8).fused → nth (s.trim 8).values 0 (ringIndex n r) = (f : Int) → 0 < f → s.ringReading counts n r = min 4095 (1000 * nth (nth counts [] (n - 1)) 0 r / f)) ∧
  (∀ (t n a b : Nat) (counts : List (List Nat)) (s : State), 1 ≤ n → n ≤ 21 → printPath n → s.ringInUse n 0 → s.ringInUse n 1 → s.ringReading counts n 0 = a → s.ringReading counts n 1 = b →
    Answers (.paceWindow t counts) s (fun s' => s'.par (Par.calPace01 + (n - 1)) = (if max a b - min a b ≤ 300 then min a b else max a b) ∧
      s'.par (Par.calPaceMin01 + (n - 1)) = min (if max a b - min a b ≤ 300 then min a b else max a b) (s.par (Par.calPaceMin01 + (n - 1))) ∧ (max a b - min a b ≤ 300 → s'.ringInUse n 0 ∧ s'.ringInUse n 1) ∧
      (300 < max a b - min a b → lookup n s.dev.paceApart = some 9 → s'.ringInUse n 0 = decide (b < a) ∧ s'.ringInUse n 1 = decide (a ≤ b)) ∧
      (300 < max a b - min a b → lookup n s.dev.paceApart = none → s'.ringInUse n 0 ∧ s'.ringInUse n 1 ∧ lookup n s'.dev.paceApart = some 1))) ∧
  (∀ (t n a : Nat) (counts : List (List Nat)) (s : State), 1 ≤ n → n ≤ 21 → s.ringInUse n 0 → s.ringInUse n 1 = false → s.ringReading counts n 0 = a → Answers (.paceWindow t counts) s (fun s' => s'.par (Par.calPace01 + (n - 1)) = a)) ∧
  (∀ (t n : Nat) (counts : List (List Nat)) (s : State), 1 ≤ n → n ≤ 21 → s.ringInUse n 0 = false → s.ringInUse n 1 = false → Answers (.paceWindow t counts) s (fun s' => s'.par (Par.calPace01 + (n - 1)) = 0xFFFF ∧ lookup n s'.dev.paceLow = lookup n s.dev.paceLow)) ∧
  (∀ (t n a : Nat) (counts : List (List Nat)) (s : State), 1 ≤ n → n ≤ 21 → printPath n → s.ringInUse n 0 → s.ringInUse n 1 = false → s.ringReading counts n 0 = a → a < 1000 → lookup n s.dev.paceLow = some 1 → lookup n s.dev.paceGood = none → s.par Par.powerVddCoreSet ≤ 850 →
    Answers (.paceWindow t counts) s (fun s' => s'.fire.outside ∧ s'.cond Ev.paceBelowFloor n ∧ (∃ e ∈ s'.evt.log, e.code = Ev.paceBelowFloor ∧ e.svc = n) ∧ lookup n s'.dev.paceGood = some 0 ∧ (s.mayTune → min 850 (s.par Par.powerVddCoreSet + 10) ≤ s'.par Par.powerVddCoreSet))) ∧
  (∀ (t n a : Nat) (counts : List (List Nat)) (s : State), 1 ≤ n → n ≤ 21 → printPath n → s.ringInUse n 0 → s.ringInUse n 1 = false → s.ringReading counts n 0 = a → 1000 ≤ a → lookup n s.dev.paceGood = some 1 → (s.dev.paceGood.map Prod.fst).Nodup →
    Answers (.paceWindow t counts) s (fun s' => s'.cond Ev.paceBelowFloor n = false ∧ lookup n s'.dev.paceGood = none)) ∧
  (∀ (t v : Nat) (s : State), s.mayTune → s.par Par.powerVddCoreSet = v → 705 ≤ v → v ≤ 850 → s.power.vddLowered + 100000000 ≤ max s.now t →
    Answers (.vddCoreLower t) s (fun s' => s'.par Par.powerVddCoreSet = v - 5 ∧ s'.out = [s.vout (v - 5)] ∧ s'.power = { s.power with vddLowered := max s.now t, vddAt := some (max s.now t) })) ∧
  (∀ (t : Nat) (s : State), s.mayTune = false ∨ s.par Par.powerVddCoreSet < 705 ∨ max s.now t < s.power.vddLowered + 100000000 → Answers (.vddCoreLower t) s (fun s' => s'.params = s.params ∧ s'.power = s.power ∧ s'.out = [])) ∧
  (∀ (t v : Nat) (s : State), s.mayTune → s.wantsPace → s.par Par.powerVddCoreSet = v → 700 ≤ v → v ≤ 845 → s.power.vddRaised + 1000000 ≤ max s.now t →
    Answers (.vddCoreRaise t) s (fun s' => s'.par Par.powerVddCoreSet = v + 5 ∧ s'.out = [s.vout (v + 5)] ∧ s'.power = { s.power with vddRaised := max s.now t, vddAt := some (max s.now t) })) ∧
  (∀ (t : Nat) (s : State), s.mayTune = false ∨ s.wantsPace = false ∨ 845 < s.par Par.powerVddCoreSet ∨ max s.now t < s.power.vddRaised + 1000000 → Answers (.vddCoreRaise t) s (fun s' => s'.params = s.params ∧ s'.power = s.power ∧ s'.out = [])) ∧
  (∀ (t v a : Nat) (ack fault : Bool) (s : State), s.power.vddAt = some a → a + 1000000 ≤ max s.now t → v < 1024 → ack = false ∨ fault ∨ s.par Par.powerVddCoreSet + 10 < v ∨ v + 10 < s.par Par.powerVddCoreSet → s.cond Ev.pmbusFault 0 = false →
    Answers (.readVoutCheck t ack fault v) s (fun s' => s'.cond Ev.pmbusFault 0 ∧ CountsUp (Par.evtCount000 + Ev.pmbusFault) s s' ∧ s'.par Par.powerVddCore = (if ack then v else s.par Par.powerVddCore) ∧ s'.mayTune = false)) ∧
  (∀ (t v a : Nat) (s : State), s.power.vddAt = some a → a + 1000000 ≤ max s.now t → 700 ≤ v → v < 1024 → v ≤ s.par Par.powerVddCoreSet + 10 → s.par Par.powerVddCoreSet ≤ v + 10 →
    Answers (.readVoutCheck t true false v) s (fun s' => s'.cond Ev.pmbusFault 0 = false ∧ s'.par Par.powerVddCore = v ∧ s'.power.vddAt = none ∧ s'.dev.low = false)) ∧
  (∀ (t svc unit n h q ln d : Nat) (l : HeadLine) (g : Seg) (s : State), (islandOf svc unit).isSome → h < s.fire.heads.length → (s.fireHead h).sent = [l] → l.lseq = q → max s.now t < l.fireAt → l.items = [(g.handle, ln, d)] → s.seg g.handle = some g →
    Answers (.islandReset t svc unit n [(h, q)]) s (fun s' => s'.dev.resync = s.dev.resync ++ [(svc, unit, n)] ∧ (s'.fireHead h).sent = [] ∧ ∀ g', s'.seg g.handle = some g' → Ranged g' h ln 5 0)) ∧
  (∀ (t svc unit n : Nat) (s : State), s.dev.resync = [(svc, unit, n)] → s.par Par.devStraitDiscards + n < 2 ^ 32 →
    Answers (.straitResync t svc unit) s (fun s' => s'.dev.resync = [] ∧ s'.stalled = [] ∧ (∀ o ∈ s.stalled, o ∈ s'.out) ∧ s'.par Par.devStraitDiscards = s.par Par.devStraitDiscards + n ∧ CountsUp Par.devStraitResyncs s s' ∧ ∃ e ∈ s'.evt.log, e.record ∧ e.code = 0 ∧ e.svc = svc ∧ e.unit = unit ∧ e.t = (s.at_ t).ring)) ∧
  (∀ (t svc unit : Nat) (s : State), s.dev.resync = [] → Answers (.straitResync t svc unit) s (fun s' => s'.params = s.params ∧ s'.evt = s.evt))

/-- On a sample of three valid sensors every element with a temperature set takes, for each trim, the value of R459 to the nearest step plus its field offset: at or below -40 degrees C the first, at or above +105 degrees C the third, and the first two or last two interpolated between. LTRIG_DLY and GO_DLY keep their outputs until their own boundaries; the other elements take theirs at once. An element that is fused or trimmed is no longer
stale. Tj above 105 degrees C raises EV003, which clears below 100. CAL_STALE after 10 ms keeps the outputs, counts, and raises EV116. (spec/21_calibration_and_self_check.md, spec/22_pins_and_electrical.md) -/
def Obligations.TemperatureRefreshes : Prop :=
  (∀ (t : Nat) (a b c x y z : Int) (s : State), -880 ≤ a → a ≤ b → b ≤ c → c ≤ 2400 → b ≤ a + 80 → c ≤ b + 80 → (x, y, z) ∈ [(a, b, c), (a, c, b), (b, a, c), (b, c, a), (c, a, b), (c, b, a)] → s.cal.trims.length = 9 →
    Answers (.tjSample t x y z) s (fun s' => s'.par Par.calTj = twos 16 b ∧ s'.par Par.calTjValid = 7 ∧ (∀ e, hasTset e = false → s'.trim e = s.trim e) ∧
      ∀ e, 1 ≤ e → e ≤ 6 → (s'.trim e).at_ = max s.now t ∧ (s'.trim e).stale = (!(s.trim e).fused && !(s.trim e).trimmed) ∧ (s'.trim e).out = (if e = 4 ∨ e = 5 then (s.trim e).out else (s'.trim e).next) ∧
        ((s.trim e).tset → (s'.trim e).next.length = (s.trim e).count ∧ ∀ i < (s.trim e).count, ∀ va vb vc v : Int,
          va = nth (s.trim e).values 0 (3 * i) → vb = nth (s.trim e).values 0 (3 * i + 1) → vc = nth (s.trim e).values 0 (3 * i + 2) → v = nth (s'.trim e).next 0 i - (s.trim e).offset →
          (b ≤ -640 → v = va) ∧ (1680 ≤ b → v = vc) ∧ (-640 ≤ b → b ≤ 400 → 2 * ((v - va) * 1040 - (vb - va) * (b + 640)).natAbs ≤ 1040) ∧
          (400 ≤ b → b ≤ 1680 → 2 * ((v - vb) * 1280 - (vc - vb) * (b - 400)).natAbs ≤ 1280)))) ∧
  (∀ (t : Nat) (b : Int) (s : State), 1680 < b → b ≤ 2400 → s.dev.hot = false → Answers (.tjSample t b b b) s (fun s' => s'.dev.hot ∧ s'.fire.outside ∧ s'.cond Ev.tjHigh 0 ∧ CountsUp (Par.evtCount000 + Ev.tjHigh) s s')) ∧
  (∀ (t : Nat) (b : Int) (s : State), -880 ≤ b → b ≤ 2400 → s.dev.hot → Answers (.tjSample t b b b) s (fun s' => s'.dev.hot = decide (1600 ≤ b) ∧ (b < 1600 → s'.cond Ev.tjHigh 0 = false) ∧
    s'.par (Par.evtCount000 + Ev.tjHigh) = s.par (Par.evtCount000 + Ev.tjHigh))) ∧
  (∀ (t e : Nat) (s : State), 1 ≤ e → e ≤ 6 → s.cal.trims.length = 9 → (s.trim e).stale = false → (s.trim e).at_ + 10000000 ≤ max s.now t →
    Answers (.calStale t e) s (fun s' => s'.trim e = { s.trim e with stale := true } ∧ s'.cond Ev.calStale e ∧ CountsUp Par.calStaleEvents s s' ∧ CountsUp (Par.evtCount000 + Ev.calStale) s s' ∧
      ∀ d, d ≠ e → s'.trim d = s.trim d)) ∧
  (∀ (t e : Nat) (s : State), max s.now t < (s.trim e).at_ + 10000000 ∨ (s.trim e).stale → Answers (.calStale t e) s (fun s' => s'.cal = s.cal ∧ s'.evt = s.evt ∧ s'.params = s.params))

/-- A sensor is valid within -55 to +150 degrees C and within 5 degrees C of another, and CAL.TJ_VALID shows which. With three valid sensors CAL.TJ is their median, with two the higher, with one its reading; with none it keeps its value and every element with a temperature set is stale. The condition of EV003 follows this Tj. (R458) -/
def Obligations.TjFromValidSensors : Prop :=
  ∀ (t : Nat) (x y z : Int) (vx vy vz : Bool) (s : State), vx = decide (-880 ≤ x ∧ x ≤ 2400 ∧ ((x - y).natAbs ≤ 80 ∨ (x - z).natAbs ≤ 80)) → vy = decide (-880 ≤ y ∧ y ≤ 2400 ∧ ((y - x).natAbs ≤ 80 ∨ (y - z).natAbs ≤ 80)) →
    vz = decide (-880 ≤ z ∧ z ≤ 2400 ∧ ((z - x).natAbs ≤ 80 ∨ (z - y).natAbs ≤ 80)) → s.cal.trims.length = 9 →
    Answers (.tjSample t x y z) s (fun s' => s'.par Par.calTjValid = bit vx 0 + bit vy 1 + bit vz 2 ∧
      (vx → vy → vz → ∃ m ∈ [x, y, z], s'.par Par.calTj = twos 16 m ∧ 2 ≤ ([x, y, z].filter (fun a => decide (a ≤ m))).length ∧ 2 ≤ ([x, y, z].filter (fun a => decide (m ≤ a))).length) ∧
      (vx → vy → vz = false → s'.par Par.calTj = twos 16 (max x y)) ∧ (vx → vy = false → vz → s'.par Par.calTj = twos 16 (max x z)) ∧ (vx = false → vy → vz → s'.par Par.calTj = twos 16 (max y z)) ∧
      (vx → vy = false → vz = false → s'.par Par.calTj = twos 16 x) ∧ (vx = false → vy → vz = false → s'.par Par.calTj = twos 16 y) ∧ (vx = false → vy = false → vz → s'.par Par.calTj = twos 16 z) ∧
      (vx = false → vy = false → vz = false → s'.par Par.calTj = s.par Par.calTj ∧ s'.dev.hot = s.dev.hot ∧ ∀ e, hasTset e → (s'.trim e).stale ∧ (s'.trim e).out = (s.trim e).out) ∧
      (vx ∨ vy ∨ vz → s'.dev.hot = (if s.dev.hot then decide (1600 ≤ signed 16 (s'.par Par.calTj)) else decide (1680 < signed 16 (s'.par Par.calTj))) ∧
        (s.dev.hot = false → s'.dev.hot → CountsUp (Par.evtCount000 + Ev.tjHigh) s s')))

/-- CAL_VERIFY replies, per named element, with its deviation and its flags, raises EV117 for each beyond tolerance, and changes no trim. CAL_RUN replies 0 for an element that it trimmed, whose field offset is then the negation of the deviation in its steps and which is no longer stale, 1 for one that is not field-trimmable, and 2 with EV117 for a deviation beyond four times the tolerance; delays are refused with 0x0202 and the state while a segment runs. CAL_HOLDUP_TEST drives HOLD_TST high, or is refused with 0x0202 while a segment runs
or below 11,500 mV. A second one waits for the one that runs (the model's choice, log entry 122). Its end stores the capacitance and the ESR of the samples (rounded down, log entry 176), drives HOLD_TST low, raises EV106 below 820 uF or above 50 mOhm, and replies. (spec/21_calibration_and_self_check.md) -/
def Obligations.CalibrationCommands : Prop :=
  (∀ e tol : Nat, (e, tol) ∈ [(0, 20), (1, 200), (4, 5), (5, 5), (6, 20), (7, 50)] → ∀ (k : Nat) (d x : Int), beyond k e (d, x) = decide (k * tol < d.natAbs)) ∧
  (∀ e u w : Nat, (e, u, w) ∈ [(2, 50, 10), (3, 40, 5)] → ∀ (k : Nat) (d x : Int), beyond k e (d, x) = (decide (k * u < d.natAbs) || decide (k * w < x.natAbs))) ∧
  (∀ (t m : Nat) (h : Hdr) (devs : List (Option (Int × Int × Int))) (far : Nat → Bool) (s : State), Taken 0x1402 t h s → learnRight (s.role h.session) .oper = .all → s.owns h.session → m < 65536 →
    (∀ e, far e = (decide (e < 8) && (nth devs none e).elim false (fun d => beyond 1 e (d.1, d.2.1)))) →
    Answers (.calVerify t h (leBytes 4 m) devs) s (fun s' => s'.cal = s.cal ∧ ((maskUnits 16 m).all (fun e => !far e) → s'.evt = s.evt) ∧ ((maskUnits 16 m).filter far ≠ [] → ∃ e ∈ s'.evt.log, e.code = Ev.calDeviation ∧ e.record = false) ∧
      (((maskUnits 16 m).filter far).length = 1 → CountsUp (Par.evtCount000 + Ev.calDeviation) s s') ∧
      Replied h 0x1402 St.ok 0 (.bytes ((maskUnits 16 m).flatMap (fun e => (if 8 ≤ e ∨ nth devs none e = none then leBytes 2 0 ++ leBytes 1 (2 + bit (s.trim e).stale 2)
        else leBytes 2 (twos 16 ((nth devs none e).elim 0 Prod.fst)) ++ leBytes 1 (bit (far e) 0 + bit (s.trim e).stale 2)) ++ [0]))) s')) ∧
  (∀ (t m : Nat) (h : Hdr) (devs : List (Int × Int × Int)) (code : Nat → Nat) (s : State), Taken 0x1401 t h s → mayChange (s.role h.session) .oper → s.owns h.session → m < 65536 → s.runningState = none ∨ (m / 16) % 8 = 0 → s.cal.trims.length = 9 →
    (∀ e, code e = if 4 ≤ e ∧ e ≤ 7 then (if beyond 4 e ((nth devs (0, 0, 0) e).1, (nth devs (0, 0, 0) e).2.1) then 2 else 0) else 1) →
    Answers (.calRun t h (leBytes 4 m) devs) s (fun s' => Replied h 0x1401 St.ok 0 (.bytes (pad4 ((maskUnits 16 m).map (fun e => BitVec.ofNat 8 (code e))))) s' ∧
      (∀ e, e ∈ maskUnits 16 m → code e = 0 → (s'.trim e).offset = -(nth devs (0, 0, 0) e).2.2 ∧ (s'.trim e).trimmed ∧ (s'.trim e).stale = false ∧ (s'.trim e).values = (s.trim e).values ∧
        (e ≤ 5 → (s'.trim e).out = (s.trim e).out) ∧ (6 ≤ e → (s'.trim e).out = (s'.trim e).next)) ∧
      (∀ e, e ∉ maskUnits 16 m ∨ code e ≠ 0 → s'.trim e = s.trim e) ∧ (((maskUnits 16 m).filter (fun e => code e == 2)).length = 1 → CountsUp (Par.evtCount000 + Ev.calDeviation) s s'))) ∧
  (∀ (t m st : Nat) (h : Hdr) (devs : List (Int × Int × Int)) (s : State), Taken 0x1401 t h s → mayChange (s.role h.session) .oper → s.owns h.session → m < 65536 → s.runningState = some st → (m / 16) % 8 ≠ 0 →
    Answers (.calRun t h (leBytes 4 m) devs) s (fun s' => s'.rest = (s.taken t h).rest ∧ Replied h 0x1401 St.segmentState st (.bytes []) s')) ∧
  (∀ (t mv : Nat) (h : Hdr) (s : State), Taken 0x1403 t h s → mayChange (s.role h.session) .oper → s.owns h.session → s.runningState = none → 11500 ≤ mv → mv < 65536 → s.cal.holdup = none →
    Answers (.calHoldupTest t h [] mv) s (fun s' => Out.pin "HOLD_TST" 1 ∈ s'.out ∧ s'.par Par.powerHoldMv = mv ∧ ∃ f ∈ s'.flights, s'.cal = { s.cal with holdup := some ([f.cid], s.par Par.calHoldupLoad) } ∧
      f.session = h.session ∧ f.tag = h.tag ∧ f.opcode = 0x1403)) ∧
  (∀ (t mv load : Nat) (cids : List Nat) (h : Hdr) (s : State), Taken 0x1403 t h s → mayChange (s.role h.session) .oper → s.owns h.session → s.runningState = none → s.cal.holdup = some (cids, load) →
    Answers (.calHoldupTest t h [] mv) s (fun s' => s'.out = [] ∧ ∃ f ∈ s'.flights, s'.cal = { s.cal with holdup := some (cids ++ [f.cid], load) } ∧ f.session = h.session ∧ f.tag = h.tag)) ∧
  (∀ (t mv st : Nat) (h : Hdr) (s : State), Taken 0x1403 t h s → mayChange (s.role h.session) .oper → s.owns h.session → s.runningState = some st →
    Answers (.calHoldupTest t h [] mv) s (fun s' => s'.rest = (s.taken t h).rest ∧ Replied h 0x1403 St.segmentState st (.bytes []) s')) ∧
  (∀ (t mv : Nat) (h : Hdr) (s : State), Taken 0x1403 t h s → mayChange (s.role h.session) .oper → s.owns h.session → s.runningState = none → s.cal.holdup = none → mv < 11500 →
    Answers (.calHoldupTest t h [] mv) s (fun s' => s'.rest = (s.taken t h).rest ∧ Replied h 0x1403 St.segmentState 0 (.bytes []) s')) ∧
  (∀ (t load uf mohm : Nat) (before after cids : List Nat) (s : State), s.cal.holdup = some (cids, load) → holdupC load before after = some uf → holdupR load before after = some mohm →
    Answers (.holdupTestDone t before after () ()) s (fun s' => s'.cal = { s.cal with holdup := none } ∧ Out.pin "HOLD_TST" 0 ∈ s'.out ∧ s'.par Par.calHoldupUf = uf ∧ s'.par Par.calHoldupMohm = mohm ∧
      (820 ≤ uf → mohm ≤ 50 → s'.evt = s.evt) ∧ (uf < 820 ∨ 50 < mohm → CountsUp (Par.evtCount000 + Ev.holdupTestFailed) s s') ∧
      ∀ cid ∈ cids, FinalSent cid St.ok 0 (.bytes (leBytes 2 uf ++ leBytes 2 mohm ++ leBytes 2 (s.power.board.elim 0 Board.holdUf) ++ [0, 0])) s s')) ∧
  (∀ (t : Nat) (before after : List Nat) (s : State), s.cal.holdup = none → Answers (.holdupTestDone t before after () ()) s (fun s' => s'.cal = s.cal ∧ s'.params = s.params ∧ s'.out = []))

/-- TEST_EN high holds every HPEN low, makes DEV.STATE 4 and raises EV118; its fall clears EV118, and HPEN rises again only under R281. A pin-driving instruction current while TEST_EN is high ends the sessions with EV012, finishes the accepted segments as BROKEN, kept for the restart report, ends the open ones, and drives the balls; at low TEST_EN it is only loaded, and the boundary register behaves as under SAMPLE. SAMPLE captures, PRELOAD loads, IDCODE shifts out 0x1A7169A7, CLAMP, HIGHZ and BYPASS select the bypass
register, and Test-Logic-Reset loads IDCODE. The capture of the instruction register holds TEST_EN in bit 2 and all HPEN low in bit 3. (spec/23_boundary_scan_and_test.md) -/
def Obligations.TestAccess : Prop :=
  (∀ (t : Nat) (s : State), s.par Par.testTestEn = 0 → s.par Par.testInstruction ∉ [0, 4, 5, 6, 7] → s.heads.length = 16 →
    Answers (.testEnRise t) s (fun s' => s'.par Par.testTestEn = 1 ∧ s'.par Par.devState = 4 ∧ (∀ h, (s'.head h).hpen = false) ∧ s'.cond Ev.testEnActive 0 ∧ CountsUp (Par.evtCount000 + Ev.testEnActive) s s' ∧
      s'.par Par.testPinDriven = s.par Par.testPinDriven ∧ s'.spool = s.spool)) ∧
  (∀ (t code : Nat) (x : Session) (g : Seg) (s : State), s.par Par.testTestEn = 0 → s.par Par.testPinDriven = 0 → s.par Par.testInstruction = code → code ∈ [0, 4, 5, 6, 7] → s.sessions = [x] → s.spool.segs = [g] → g.live → g.keep = false →
    (∃ h ∈ g.headList, g.passed h < g.lines) → s.spool.done.length < 65536 →
    Answers (.testEnRise t) s (fun s' => s'.par Par.testPinDriven = 1 ∧ s'.sessions = [] ∧ CountsUp (Par.evtCount000 + Ev.sessionLost) s s' ∧ s'.spool.segs = [] ∧ (∃ d ∈ s'.spool.done, d.handle = g.handle ∧ d.state = Sg.broken) ∧
      (∃ d ∈ s'.power.driven, d.handle = g.handle) ∧ CountsUp Par.spoolSegBroken s s' ∧ ∃ what, Out.pin what s.test.boundary ∈ s'.out)) ∧
  (∀ (t : Nat) (s : State), s.par Par.testTestEn = 1 → Answers (.testEnRise t) s (fun s' => s'.params = s.params ∧ s'.evt = s.evt ∧ s'.out = [])) ∧
  (∀ (t : Nat) (s : State), s.par Par.testTestEn = 1 → s.par Par.testPinDriven = 0 → Answers (.testEnFall t) s (fun s' => s'.par Par.testTestEn = 0 ∧ s'.par Par.devState ≠ 4 ∧ s'.cond Ev.testEnActive 0 = false ∧ s'.spool = s.spool ∧ s'.sessions = s.sessions)) ∧
  (∀ (t : Nat) (s : State), s.par Par.testTestEn = 1 → s.par Par.testPinDriven = 1 → s.heads.length = 16 → Answers (.testEnFall t) s (fun s' => s'.par Par.testTestEn = 0 ∧ s'.cond Ev.testEnActive 0 = false ∧ ∀ h, (s'.head h).hpen = false)) ∧
  (∀ (t : Nat) (s : State), Answers (.tapReset t) s (fun s' => s'.par Par.testInstruction = 3 ∧ s'.out = [] ∧ ∀ id, id ≠ Par.testInstruction → s'.par id = s.par id)) ∧
  (∀ (t : Nat) (s : State), ScanOn s → Answers (.idcode t) s (fun s' => s'.par Par.testInstruction = 3 ∧ s'.out = [.scan 0 (1 + bit (s.par Par.testTestEn == 1) 2 + bit (s.heads.all (fun x => !x.hpen)) 3), .scan 2 0x1A7169A7] ∧
    s'.spool = s.spool ∧ s'.evt = s.evt ∧ s'.test.boundary = s.test.boundary)) ∧
  (∀ (t c : Nat) (s : State), ScanOn s → Answers (.sample t c) s (fun s' => s'.par Par.testInstruction = 1 ∧ s'.out = [.scan 0 s'.test.irCapture, .scan 3 (c % 2 ^ 994)] ∧ s'.test.captured = c % 2 ^ 994 ∧ s'.test.boundary = s.test.boundary ∧
    s'.spool = s.spool ∧ s'.evt = s.evt ∧ s'.heads = s.heads)) ∧
  (∀ (t c v : Nat) (s : State), Answers (.preload t c v) s (fun s' => s'.par Par.testInstruction = 2 ∧ s'.test.captured = c % 2 ^ 994 ∧ s'.test.boundary = v % 2 ^ 994 ∧ s'.spool = s.spool ∧ s'.evt = s.evt ∧ s'.heads = s.heads)) ∧
  (∀ (t code : Nat) (s : State), 8 ≤ code → code < 256 → ScanOn s → Answers (.bypass t code) s (fun s' => s'.par Par.testInstruction = code ∧ s'.out = [.scan 0 s'.test.irCapture, .scan 1 0] ∧ s'.spool = s.spool ∧ s'.evt = s.evt ∧ s'.heads = s.heads)) ∧
  (∀ (t c v : Nat) (s : State), ScanOn s → s.par Par.testTestEn = 0 →
    Answers (.extest t c v) s (fun s' => s'.par Par.testInstruction = 0 ∧ s'.test.captured = c % 2 ^ 994 ∧ s'.test.boundary = s.test.boundary ∧ s'.out = [.scan 0 s'.test.irCapture, .scan 3 (c % 2 ^ 994)] ∧ s'.spool = s.spool ∧ s'.evt = s.evt) ∧
    Answers (.extestPulse t c v) s (fun s' => s'.par Par.testInstruction = 6 ∧ s'.test.captured = c % 2 ^ 994 ∧ s'.test.boundary = s.test.boundary ∧ s'.out = [.scan 0 s'.test.irCapture, .scan 3 (c % 2 ^ 994)] ∧ s'.spool = s.spool ∧ s'.evt = s.evt) ∧
    Answers (.extestTrain t c v) s (fun s' => s'.par Par.testInstruction = 7 ∧ s'.test.captured = c % 2 ^ 994 ∧ s'.test.boundary = s.test.boundary ∧ s'.out = [.scan 0 s'.test.irCapture, .scan 3 (c % 2 ^ 994)] ∧ s'.spool = s.spool ∧ s'.evt = s.evt)) ∧
  (∀ (t c v : Nat) (s : State), ScanOn s → s.par Par.testTestEn = 1 →
    Answers (.extest t c v) s (fun s' => s'.par Par.testInstruction = 0 ∧ s'.par Par.testPinDriven = 1 ∧ s'.test.boundary = v % 2 ^ 994 ∧ Out.pin "EXTEST" (v % 2 ^ 994) ∈ s'.out ∧ Out.scan 3 (c % 2 ^ 994) ∈ s'.out) ∧
    Answers (.extestPulse t c v) s (fun s' => s'.par Par.testInstruction = 6 ∧ s'.par Par.testPinDriven = 1 ∧ s'.test.boundary = v % 2 ^ 994 ∧ Out.pin "EXTEST_PULSE" (v % 2 ^ 994) ∈ s'.out) ∧
    Answers (.extestTrain t c v) s (fun s' => s'.par Par.testInstruction = 7 ∧ s'.par Par.testPinDriven = 1 ∧ s'.test.boundary = v % 2 ^ 994 ∧ Out.pin "EXTEST_TRAIN" (v % 2 ^ 994) ∈ s'.out) ∧
    Answers (.clamp t) s (fun s' => s'.par Par.testInstruction = 4 ∧ s'.par Par.testPinDriven = 1 ∧ s'.test.boundary = s.test.boundary ∧ Out.scan 1 0 ∈ s'.out ∧ Out.pin "CLAMP" s.test.boundary ∈ s'.out) ∧
    Answers (.highz t) s (fun s' => s'.par Par.testInstruction = 5 ∧ s'.par Par.testPinDriven = 1 ∧ s'.test.boundary = s.test.boundary ∧ Out.scan 1 0 ∈ s'.out ∧ Out.pin "HIGHZ" s.test.boundary ∈ s'.out)) ∧
  (∀ (t : Nat) (s : State), ScanOn s → s.par Par.testTestEn = 0 →
    Answers (.clamp t) s (fun s' => s'.par Par.testInstruction = 4 ∧ s'.out = [.scan 0 s'.test.irCapture, .scan 1 0] ∧ s'.spool = s.spool ∧ s'.evt = s.evt) ∧
    Answers (.highz t) s (fun s' => s'.par Par.testInstruction = 5 ∧ s'.out = [.scan 0 s'.test.irCapture, .scan 1 0] ∧ s'.spool = s.spool ∧ s'.evt = s.evt))

/-- TEST_BIST replies a byte for every unit of each target of its mask, 0 where the unit passed and 2 where it did not run, and changes nothing else but its counters; a unit that fails draws 1 and EV119 and goes out of service. A mask bit outside the table draws 0x0101; the targets INFLATE and STORES beside a segment that prints draw 0x0202 with its state. TEST_CAPTURE starts at the next microsecond, without the capture held before; an encoder that is not in sin/cos mode draws 0x0202, an unlisted point 0x0108 and a bad length 0x0101. Once every
sample is taken they are held for the session, and the first 8,192 bytes go to the pack engine; the reply has LEN, POINT, the flag, T_START and those bytes, packed where that is shorter. (spec/23_boundary_scan_and_test.md) -/
def Obligations.SelfTestsAndCaptures : Prop :=
  (∀ (s : State), (s.bistUnits 0).map Prod.fst = List.range 32 ∧ (s.bistUnits 1).map Prod.fst = List.range 32 ∧ (s.bistUnits 2).map Prod.fst = List.range 8 ∧ (s.bistUnits 3).map Prod.fst = [0] ∧ s.bistUnits 4 = (List.range 16).map (fun u => (u, 0)) ∧
    (s.bistUnits 5).length ≤ 64 ∧ s.bistUnits 6 = (List.range 4).map (fun u => (u, if s.par (Par.at_ Par.camUEnable u) = 1 then 2 else 0))) ∧
  (∀ (t m : Nat) (h : Hdr) (s : State), Taken 0x1501 t h s → mayChange (s.role h.session) .oper → s.owns h.session → m < 128 → s.spool.segs.all (fun g => !g.live && g.state != Sg.retained) → bitAt m 3 = false ∨ s.pack.jobs = [] →
    Answers (.testBist t h (leBytes 4 m) []) s (fun s' => s'.rest = (s.taken t h).rest ∧ s'.evt = s.evt ∧ s'.par Par.testBistFails = s.par Par.testBistFails ∧
      Replied h 0x1501 St.ok 0 (.bytes (pad4 (((maskUnits 7 m).flatMap s.bistUnits).map (fun u => BitVec.ofNat 8 u.2)))) s')) ∧
  (∀ (t k u : Nat) (h : Hdr) (s : State), Taken 0x1501 t h s → mayChange (s.role h.session) .oper → s.owns h.session → k < 7 → (u, 0) ∈ s.bistUnits k → (k = 5 → s.bistPods.Nodup) → (k = 3 → s.pack.jobs = []) → s.spool.segs = [] → s.insp.engines.length = 8 → s.heads.length = 16 →
    Answers (.testBist t h (leBytes 4 (2 ^ k)) [(k, u)]) s (fun s' => CountsUp (Par.evtCount000 + Ev.bistFailed) s s' ∧ CountsUp Par.testBistFails s s' ∧
      (k = 0 → bitAt s'.spool.inflateUnits u = false) ∧ (k = 1 → bitAt s'.spool.checkUnits u = false) ∧ (k = 2 → (s'.engine u).out) ∧ (k = 3 → s'.pack.out) ∧ (k = 4 → (s'.head u).out ∧ (s'.head u).hpen = false) ∧ (k = 5 → u ∈ s'.spool.retired) ∧
      Replied h 0x1501 St.ok 0 (.bytes (pad4 ((s.bistUnits k).map (fun v => BitVec.ofNat 8 (if v.1 = u then 1 else v.2))))) s')) ∧
  (∀ (t m : Nat) (h : Hdr) (failed : List (Nat × Nat)) (s : State), Taken 0x1501 t h s → 128 ≤ m → m < 2 ^ 32 → Answers (.testBist t h (leBytes 4 m) failed) s (fun s' => s'.rest = (s.taken t h).rest ∧ Replied h 0x1501 St.valueRange 8 (.bytes []) s')) ∧
  (∀ (t m : Nat) (h : Hdr) (failed : List (Nat × Nat)) (g : Seg) (s : State), Taken 0x1501 t h s → mayChange (s.role h.session) .oper → s.owns h.session → m < 128 → bitAt m 0 ∨ bitAt m 4 → s.spool.segs = [g] → g.state = Sg.printing ∨ g.state = Sg.inHorizon →
    Answers (.testBist t h (leBytes 4 m) failed) s (fun s' => s'.rest = (s.taken t h).rest ∧ Replied h 0x1501 St.segmentState g.state (.bytes []) s')) ∧
  (∀ (t p n : Nat) (h : Hdr) (s : State), Taken 0x1502 t h s → mayChange (s.role h.session) .oper → s.owns h.session → 1 ≤ p → p ≤ 5 → 4 ≤ n → n ≤ 1048576 → n % 4 = 0 → p ≤ 2 → s.par (Par.at_ Par.posUMode (p - 1)) = 2 →
    Answers (.testCapture t h (leBytes 1 p ++ [0, 0, 0] ++ leBytes 4 n)) s (fun s' => (∃ f ∈ s'.flights, f.session = h.session ∧ f.tag = h.tag ∧ s'.test.captures = s.test.captures ++ [⟨f.cid, h.session, p, n, ((s.at_ t).ring / 1000 + 1) * 1000⟩]) ∧
       ∀ x ∈ s'.sessions, x.num = h.session → x.capture = [])) ∧
  (∀ (t p n : Nat) (h : Hdr) (s : State), Taken 0x1502 t h s → mayChange (s.role h.session) .oper → s.owns h.session → 3 ≤ p → p ≤ 5 → 4 ≤ n → n ≤ 1048576 → n % 4 = 0 →
    Answers (.testCapture t h (leBytes 1 p ++ [0, 0, 0] ++ leBytes 4 n)) s (fun s' => (∃ f ∈ s'.flights, f.session = h.session ∧ f.tag = h.tag ∧ s'.test.captures = s.test.captures ++ [⟨f.cid, h.session, p, n, ((s.at_ t).ring / 1000 + 1) * 1000⟩]) ∧
       ∀ x ∈ s'.sessions, x.num = h.session → x.capture = [])) ∧
  (∀ (t p n : Nat) (h : Hdr) (s : State), Taken 0x1502 t h s → mayChange (s.role h.session) .oper → s.owns h.session → 1 ≤ p → p ≤ 2 → 4 ≤ n → n ≤ 1048576 → n % 4 = 0 → s.par (Par.at_ Par.posUMode (p - 1)) ≠ 2 →
    Answers (.testCapture t h (leBytes 1 p ++ [0, 0, 0] ++ leBytes 4 n)) s (fun s' => s'.rest = (s.taken t h).rest ∧ Replied h 0x1502 St.segmentState 0 (.bytes []) s')) ∧
  (∀ (t p n : Nat) (h : Hdr) (s : State), Taken 0x1502 t h s → p < 256 → n < 2 ^ 32 → p = 0 ∨ 5 < p →
    Answers (.testCapture t h (leBytes 1 p ++ [0, 0, 0] ++ leBytes 4 n)) s (fun s' => s'.rest = (s.taken t h).rest ∧ Replied h 0x1502 St.badEnum 8 (.bytes []) s')) ∧
  (∀ (t p n : Nat) (h : Hdr) (s : State), Taken 0x1502 t h s → 1 ≤ p → p ≤ 5 → n < 2 ^ 32 → n < 4 ∨ 1048576 < n ∨ n % 4 ≠ 0 →
    Answers (.testCapture t h (leBytes 1 p ++ [0, 0, 0] ++ leBytes 4 n)) s (fun s' => s'.rest = (s.taken t h).rest ∧ Replied h 0x1502 St.valueRange 12 (.bytes []) s')) ∧
  (∀ (t cid sn p n start : Nat) (d : List Byte) (s : State), s.test.captures = [⟨cid, sn, p, n, start⟩] → n ≤ d.length → start + captureNs p n ≤ (s.at_ t).ring →
    Answers (.captureComplete t cid d) s (fun s' => s'.test.captures = [] ∧ (∀ x ∈ s'.sessions, x.num = sn → x.capture = d.take n) ∧
      (s.pack.out → s'.pack = s.pack ∧ FinalSent cid St.ok 0 (.bytes (leBytes 4 n ++ leBytes 1 p ++ [0, 0, 0] ++ leBytes 8 start ++ pad4 ((d.take n).take 8192))) s s') ∧
      (s.pack.out = false → s'.pack.jobs = s.pack.jobs ++ [⟨cid, sn, 0, 1, 0, .capture p start n, 0, ((d.take n).take 8192).length, 2 ^ 32, (d.take n).take 8192, 0, false, none⟩]))) ∧
  (∀ (t cid sn p n start : Nat) (d : List Byte) (s : State), s.test.captures = [⟨cid, sn, p, n, start⟩] → d.length < n ∨ (s.at_ t).ring < start + captureNs p n →
    Answers (.captureComplete t cid d) s (fun s' => s'.test = s.test ∧ s'.sessions = s.sessions ∧ s'.out = [])) ∧
  (∀ (t p n start : Nat) (j : PackJob) (s : State), s.pack.jobs.find? PackJob.running = some j → s.saveMode = false → s.test.bist = [] → j.op = 1 → j.source = 0 → j.use = .capture p start n → j.count ≤ j.limit → (packOut j.data).length ≤ j.limit →
    Answers (.packJobComplete t true) s (fun s' =>
      ((packOut j.data).length < j.data.length → FinalSent j.cid St.ok 0 (.bytes (leBytes 4 n ++ leBytes 1 p ++ [1, 0, 0] ++ leBytes 8 start ++ pad4 (packOut j.data))) s s') ∧
      (j.data.length ≤ (packOut j.data).length → FinalSent j.cid St.ok 0 (.bytes (leBytes 4 n ++ leBytes 1 p ++ [0, 0, 0] ++ leBytes 8 start ++ pad4 j.data)) s s'))) ∧
  (∀ (t cid : Nat) (d : List Byte) (s : State), s.test.captures.all (fun r => r.cid != cid) → Answers (.captureComplete t cid d) s (fun s' => s'.test = s.test ∧ s'.sessions = s.sessions ∧ s'.out = []))

/-- MGMT_ATTN_N is a function of the state: driven low while bit 0 of MGMT.ATTN_MASK is set and a TM mailbox is FULL, or bit 1 and a TM doorbell is set, or bit 2 and a TH acknowledge awaits ACK_READ, and floating otherwise. (R429) -/
def Obligations.AttentionOutput : Prop :=
  ∀ s : State, s.attnLow = true ↔ (bitAt (s.par Par.mgmtAttnMask) 0 ∧ ∃ m ∈ s.mgmt.tm, m.state = 1) ∨ (bitAt (s.par Par.mgmtAttnMask) 1 ∧ s.mgmt.tmBells ≠ 0) ∨ (bitAt (s.par Par.mgmtAttnMask) 2 ∧ ∃ m ∈ s.mgmt.th, m.state = 3)

/-- From every state and with every body, taken or refused or waiting, each command that only reads leaves the state as it was, but for the time, the session and the lease that its packet renews, its place among the commands in flight and the results, and what carries its reply. (Frame of these commands.) (spec/04_commands.md) -/
def Obligations.ReadsChangeNothing : Prop :=
  ∀ (t : Nat) (h : Hdr) (b : List Byte) (s : State),
    Answers (.devParamRead t h b) s (fun s' => s'.beyondReads = s.beyondReads) ∧
    Answers (.devStageRead t h b) s (fun s' => s'.beyondReads = s.beyondReads) ∧
    Answers (.devResultRead t h b) s (fun s' => s'.beyondReads = s.beyondReads) ∧
    Answers (.devStatus t h b) s (fun s' => s'.beyondReads = s.beyondReads) ∧
    Answers (.devEcho t h b) s (fun s' => s'.beyondReads = s.beyondReads) ∧
    Answers (.fresyPortStatus t h b) s (fun s' => s'.beyondReads = s.beyondReads) ∧
    Answers (.fresySessionList t h b) s (fun s' => s'.beyondReads = s.beyondReads) ∧
    Answers (.ownPinList t h b) s (fun s' => s'.beyondReads = s.beyondReads) ∧
    Answers (.spoolSegStatus t h b) s (fun s' => s'.beyondReads = s.beyondReads) ∧
    Answers (.spoolRecordRead t h b) s (fun s' => s'.beyondReads = s.beyondReads) ∧
    Answers (.spoolAccountRead t h b) s (fun s' => s'.beyondReads = s.beyondReads) ∧
    Answers (.dramStatus t h b) s (fun s' => s'.beyondReads = s.beyondReads) ∧
    Answers (.dramErrorRead t h b) s (fun s' => s'.beyondReads = s.beyondReads) ∧
    Answers (.decodeStatus t h b) s (fun s' => s'.beyondReads = s.beyondReads) ∧
    Answers (.compLedgerRead t h b) s (fun s' => s'.beyondReads = s.beyondReads) ∧
    Answers (.posStatus t h b) s (fun s' => s'.beyondReads = s.beyondReads) ∧
    Answers (.fireStatus t h b) s (fun s' => s'.beyondReads = s.beyondReads) ∧
    Answers (.laneStatus t h b) s (fun s' => s'.beyondReads = s.beyondReads) ∧
    Answers (.camStatus t h b) s (fun s' => s'.beyondReads = s.beyondReads) ∧
    Answers (.camStatsRead t h b) s (fun s' => s'.beyondReads = s.beyondReads) ∧
    Answers (.inspStatsRead t h b) s (fun s' => s'.beyondReads = s.beyondReads) ∧
    Answers (.inspCoverageRead t h b) s (fun s' => s'.beyondReads = s.beyondReads) ∧
    Answers (.causeStatus t h b) s (fun s' => s'.beyondReads = s.beyondReads) ∧
    Answers (.causeMemberList t h b) s (fun s' => s'.beyondReads = s.beyondReads) ∧
    Answers (.evtLogRead t h b) s (fun s' => s'.beyondReads = s.beyondReads) ∧
    Answers (.powerStatus t h b) s (fun s' => s'.beyondReads = s.beyondReads) ∧
    Answers (.powerRestartReport t h b) s (fun s' => s'.beyondReads = s.beyondReads) ∧
    ∀ o n : Nat, Answers (.shellCertRead t h b o n) s (fun s' => s'.beyondReads = s.beyondReads)

/-- From every state whose parameter store is canonical (identifiers strictly rise, and no entry holds its reset value), whatever command stands at the front of the queue, a step that answers a next state answers one whose parameter store is canonical: equal parameters stay equal data. (spec/04_commands.md, spec/24_parameter_groups.md) -/
def Obligations.StepKeepsCanonicalParameters : Prop :=
  ∀ s s' : State, s.canonical = true → step s = .next s' → s'.canonical = true

/-- After reset the parameter store is canonical and lists nothing, so that every parameter reads its reset value, no command waits in the queue, no session is open and no segment is tracked. (spec/04_commands.md, spec/24_parameter_groups.md) -/
def Obligations.ResetIsCanonical : Prop :=
  State.reset.canonical = true ∧ State.reset.params = [] ∧ (∀ id, State.reset.par id = resetVal id) ∧ State.reset.pending = [] ∧ State.reset.sessions = [] ∧ State.reset.spool.segs = [] ∧ State.reset.flights = []
end

