-- ==== Sys2Proof/Laws/Store.lean ====
section
/-! SUPPORT. Laws of the sparse stores: a read after a write, and the canonical form that every write keeps. -/
namespace Sys2Proof.Machine

variable {V : Type} (d : Nat → V)

theorem mget_filter_self (k : Nat) (m : List (Nat × V)) : mget d (m.filter (fun e => e.1 ≠ k)) k = d k := by
  induction m with
  | nil => rfl
  | cons e m ih =>
    by_cases h : e.1 = k
    · simpa [List.filter_cons, h] using ih
    · simpa [List.filter_cons, h, mget] using ih

theorem mget_filter_ne (k j : Nat) (h : j ≠ k) (m : List (Nat × V)) : mget d (m.filter (fun e => e.1 ≠ k)) j = mget d m j := by
  induction m with
  | nil => rfl
  | cons e m ih =>
    by_cases hk : e.1 = k
    · have hj : e.1 ≠ j := fun x => h (x.symm.trans hk)
      simpa [List.filter_cons, hk, mget, Ne.symm h] using ih
    · by_cases hj : e.1 = j
      · simp [mget, hj, h]
      · simpa [List.filter_cons, hk, mget, hj] using ih

theorem mget_mput_self (k : Nat) (v : V) (m : List (Nat × V)) : mget d (mput k v m) k = v := by
  induction m with
  | nil => simp [mput, mget]
  | cons e m ih =>
    unfold mput
    split
    · simp [mget]
    · split
      · simp [mget]
      · next h => simpa [mget, h] using ih

theorem mget_mput_ne (k j : Nat) (h : j ≠ k) (v : V) (m : List (Nat × V)) : mget d (mput k v m) j = mget d m j := by
  induction m with
  | nil => simp [mput, mget, Ne.symm h]
  | cons e m ih =>
    unfold mput
    split
    · simp [mget, Ne.symm h]
    · split
      · next hk => simp [mget, Ne.symm h, hk]
      · simp [mget, ih]

variable [DecidableEq V]

/-- A read of the key that was written gives the value written. -/
@[simp] theorem mget_mset_self (k : Nat) (v : V) (m : List (Nat × V)) : mget d (mset d k v m) k = v := by
  unfold mset
  split
  · next h => rw [mget_filter_self, h]
  · exact mget_mput_self d k v m

/-- A read of another key gives what it gave. -/
theorem mget_mset_ne (k j : Nat) (h : j ≠ k) (v : V) (m : List (Nat × V)) : mget d (mset d k v m) j = mget d m j := by
  unfold mset
  split
  · exact mget_filter_ne d k j h m
  · exact mget_mput_ne d k j h v m

theorem mwfFrom_mono (lo hi : Nat) (h : lo ≤ hi) (m : List (Nat × V)) (w : mwfFrom d hi m) : mwfFrom d lo m := by
  cases m with
  | nil => rfl
  | cons e m =>
    simp only [mwfFrom, Bool.and_eq_true, decide_eq_true_eq] at w ⊢
    exact ⟨⟨by omega, w.1.2⟩, w.2⟩

theorem mwfFrom_filter (p : Nat × V → Bool) (m : List (Nat × V)) : ∀ lo, mwfFrom d lo m → mwfFrom d lo (m.filter p) := by
  induction m with
  | nil => intro lo _; rfl
  | cons e m ih =>
    intro lo w
    simp only [mwfFrom, Bool.and_eq_true, decide_eq_true_eq] at w
    by_cases hp : p e
    · simp only [List.filter_cons, hp, if_true, mwfFrom, Bool.and_eq_true, decide_eq_true_eq]
      exact ⟨w.1, ih _ w.2⟩
    · simp only [List.filter_cons, hp]
      exact mwfFrom_mono d lo (e.1 + 1) (by omega) _ (ih _ w.2)

theorem mwfFrom_mput (k : Nat) (v : V) (hv : v ≠ d k) (m : List (Nat × V)) :
    ∀ lo, lo ≤ k → mwfFrom d lo m → mwfFrom d lo (mput k v m) := by
  induction m with
  | nil => intro lo h _; simp [mput, mwfFrom, h, hv]
  | cons e m ih =>
    intro lo h w
    simp only [mwfFrom, Bool.and_eq_true, decide_eq_true_eq] at w
    unfold mput
    split
    · next hk => simp only [mwfFrom, Bool.and_eq_true, decide_eq_true_eq]; exact ⟨⟨h, by simp [hv]⟩, ⟨by omega, w.1.2⟩, w.2⟩
    · split
      · next hk => simp only [mwfFrom, Bool.and_eq_true, decide_eq_true_eq]; exact ⟨⟨h, by simp [hv]⟩, by rw [← hk]; exact w.2⟩
      · next h1 h2 =>
        simp only [mwfFrom, Bool.and_eq_true, decide_eq_true_eq]
        exact ⟨w.1, ih _ (by omega) w.2⟩

/-- A write keeps the canonical form. -/
theorem mwf_mset (k : Nat) (v : V) (m : List (Nat × V)) (w : mwf d m) : mwf d (mset d k v m) := by
  unfold mset
  split
  · exact mwfFrom_filter d _ m 0 w
  · next h => exact mwfFrom_mput d k v h m 0 (Nat.zero_le _) w

/-- Removing entries keeps the canonical form. -/
theorem mwf_filter (p : Nat × V → Bool) (m : List (Nat × V)) (w : mwf d m) : mwf d (m.filter p) := mwfFrom_filter d p m 0 w

/-! Parameters. -/

@[simp] theorem State.par_setPar_self (id v : Nat) (s : State) : (s.setPar id v).par id = v := mget_mset_self _ _ _ _

theorem State.par_setPar_ne (id j v : Nat) (h : j ≠ id) (s : State) : (s.setPar id v).par j = s.par j :=
  mget_mset_ne _ _ _ h _ _

end Sys2Proof.Machine
end

