-- ==== Sys2Proof/Laws/Comms.lean ====
section
/-! SUPPORT. What the operations that log, raise, send and reply can touch: events, parameters (counters), sessions, ports, the Causeway
counter and summaries, and what was sent. Everything else of a state, its `rest`, stays. -/
namespace Sys2Proof.Machine

@[simp] theorem State.rest_setPar (id v : Nat) (s : State) : (s.setPar id v).rest = s.rest := rfl
@[simp] theorem State.rest_bump (id n : Nat) (s : State) : (s.bump id n).rest = s.rest := rfl
@[simp] theorem State.rest_emit (o : Out) (s : State) : (s.emit o).rest = s.rest := rfl
@[simp] theorem State.rest_modFlight (cid : Nat) (f : Flight → Flight) (s : State) : (s.modFlight cid f).rest = s.rest := rfl
@[simp] theorem State.rest_happen (s : State) : s.happen.rest = s.rest := rfl
@[simp] theorem State.rest_modSession (n : Nat) (f : Session → Session) (s : State) : (s.modSession n f).rest = s.rest := rfl
@[simp] theorem State.rest_addEntry (n : Nat) (e : LogEntry) (s : State) : (s.addEntry n e).rest = s.rest := rfl

@[simp] theorem State.rest_when (c : Bool) (f : State → State) (h : ∀ s, (f s).rest = s.rest) (s : State) :
    (s.when c f).rest = s.rest := by
  unfold State.when; split <;> simp [h]

theorem State.rest_each {α : Type} (f : α → State → State) (h : ∀ x s, (f x s).rest = s.rest) (xs : List α) :
    ∀ s : State, (s.each xs f).rest = s.rest := by
  induction xs with
  | nil => intro s; rfl
  | cons x xs ih => intro s; exact (ih (f x s)).trans (h x s)

@[simp] theorem State.rest_setIf (c : Bool) (id v : Nat) (s : State) : (s.setIf c id v).rest = s.rest := by
  unfold State.setIf; split <;> rfl

/-- A change of a lane that leaves what sending does not touch leaves the rest. -/
theorem State.rest_modLane (u : Nat) (f : Lane → Lane) (h : ∀ l, (f l).still = l.still) (s : State) : (s.modLane u f).rest = s.rest := by
  have : (modNth f u s.lanes).map Lane.still = s.lanes.map Lane.still := by
    generalize s.lanes = ls
    induction ls generalizing u with
    | nil => cases u <;> rfl
    | cons l ls ih => cases u <;> simp [modNth, h, ih]
  simp only [State.rest, State.modLane, this]

@[simp] theorem State.rest_lineOut (u : Nat) (f : Tx → Tx) (s : State) : (s.lineOut u f).rest = s.rest := by
  unfold State.lineOut; dsimp only
  rw [State.rest_emit]
  apply State.rest_modLane
  intro l; rfl

@[simp] theorem State.rest_frameOut (u : Nat) (p : List Byte) (s : State) : (s.frameOut u p).rest = s.rest := by
  unfold State.frameOut
  rw [State.rest_bump, State.rest_modLane, State.rest_lineOut]
  intro l; rfl

@[simp] theorem State.rest_sendOn (lanes : List Nat) (fr : List Byte) (s : State) : (s.sendOn lanes fr).rest = s.rest := by
  unfold State.sendOn; refine State.rest_each _ ?_ _ s; intro x s; simp

@[simp] theorem State.rest_sendFrameGen (lanes : List Nat) (gen ftype dst : Nat) (p : List Byte) (s : State) :
    (s.sendFrameGen lanes gen ftype dst p).rest = s.rest := by
  unfold State.sendFrameGen; simp only [State.rest_sendOn]; rfl

@[simp] theorem State.rest_sendRing (ftype dst : Nat) (p : List Byte) (s : State) : (s.sendRing ftype dst p).rest = s.rest :=
  State.rest_sendFrameGen _ _ _ _ _ s

@[simp] theorem State.rest_summarise (ev svc unit : Nat) (s : State) : (s.summarise ev svc unit).rest = s.rest := by
  unfold State.summarise
  dsimp only
  repeat' split
  all_goals first | rfl | (unfold State.sendSummary; rw [State.rest_sendRing]; rfl)

@[simp] theorem State.rest_deliver (opener n : Nat) (e : LogEntry) (s : State) : (s.deliver opener n e).rest = s.rest := by
  unfold State.deliver
  exact (State.rest_when _ _ (fun s => State.rest_bump _ _ s) _).trans rfl

@[simp] theorem State.rest_latch (r : EvRow) (u : Nat) (s : State) : (s.latch r u).rest = s.rest := by
  unfold State.latch; split <;> rfl

@[simp] theorem State.rest_pulsePins (r : EvRow) (s : State) : (s.pulsePins r).rest = s.rest := by
  unfold State.pulsePins; split <;> rfl

@[simp] theorem State.rest_raiseCore (svc ev unit key t opener : Nat) (args : List Byte) (s : State) :
    (s.raiseCore svc ev unit key t opener args).rest = s.rest := by
  unfold State.raiseCore; split <;> simp

@[simp] theorem State.rest_raiseFull (svc ev unit t opener : Nat) (args : List Byte) (s : State) :
    (s.raiseFull svc ev unit t opener args).rest = s.rest := State.rest_raiseCore _ _ _ _ _ _ _ _

@[simp] theorem State.rest_raiseKeyed (ev unit key : Nat) (args : List Byte) (s : State) :
    (s.raiseKeyed ev unit key args).rest = s.rest := State.rest_raiseCore _ _ _ _ _ _ _ _

/-- Raising an event touches none of a state's rest. -/
@[simp] theorem State.rest_raise (ev unit : Nat) (args : List Byte) (s : State) : (s.raise ev unit args).rest = s.rest :=
  State.rest_raiseCore _ _ _ _ _ _ _ _

@[simp] theorem State.rest_raiseLimited (ev unit key : Nat) (args : List Byte) (s : State) :
    (s.raiseLimited ev unit key args).rest = s.rest := by
  unfold State.raiseLimited; split
  · split
    · rfl
    · simp only [State.rest_raise]; rfl
  · simp only [State.rest_raise]; rfl

@[simp] theorem State.rest_endCond (ev unit : Nat) (s : State) : (s.endCond ev unit).rest = s.rest := by
  unfold State.endCond; simp only; split <;> rfl

/-- A log record touches none of a state's rest. -/
@[simp] theorem State.rest_record (code svc unit : Nat) (args : List Byte) (s : State) : (s.record code svc unit args).rest = s.rest := by
  unfold State.record; simp

@[simp] theorem State.rest_sendFrame (n port ftype seq : Nat) (rtx : Bool) (p : Option Payload) (s : State) :
    (s.sendFrame n port ftype seq rtx p).rest = s.rest := by
  unfold State.sendFrame; split
  · rfl
  · rfl

theorem State.rest_flush (fuel : Nat) : ∀ (n : Nat) (s : State), (State.flush fuel n s).rest = s.rest := by
  induction fuel with
  | zero => intro n s; rfl
  | succ k ih =>
    intro n s
    unfold State.flush
    split
    · rfl
    · split
      · simp only
        split
        · rfl
        · rw [ih]; simp
      · rfl

@[simp] theorem State.rest_transmit (n : Nat) (p : Payload) (s : State) : (s.transmit n p).rest = s.rest := by
  unfold State.transmit; simp only [State.rest_flush]; rfl

/-- Sending a reply touches none of a state's rest. -/
@[simp] theorem State.rest_sendReply (n : Nat) (r : Reply) (s : State) : (s.sendReply n r).rest = s.rest := by
  unfold State.sendReply; simp

/-! Ending a command: what a reply and a change of the flights, results and readings leave, the end of a command leaves. -/

section ends
variable {α : Type} (φ : State → α)
  (hr : ∀ n r s, φ (s.sendReply n r) = φ s)
  (hf : ∀ (s : State) fl rs rd, φ { s with flights := fl, results := rs, readings := rd } = φ s)

include hr hf

theorem State.sendPending_keeps (cid : Nat) (s : State) : φ (s.sendPending cid) = φ s := by
  unfold State.sendPending
  split
  · rfl
  · split
    · rfl
    · dsimp only [State.readProgress, State.modFlight]
      unfold State.when
      split
      · rw [hr]; exact hf _ _ _ _
      · exact hf _ _ _ _

theorem State.pendingDue_keeps (s : State) : φ s.pendingDue = φ s := by
  unfold State.pendingDue State.each
  generalize (s.flights.filter _).map Flight.cid = l
  induction l generalizing s with
  | nil => rfl
  | cons c l ih => exact (ih _).trans (State.sendPending_keeps φ hr hf c s)

theorem State.leave_keeps (f : Flight) (r : Reply) (s : State) : φ (s.leave f r) = φ s := by
  have hp : ∀ c (s : State), φ (s.when c (State.sendPending f.cid)) = φ s := by
    intro c s; unfold State.when; split
    · exact State.sendPending_keeps φ hr hf _ _
    · rfl
  have hw : ∀ c n r (s : State), φ (s.when c (State.sendReply n r)) = φ s := by
    intro c n r s; unfold State.when; split
    · exact hr _ _ _
    · rfl
  unfold State.leave
  refine (hw _ _ _ _).trans (Eq.trans ?_ (hp (s.overdue f) s))
  generalize s.when (s.overdue f) (State.sendPending f.cid) = s'
  unfold State.when
  split
  · exact hf s' _ _ _
  · exact hf s' _ _ _

theorem State.leaveNext_keeps (n : Nat) (ended : Option Nat) (fuel : Nat) : ∀ s : State, φ (State.leaveNext n ended fuel s) = φ s := by
  induction fuel with
  | zero => intro s; rfl
  | succ k ih =>
    intro s
    unfold State.leaveNext
    split
    · rfl
    · split
      · rfl
      · rw [ih]; exact State.leave_keeps φ hr hf _ _ _

theorem State.finishWith_keeps (cid st p d : Nat) (again : Bool) (carries : Option Nat) (b : Body) (s : State) :
    φ (s.finishWith cid st p d again carries b) = φ s := by
  unfold State.finishWith; split
  · rfl
  · dsimp only
    split
    · exact hf _ _ _ _
    · rw [State.leaveNext_keeps φ hr hf]; exact State.leave_keeps φ hr hf _ _ _

end ends

@[simp] theorem State.rest_sendPending (cid : Nat) (s : State) : (s.sendPending cid).rest = s.rest :=
  State.sendPending_keeps State.rest (fun n r s => State.rest_sendReply n r s) (fun _ _ _ _ => rfl) cid s

@[simp] theorem State.rest_pendingDue (s : State) : s.pendingDue.rest = s.rest :=
  State.pendingDue_keeps State.rest (fun n r s => State.rest_sendReply n r s) (fun _ _ _ _ => rfl) s

/-- The end of a command touches none of a state's rest. -/
@[simp] theorem State.rest_finishWith (cid st p d : Nat) (again : Bool) (carries : Option Nat) (b : Body) (s : State) :
    (s.finishWith cid st p d again carries b).rest = s.rest :=
  State.finishWith_keeps State.rest (fun n r s => State.rest_sendReply n r s) (fun _ _ _ _ => rfl) _ _ _ _ _ _ _ s

@[simp] theorem State.rest_finish (cid st d : Nat) (b : Body) (s : State) : (s.finish cid st d b).rest = s.rest :=
  State.rest_finishWith _ _ _ _ _ _ _ _

@[simp] theorem State.rest_refuseArrival (n op tag st d : Nat) (s : State) : (s.refuseArrival n op tag st d).rest = s.rest :=
  State.rest_sendReply _ _ _

end Sys2Proof.Machine
end

