-- ==== Sys2Proof/Laws/Host.lean ====
section
/-! SUPPORT. The life of a host command: what has left stays sent, and one lemma that says what a row of a host opcode answers when the
command starts on arrival. -/
namespace Sys2Proof.Machine

/-! What was sent stays sent. -/

theorem State.out_each {α : Type} (o : Out) (f : α → State → State) (h : ∀ x s, o ∈ s.out → o ∈ (f x s).out) (xs : List α) :
    ∀ s : State, o ∈ s.out → o ∈ (s.each xs f).out := by
  induction xs with
  | nil => intro s hs; exact hs
  | cons x xs ih => intro s hs; exact ih (f x s) (h x s hs)

theorem State.out_emit (o p : Out) (s : State) (h : o ∈ s.out) : o ∈ (s.emit p).out := by
  simp only [State.emit]
  split
  · exact h
  · exact List.mem_append_left _ h

/-- A reply made for a command leaves whatever island resynchronises. -/
theorem State.out_emit_reply (n : Nat) (r : Reply) (s : State) : Out.reply n r ∈ (s.emit (.reply n r)).out := by
  simp [State.emit, Out.island]

theorem State.out_sendFrame (o : Out) (n port ftype seq : Nat) (rtx : Bool) (p : Option Payload) (s : State) (h : o ∈ s.out) :
    o ∈ (s.sendFrame n port ftype seq rtx p).out := by
  unfold State.sendFrame
  split
  · exact h
  · exact State.out_emit _ _ _ h

theorem State.out_flush (o : Out) (fuel : Nat) : ∀ (n : Nat) (s : State), o ∈ s.out → o ∈ (State.flush fuel n s).out := by
  induction fuel with
  | zero => intro n s h; exact h
  | succ k ih =>
    intro n s h
    unfold State.flush
    split
    · exact h
    · split
      · simp only
        split
        · exact h
        · exact ih _ _ (State.out_sendFrame o _ _ _ _ _ _ _ h)
      · exact h

theorem State.out_transmit (o : Out) (n : Nat) (p : Payload) (s : State) (h : o ∈ s.out) : o ∈ (s.transmit n p).out :=
  State.out_flush o _ _ _ h

/-- A reply that is sent has left. -/
theorem State.out_sendReply (n : Nat) (r : Reply) (s : State) : Out.reply n r ∈ (s.sendReply n r).out :=
  State.out_transmit _ _ _ _ (State.out_emit_reply _ _ _)

theorem State.out_sendReply_mono (o : Out) (n : Nat) (r : Reply) (s : State) (h : o ∈ s.out) : o ∈ (s.sendReply n r).out :=
  State.out_transmit _ _ _ _ (State.out_emit _ _ _ h)

/-! Flights. -/

theorem State.flights_sendFrame (n port ftype seq : Nat) (rtx : Bool) (p : Option Payload) (s : State) :
    (s.sendFrame n port ftype seq rtx p).flights = s.flights := by
  unfold State.sendFrame; split <;> rfl

theorem State.flights_flush (fuel : Nat) : ∀ (n : Nat) (s : State), (State.flush fuel n s).flights = s.flights := by
  induction fuel with
  | zero => intro n s; rfl
  | succ k ih =>
    intro n s
    unfold State.flush
    split
    · rfl
    · split
      · simp only
        split
        · rfl
        · rw [ih, State.flights_sendFrame]; rfl
      · rfl

@[simp] theorem State.flights_sendReply (n : Nat) (r : Reply) (s : State) : (s.sendReply n r).flights = s.flights :=
  State.flights_flush _ _ _

/-- A running maximum of successors is above every element. -/
theorem lt_foldl_max (l : List Nat) : ∀ (a : Nat), a ≤ l.foldl (fun a c => max a (c + 1)) a ∧ ∀ c ∈ l, c < l.foldl (fun a c => max a (c + 1)) a := by
  induction l with
  | nil => intro a; exact ⟨Nat.le_refl a, fun c h => absurd h (List.not_mem_nil)⟩
  | cons g l ih =>
    intro a
    have hg := ih (max a (g + 1))
    refine ⟨by simp only [List.foldl_cons]; omega, ?_⟩
    intro c hc
    rcases List.mem_cons.mp hc with rfl | hc
    · simp only [List.foldl_cons]; omega
    · exact hg.2 c hc

/-- The number of a new command is above that of every command in flight. -/
theorem State.lt_freshCid (s : State) (f : Flight) (h : f ∈ s.flights) : f.cid < s.freshCid :=
  (lt_foldl_max _ _).2 _ (List.mem_append_left _ (List.mem_map_of_mem h))

/-- The number of a new command is above that of every command that the state names. -/
theorem State.held_lt_freshCid (s : State) (n : Nat) (h : n ∈ s.heldCids) : n < s.freshCid :=
  (lt_foldl_max _ _).2 _ (List.mem_append_right _ h)

/-! A row of a host opcode. -/

@[simp] theorem State.flights_countPacket (n : Nat) (s : State) : (s.countPacket n).flights = s.flights := by
  unfold State.countPacket; simp only; split <;> rfl

@[simp] theorem State.heldCids_countPacket (n : Nat) (s : State) : (s.countPacket n).heldCids = s.heldCids := by
  unfold State.countPacket; simp only; split <;> rfl

@[simp] theorem State.heldCids_at (t : Nat) (s : State) : (s.at_ t).heldCids = s.heldCids := rfl

@[simp] theorem State.results_countPacket (n : Nat) (s : State) : (s.countPacket n).results = s.results := by
  unfold State.countPacket; simp only; split <;> rfl

@[simp] theorem State.params_countPacket (n : Nat) (s : State) : (s.countPacket n).params = s.params := by
  unfold State.countPacket; simp only; split <;> rfl

@[simp] theorem State.evt_countPacket (n : Nat) (s : State) : (s.countPacket n).evt = s.evt := by
  unfold State.countPacket; simp only; split <;> rfl

@[simp] theorem State.cause_countPacket (n : Nat) (s : State) : (s.countPacket n).cause = s.cause := by
  unfold State.countPacket; simp only; split <;> rfl

@[simp] theorem State.ports_countPacket (n : Nat) (s : State) : (s.countPacket n).ports = s.ports := by
  unfold State.countPacket; simp only; split <;> rfl

@[simp] theorem State.out_countPacket (n : Nat) (s : State) : (s.countPacket n).out = s.out := by
  unfold State.countPacket; simp only; split <;> rfl

@[simp] theorem State.dev_countPacket (n : Nat) (s : State) : (s.countPacket n).dev = s.dev := by
  unfold State.countPacket; simp only; split <;> rfl

@[simp] theorem State.power_countPacket (n : Nat) (s : State) : (s.countPacket n).power = s.power := by
  unfold State.countPacket; simp only; split <;> rfl

@[simp] theorem State.shell_countPacket (n : Nat) (s : State) : (s.countPacket n).shell = s.shell := by
  unfold State.countPacket; simp only; split <;> rfl

/-- What an effect finds when its command starts on arrival: the context of the packet and the state with the packet counted, its
flight added and a retained result of its tag released. -/
structure Started (t : Nat) (h : Hdr) (op : Nat) (b : List Byte) (s : State) (c : Ctx) (s1 : State) : Prop where
  sn : c.sn = h.session
  tag : c.tag = h.tag
  body : c.body = b
  role : c.role = s.role h.session
  rest : s1.rest = (s.taken t h).rest
  params : s1.params = s.params
  evt : s1.evt = s.evt
  sessions : s1.sessions = (s.taken t h).sessions
  cause : s1.cause = s.cause
  ports : s1.ports = s.ports
  out : s1.out = []
  same : ∃ n rs fl k, s1 = { s.taken t h with nextCid := n, results := rs, flights := fl, hap := k }
  fresh : ∀ n ∈ s.heldCids, n < c.cid
  flight : ∃ f, s1.flights.find? (fun f => f.cid == c.cid) = some f ∧ f.session = h.session ∧ f.tag = h.tag ∧ f.opcode = op ∧
    f.endedAt = none ∧ f.pendingSent = false ∧ f.final = none ∧ s1.behind f = false
  goes : s1.dev.cmd.restart = none

theorem Taken.parts (op t : Nat) (h : Hdr) (s : State) (k : Taken op t h s = true) :
    Quiet t s = true ∧ (s.session h.session).isSome ∧ h.tag < 0xFFFF ∧ h.flags = 0 ∧ h.rsv = 0 ∧
    (∀ f ∈ s.flights, f.of h.session = true → f.tag ≠ h.tag ∧ f.started = true ∧ f.wait = none ∧ f.opcode / 256 ≠ op / 256) ∧
    (s.flights.filter (fun f => f.of h.session)).length < 256 ∧ s.flights.length < 1024 ∧ s.undelivered h.session < 4096 ∧
    s.cmdHeld = false ∧ s.shell.recoveryFw = false ∧ h.session ≠ 0 := by
  simp only [Taken, TakenBeside, List.contains_nil, Bool.false_or, Bool.and_eq_true, decide_eq_true_eq, beq_iff_eq, List.all_eq_true, Bool.not_eq_true', Bool.or_eq_true,
    bne_iff_ne, Option.isNone_iff_eq_none] at k
  obtain ⟨⟨⟨⟨⟨⟨⟨⟨⟨⟨⟨q, a⟩, b⟩, c⟩, d⟩, e⟩, f⟩, g⟩, i⟩, j⟩, l⟩, m⟩ := k
  refine ⟨q, a, b, c, d, ?_, f, g, i, j, l, m⟩
  intro x hx ho
  rcases e x hx with e | ⟨⟨⟨e1, e2⟩, e3⟩, e4⟩
  · rw [ho] at e; cases e
  · exact ⟨e1, e2, e3, e4⟩

theorem State.undelivered_countPacket (n m : Nat) (s : State) : (s.countPacket n).undelivered m = s.undelivered m := by
  unfold State.undelivered; simp

/-- The flight of a packet that arrives. -/
def State.newFlight (s : State) (x : Session) (h : Hdr) (op : Nat) (b : List Byte) : Flight :=
  ⟨s.freshCid, s.now, h.session, x.role, x.subject, h.tag, op, b, h.flags, h.rsv, false, false, none, none, 0, none, 0⟩

/-- A packet whose command starts on arrival is put in flight under a new number (R83-R85, R108). -/
theorem State.arrive_taken (t : Nat) (h : Hdr) (op : Nat) (b : List Byte) (s : State) (x : Session) (hx : s.session h.session = some x)
    (k : Taken op t h s = true) :
    let s0 := s.taken t h
    (s.at_ t).arrive x h.tag op h.flags h.rsv b =
      ({ s0 with
          nextCid := s0.freshCid + 1
          results := s0.results.filter (fun r => !(r.session == h.session && r.endedAt.isNone && r.tag == h.tag))
          flights := s0.flights ++ [s0.newFlight x h op b] },
        some s0.freshCid) := by
  obtain ⟨_, _, htag, hf, hr, hfl, h256, h1024, hun, _, _, _⟩ := Taken.parts op t h s k
  have hn : x.num = h.session := by
    have := List.find?_some hx
    simpa using this
  intro s0
  have e1 : (s.at_ t).countPacket h.session = s0 := rfl
  have hfl0 : s0.flights = s.flights := by simp only [s0, State.taken, State.flights_countPacket]; rfl
  have hun0 : s0.undelivered h.session = s.undelivered h.session := by
    simp only [s0, State.taken, State.undelivered_countPacket]; rfl
  unfold State.arrive
  simp only [hn, e1]
  rw [if_neg (by omega), if_neg, if_neg (by rw [hfl0]; omega), if_neg (by rw [hfl0]; omega), if_neg (by rw [hun0]; omega)]
  · rfl
  · rw [hfl0]
    simp only [List.any_eq_true, Bool.and_eq_true, beq_iff_eq, not_exists, not_and]
    intro f hf ho
    exact (hfl f hf ho).1

/-- A command waits for none of its session's commands when each has started and it carries no fence (R86). -/
theorem State.mustWait_new (s : State) (f : Flight) (h : f.flags = 0)
    (hw : ∀ g ∈ s.flights, g.session = f.session → g.endedAt = f.endedAt → g.cid < f.cid → g.started = true) : s.mustWait f = false := by
  unfold State.mustWait
  have : bitAt 0 0 = false := by decide
  simp only [h, this, Bool.false_and, Bool.false_or, List.any_eq_false, List.mem_filter, Bool.and_eq_true, beq_iff_eq, decide_eq_true_eq]
  intro g hg
  simp [hw g hg.1 hg.2.1.1 hg.2.1.2 hg.2.2]

/-- Where no PENDING reply is due, none leaves (R82). -/
theorem State.pendingDue_quiet (t : Nat) (s : State) (q : Quiet t s = true) : (s.at_ t).pendingDue = s.at_ t := by
  unfold State.pendingDue
  have : (s.at_ t).flights.filter (fun f => f.started && (s.at_ t).overdue f) = [] := by
    rw [List.filter_eq_nil_iff]
    intro f hf
    have := List.all_eq_true.mp q f hf
    rcases (by simpa using this) with e | e <;> simp [e]
  rw [this]; rfl

/-- The row of a host opcode whose command starts on arrival: the effect on the state that `Started` describes, and the end that its
verdict gives. -/
theorem hostRow_taken (self : Instr) (op t : Nat) (h : Hdr) (b : List Byte) (eff : Effect) (s : State) (k : Taken op t h s = true) :
    ∃ c s1, Started t h op b s c s1 ∧ hostRow self op t h b eff s = conclude c.cid (eff c s1) := by
  obtain ⟨hq, hsome, htag, hflags, hrsv, hfl, h256, h1024, hun, hheld, hrec, _⟩ := Taken.parts op t h s k
  obtain ⟨x, hx⟩ := Option.isSome_iff_exists.mp hsome
  have hx' : (s.at_ t).session h.session = some x := hx
  have hn : x.num = h.session := by have := List.find?_some hx; simpa using this
  have harr : (s.at_ t).flights.find? (fun f =>
      f.of h.session && f.tag == h.tag && f.opcode == op && f.body == b && !f.started && f.wait.isNone && f.final.isNone) = none := by
    rw [List.find?_eq_none]
    intro f hf hc
    simp only [Bool.and_eq_true, beq_iff_eq] at hc
    exact (hfl f hf hc.1.1.1.1.1.1).1 hc.1.1.1.1.1.2
  have hArr := State.arrive_taken t h op b s x hx k
  dsimp only at hArr
  generalize hs0 : s.taken t h = s0 at hArr
  have hfl0 : s0.flights = s.flights := by rw [← hs0]; simp only [State.taken, State.flights_countPacket]; rfl
  have hlt : ∀ f ∈ s0.flights, f.cid < s0.freshCid := fun f hf => State.lt_freshCid s0 f hf
  have hfresh : s0.flights.find? (fun f => f.cid == s0.freshCid) = none := by
    rw [List.find?_eq_none]
    intro f hf
    have := hlt f hf
    simp only [beq_iff_eq]; omega
  have hheld0 : s0.cmdHeld = false := by
    rw [← hheld, ← hs0]; simp only [State.cmdHeld, State.taken, State.dev_countPacket, State.power_countPacket]; rfl
  have hrec0 : s0.shell.recoveryFw = false := by
    rw [← hrec, ← hs0]; simp only [State.taken, State.shell_countPacket]; rfl
  generalize hfl1 : s0.newFlight x h op b = f1 at hArr
  have hcid : f1.cid = s0.freshCid := by rw [← hfl1]; rfl
  have hmap : ∀ l : List Flight, (∀ f ∈ l, f.cid < s0.freshCid) →
      (l.map (fun (g : Flight) => if g.cid == s0.freshCid then { g with started := true, wait := none } else g)) = l := by
    intro l hl
    induction l with
    | nil => rfl
    | cons g l ih =>
      have hg := hl g (List.mem_cons_self)
      rw [List.map_cons, ih (fun f hf => hl f (List.mem_cons_of_mem _ hf)), if_neg]
      simp only [beq_iff_eq]; omega
  refine ⟨⟨s0.freshCid, h.session, x.role, h.tag, b⟩,
    { s0 with
      nextCid := s0.freshCid + 1
      results := s0.results.filter (fun r => !(r.session == h.session && r.endedAt.isNone && r.tag == h.tag))
      flights := s0.flights ++ [{ f1 with started := true, wait := none }]
      hap := 0 }, ?_, ?_⟩
  · constructor
    · rfl
    · rfl
    · rfl
    · simp [State.role, hx]
    · rw [hs0]; rfl
    · show s0.params = s.params
      rw [← hs0]; simp only [State.taken, State.params_countPacket]; rfl
    · show s0.evt = s.evt
      rw [← hs0]; simp only [State.taken, State.evt_countPacket]; rfl
    · rw [hs0]
    · show s0.cause = s.cause
      rw [← hs0]; simp only [State.taken, State.cause_countPacket]; rfl
    · show s0.ports = s.ports
      rw [← hs0]; simp only [State.taken, State.ports_countPacket]; rfl
    · show s0.out = []
      rw [← hs0]; simp only [State.taken, State.out_countPacket]; rfl
    · exact ⟨_, _, _, _, by rw [hs0]⟩
    · intro n hn'
      apply State.held_lt_freshCid
      rw [← hs0]
      simpa [State.taken] using hn'
    · refine ⟨{ f1 with started := true, wait := none }, ?_, ?_⟩
      · show List.find? _ (s0.flights ++ _) = _
        rw [List.find?_append, hfresh]
        simp [hcid]
      · rw [← hfl1]
        refine ⟨rfl, rfl, rfl, rfl, rfl, rfl, ?_⟩
        simp only [State.behind, List.any_eq_false, Bool.and_eq_true, beq_iff_eq, decide_eq_true_eq]
        rintro g hm ⟨⟨⟨⟨hs1, hs2⟩, hc⟩, hop⟩, _⟩
        rcases List.mem_append.mp hm with hm | hm
        · rw [hfl0] at hm
          have := (hfl g hm (by simp only [Flight.of, hs1, hs2]; simp [State.newFlight])).2.2.2
          exact absurd hop this
        · rw [List.mem_singleton.mp hm] at hc
          exact absurd hc (Nat.lt_irrefl _)
    · simp only [State.cmdHeld, Bool.or_eq_false_iff, Option.isSome_eq_false_iff, Option.isNone_iff_eq_none] at hheld0
      exact hheld0.1
  · have hheld' : (s.at_ t).cmdHeld = false := hheld
    unfold hostRow
    rw [State.pendingDue_quiet t s hq]
    simp only [hheld', Bool.false_eq_true, if_false]
    unfold State.hostArrive
    simp only [hx', harr, hArr]
    have hfind : (s0.flights ++ [f1]).find? (fun f => f.cid == s0.freshCid) = some f1 := by
      rw [List.find?_append, hfresh]; simp [hcid]
    simp only [Option.bind_some, State.flight, hfind]
    rw [if_neg]
    · rw [hcid]
      unfold State.startCmd
      simp only [State.flight, hfind]
      rw [if_neg (by rw [← hfl1]; simp only [State.newFlight]; omega), if_neg (by rw [← hfl1]; simpa [State.newFlight] using hrsv),
        if_neg (by simp [State.happen, State.modFlight, hrec0])]
      simp only [State.happen, State.modFlight]
      rw [List.map_append, hmap _ hlt]
      rw [← hfl1]
      simp only [State.newFlight, Option.isNone_none, if_true, List.map_cons, List.map_nil, beq_self_eq_true]
    · rw [State.mustWait_new]
      · decide
      · rw [← hfl1]; exact hflags
      · intro g hm hs1 hs2 hlt'
        rcases List.mem_append.mp hm with hm | hm
        · rw [hfl0] at hm
          rw [← hfl1] at hs1 hs2
          exact (hfl g hm (by simp only [Flight.of, hs1, hs2]; simp [State.newFlight])).2.1
        · rw [List.mem_singleton.mp hm] at hlt'
          exact absurd hlt' (Nat.lt_irrefl _)

/-! The end of a command. -/

theorem State.out_when (o : Out) (c : Bool) (f : State → State) (h : ∀ s, o ∈ s.out → o ∈ (f s).out) (s : State) (k : o ∈ s.out) :
    o ∈ (s.when c f).out := by
  unfold State.when; split
  · exact h _ k
  · exact k

theorem State.out_sendPending (o : Out) (cid : Nat) (s : State) (k : o ∈ s.out) : o ∈ (s.sendPending cid).out := by
  unfold State.sendPending
  split
  · exact k
  · split
    · exact k
    · exact State.out_when _ _ _ (fun s h => State.out_sendReply_mono _ _ _ s h) _ k

theorem State.out_leave (o : Out) (f : Flight) (r : Reply) (s : State) (k : o ∈ s.out) : o ∈ (s.leave f r).out := by
  unfold State.leave
  refine State.out_when _ _ _ (fun s h => State.out_sendReply_mono _ _ _ s h) _ ?_
  refine State.out_when _ _ _ ?_ _ ?_
  · intro s h; exact h
  exact State.out_when _ _ _ (fun s h => State.out_sendPending _ _ s h) _ k

theorem State.out_leaveNext (o : Out) (n : Nat) (ended : Option Nat) (fuel : Nat) : ∀ s : State, o ∈ s.out → o ∈ (State.leaveNext n ended fuel s).out := by
  induction fuel with
  | zero => intro s h; exact h
  | succ k ih =>
    intro s h
    unfold State.leaveNext
    split
    · exact h
    · split
      · exact h
      · exact ih _ (State.out_leave _ _ _ _ h)

/-- A command in flight that ends while its session is open, nothing holds the replies and no earlier command of its session, service and
unit goes on, sends its FINAL reply there. -/
theorem State.finishWith_replied (cid st p d : Nat) (again : Bool) (carries : Option Nat) (body : Body) (s : State) (f : Flight)
    (h : s.flight cid = some f) (ho : f.endedAt = none) (hf : f.final = none) (hb : s.behind f = false) (hc : s.dev.cmd.restart = none) :
    ∃ r, Out.reply f.session r ∈ (s.finishWith cid st p d again carries body).out ∧ r.opcode = f.opcode ∧ r.tag = f.tag ∧ r.final = true ∧
      r.status = st ∧ r.detail = d ∧ r.body = body := by
  have h' : s.flights.find? (fun f => f.cid == cid && f.final.isNone) = some f := by
    have := List.find?_eq_some_iff_append.mp h
    obtain ⟨hp, l1, l2, he, hn⟩ := this
    refine List.find?_eq_some_iff_append.mpr ⟨by simp [hf] at hp ⊢; exact hp, l1, l2, he, ?_⟩
    intro a ha
    have := hn a ha
    simp at this ⊢
    exact .inl this
  unfold State.finishWith
  simp only [h', hb, hc, Option.isSome_none, Bool.or_false, Bool.false_eq_true, if_false]
  have hr : ∀ (r : Reply) (s : State), ∃ u, Out.reply f.session { r with unsolicited := u } ∈ (s.leave f r).out := by
    intro r s
    refine ⟨f.pendingSent || s.overdue f, ?_⟩
    unfold State.leave
    simp only [ho, Option.isNone_none]
    exact State.out_sendReply _ _ _
  obtain ⟨u, hu⟩ := hr ⟨f.opcode, f.tag, true, again, false, st, p, d, body,
    if (f.opcode != 0x0107 && f.opcode != 0x0108) = true then some cid else carries⟩ s
  exact ⟨_, State.out_leaveNext _ _ _ _ _ hu, rfl, rfl, rfl, rfl, rfl, rfl⟩

theorem conclude_replied {t : Nat} {h : Hdr} {op : Nat} {b : List Byte} {s : State} {c : Ctx} {s1 : State} (k : Started t h op b s c s1)
    (s2 : State) (hf : s2.flights = s1.flights) (hd : s2.dev.cmd = s1.dev.cmd) (st d : Nat) (body : Body) :
    Replied h op st d body (conclude c.cid (s2, .done st d body)) := by
  obtain ⟨f, hfind, hs, ht, ho, he, _, hn, hb⟩ := k.flight
  rw [← hf] at hfind
  have hb2 : s2.behind f = false := by rw [← hb]; unfold State.behind; rw [hf]
  obtain ⟨r, hr⟩ := State.finishWith_replied c.cid st 1000 d false none body s2 f hfind he hn hb2 (by rw [hd]; exact k.goes)
  rw [hs, ht, ho] at hr
  exact ⟨r, hr⟩

@[simp] theorem conclude_rest (cid : Nat) (r : State × Verdict) : (conclude cid r).rest = r.1.rest := by
  obtain ⟨s, v⟩ := r
  cases v <;> simp [conclude]

end Sys2Proof.Machine
end

