-- ==== Sys2Proof/Laws/State.lean ====
section
/-! SUPPORT. What the plain updates of a state leave: one lemma for each field that an update does not touch. -/
namespace Sys2Proof.Machine

@[simp] theorem State.at__offset (t : Nat) (s : State) : (s.at_ t).offset = s.offset := rfl
@[simp] theorem State.at__params (t : Nat) (s : State) : (s.at_ t).params = s.params := rfl
@[simp] theorem State.at__pins (t : Nat) (s : State) : (s.at_ t).pins = s.pins := rfl
@[simp] theorem State.at__nextCid (t : Nat) (s : State) : (s.at_ t).nextCid = s.nextCid := rfl
@[simp] theorem State.at__flights (t : Nat) (s : State) : (s.at_ t).flights = s.flights := rfl
@[simp] theorem State.at__results (t : Nat) (s : State) : (s.at_ t).results = s.results := rfl
@[simp] theorem State.at__sessions (t : Nat) (s : State) : (s.at_ t).sessions = s.sessions := rfl
@[simp] theorem State.at__shakes (t : Nat) (s : State) : (s.at_ t).shakes = s.shakes := rfl
@[simp] theorem State.at__ports (t : Nat) (s : State) : (s.at_ t).ports = s.ports := rfl
@[simp] theorem State.at__dev (t : Nat) (s : State) : (s.at_ t).dev = s.dev := rfl
@[simp] theorem State.at__own (t : Nat) (s : State) : (s.at_ t).own = s.own := rfl
@[simp] theorem State.at__shell (t : Nat) (s : State) : (s.at_ t).shell = s.shell := rfl
@[simp] theorem State.at__evt (t : Nat) (s : State) : (s.at_ t).evt = s.evt := rfl
@[simp] theorem State.at__spool (t : Nat) (s : State) : (s.at_ t).spool = s.spool := rfl
@[simp] theorem State.at__mgmt (t : Nat) (s : State) : (s.at_ t).mgmt = s.mgmt := rfl
@[simp] theorem State.at__pos (t : Nat) (s : State) : (s.at_ t).pos = s.pos := rfl
@[simp] theorem State.at__power (t : Nat) (s : State) : (s.at_ t).power = s.power := rfl
@[simp] theorem State.at__heads (t : Nat) (s : State) : (s.at_ t).heads = s.heads := rfl
@[simp] theorem State.at__fire (t : Nat) (s : State) : (s.at_ t).fire = s.fire := rfl
@[simp] theorem State.at__lanes (t : Nat) (s : State) : (s.at_ t).lanes = s.lanes := rfl
@[simp] theorem State.at__comp (t : Nat) (s : State) : (s.at_ t).comp = s.comp := rfl
@[simp] theorem State.at__cams (t : Nat) (s : State) : (s.at_ t).cams = s.cams := rfl
@[simp] theorem State.at__insp (t : Nat) (s : State) : (s.at_ t).insp = s.insp := rfl
@[simp] theorem State.at__pack (t : Nat) (s : State) : (s.at_ t).pack = s.pack := rfl
@[simp] theorem State.at__dram (t : Nat) (s : State) : (s.at_ t).dram = s.dram := rfl
@[simp] theorem State.at__cal (t : Nat) (s : State) : (s.at_ t).cal = s.cal := rfl
@[simp] theorem State.at__test (t : Nat) (s : State) : (s.at_ t).test = s.test := rfl
@[simp] theorem State.at__cause (t : Nat) (s : State) : (s.at_ t).cause = s.cause := rfl
@[simp] theorem State.at__draws (t : Nat) (s : State) : (s.at_ t).draws = s.draws := rfl
@[simp] theorem State.at__readings (t : Nat) (s : State) : (s.at_ t).readings = s.readings := rfl
@[simp] theorem State.at__stalled (t : Nat) (s : State) : (s.at_ t).stalled = s.stalled := rfl
@[simp] theorem State.at__parked (t : Nat) (s : State) : (s.at_ t).parked = s.parked := rfl
@[simp] theorem State.at__pending (t : Nat) (s : State) : (s.at_ t).pending = s.pending := rfl

@[simp] theorem State.setPar_now (id v : Nat) (s : State) : (s.setPar id v).now = s.now := rfl
@[simp] theorem State.setPar_offset (id v : Nat) (s : State) : (s.setPar id v).offset = s.offset := rfl
@[simp] theorem State.setPar_pins (id v : Nat) (s : State) : (s.setPar id v).pins = s.pins := rfl
@[simp] theorem State.setPar_nextCid (id v : Nat) (s : State) : (s.setPar id v).nextCid = s.nextCid := rfl
@[simp] theorem State.setPar_flights (id v : Nat) (s : State) : (s.setPar id v).flights = s.flights := rfl
@[simp] theorem State.setPar_results (id v : Nat) (s : State) : (s.setPar id v).results = s.results := rfl
@[simp] theorem State.setPar_sessions (id v : Nat) (s : State) : (s.setPar id v).sessions = s.sessions := rfl
@[simp] theorem State.setPar_shakes (id v : Nat) (s : State) : (s.setPar id v).shakes = s.shakes := rfl
@[simp] theorem State.setPar_ports (id v : Nat) (s : State) : (s.setPar id v).ports = s.ports := rfl
@[simp] theorem State.setPar_dev (id v : Nat) (s : State) : (s.setPar id v).dev = s.dev := rfl
@[simp] theorem State.setPar_own (id v : Nat) (s : State) : (s.setPar id v).own = s.own := rfl
@[simp] theorem State.setPar_shell (id v : Nat) (s : State) : (s.setPar id v).shell = s.shell := rfl
@[simp] theorem State.setPar_evt (id v : Nat) (s : State) : (s.setPar id v).evt = s.evt := rfl
@[simp] theorem State.setPar_spool (id v : Nat) (s : State) : (s.setPar id v).spool = s.spool := rfl
@[simp] theorem State.setPar_mgmt (id v : Nat) (s : State) : (s.setPar id v).mgmt = s.mgmt := rfl
@[simp] theorem State.setPar_pos (id v : Nat) (s : State) : (s.setPar id v).pos = s.pos := rfl
@[simp] theorem State.setPar_power (id v : Nat) (s : State) : (s.setPar id v).power = s.power := rfl
@[simp] theorem State.setPar_heads (id v : Nat) (s : State) : (s.setPar id v).heads = s.heads := rfl
@[simp] theorem State.setPar_fire (id v : Nat) (s : State) : (s.setPar id v).fire = s.fire := rfl
@[simp] theorem State.setPar_lanes (id v : Nat) (s : State) : (s.setPar id v).lanes = s.lanes := rfl
@[simp] theorem State.setPar_comp (id v : Nat) (s : State) : (s.setPar id v).comp = s.comp := rfl
@[simp] theorem State.setPar_cams (id v : Nat) (s : State) : (s.setPar id v).cams = s.cams := rfl
@[simp] theorem State.setPar_insp (id v : Nat) (s : State) : (s.setPar id v).insp = s.insp := rfl
@[simp] theorem State.setPar_pack (id v : Nat) (s : State) : (s.setPar id v).pack = s.pack := rfl
@[simp] theorem State.setPar_dram (id v : Nat) (s : State) : (s.setPar id v).dram = s.dram := rfl
@[simp] theorem State.setPar_cal (id v : Nat) (s : State) : (s.setPar id v).cal = s.cal := rfl
@[simp] theorem State.setPar_test (id v : Nat) (s : State) : (s.setPar id v).test = s.test := rfl
@[simp] theorem State.setPar_cause (id v : Nat) (s : State) : (s.setPar id v).cause = s.cause := rfl
@[simp] theorem State.setPar_draws (id v : Nat) (s : State) : (s.setPar id v).draws = s.draws := rfl
@[simp] theorem State.setPar_hap (id v : Nat) (s : State) : (s.setPar id v).hap = s.hap := rfl
@[simp] theorem State.setPar_readings (id v : Nat) (s : State) : (s.setPar id v).readings = s.readings := rfl
@[simp] theorem State.setPar_out (id v : Nat) (s : State) : (s.setPar id v).out = s.out := rfl
@[simp] theorem State.setPar_stalled (id v : Nat) (s : State) : (s.setPar id v).stalled = s.stalled := rfl
@[simp] theorem State.setPar_parked (id v : Nat) (s : State) : (s.setPar id v).parked = s.parked := rfl
@[simp] theorem State.setPar_pending (id v : Nat) (s : State) : (s.setPar id v).pending = s.pending := rfl

@[simp] theorem State.bump_now (id n : Nat) (s : State) : (s.bump id n).now = s.now := rfl
@[simp] theorem State.bump_offset (id n : Nat) (s : State) : (s.bump id n).offset = s.offset := rfl
@[simp] theorem State.bump_pins (id n : Nat) (s : State) : (s.bump id n).pins = s.pins := rfl
@[simp] theorem State.bump_nextCid (id n : Nat) (s : State) : (s.bump id n).nextCid = s.nextCid := rfl
@[simp] theorem State.bump_flights (id n : Nat) (s : State) : (s.bump id n).flights = s.flights := rfl
@[simp] theorem State.bump_results (id n : Nat) (s : State) : (s.bump id n).results = s.results := rfl
@[simp] theorem State.bump_sessions (id n : Nat) (s : State) : (s.bump id n).sessions = s.sessions := rfl
@[simp] theorem State.bump_shakes (id n : Nat) (s : State) : (s.bump id n).shakes = s.shakes := rfl
@[simp] theorem State.bump_ports (id n : Nat) (s : State) : (s.bump id n).ports = s.ports := rfl
@[simp] theorem State.bump_dev (id n : Nat) (s : State) : (s.bump id n).dev = s.dev := rfl
@[simp] theorem State.bump_own (id n : Nat) (s : State) : (s.bump id n).own = s.own := rfl
@[simp] theorem State.bump_shell (id n : Nat) (s : State) : (s.bump id n).shell = s.shell := rfl
@[simp] theorem State.bump_evt (id n : Nat) (s : State) : (s.bump id n).evt = s.evt := rfl
@[simp] theorem State.bump_spool (id n : Nat) (s : State) : (s.bump id n).spool = s.spool := rfl
@[simp] theorem State.bump_mgmt (id n : Nat) (s : State) : (s.bump id n).mgmt = s.mgmt := rfl
@[simp] theorem State.bump_pos (id n : Nat) (s : State) : (s.bump id n).pos = s.pos := rfl
@[simp] theorem State.bump_power (id n : Nat) (s : State) : (s.bump id n).power = s.power := rfl
@[simp] theorem State.bump_heads (id n : Nat) (s : State) : (s.bump id n).heads = s.heads := rfl
@[simp] theorem State.bump_fire (id n : Nat) (s : State) : (s.bump id n).fire = s.fire := rfl
@[simp] theorem State.bump_lanes (id n : Nat) (s : State) : (s.bump id n).lanes = s.lanes := rfl
@[simp] theorem State.bump_comp (id n : Nat) (s : State) : (s.bump id n).comp = s.comp := rfl
@[simp] theorem State.bump_cams (id n : Nat) (s : State) : (s.bump id n).cams = s.cams := rfl
@[simp] theorem State.bump_insp (id n : Nat) (s : State) : (s.bump id n).insp = s.insp := rfl
@[simp] theorem State.bump_pack (id n : Nat) (s : State) : (s.bump id n).pack = s.pack := rfl
@[simp] theorem State.bump_dram (id n : Nat) (s : State) : (s.bump id n).dram = s.dram := rfl
@[simp] theorem State.bump_cal (id n : Nat) (s : State) : (s.bump id n).cal = s.cal := rfl
@[simp] theorem State.bump_test (id n : Nat) (s : State) : (s.bump id n).test = s.test := rfl
@[simp] theorem State.bump_cause (id n : Nat) (s : State) : (s.bump id n).cause = s.cause := rfl
@[simp] theorem State.bump_draws (id n : Nat) (s : State) : (s.bump id n).draws = s.draws := rfl
@[simp] theorem State.bump_hap (id n : Nat) (s : State) : (s.bump id n).hap = s.hap := rfl
@[simp] theorem State.bump_readings (id n : Nat) (s : State) : (s.bump id n).readings = s.readings := rfl
@[simp] theorem State.bump_out (id n : Nat) (s : State) : (s.bump id n).out = s.out := rfl
@[simp] theorem State.bump_stalled (id n : Nat) (s : State) : (s.bump id n).stalled = s.stalled := rfl
@[simp] theorem State.bump_parked (id n : Nat) (s : State) : (s.bump id n).parked = s.parked := rfl
@[simp] theorem State.bump_pending (id n : Nat) (s : State) : (s.bump id n).pending = s.pending := rfl

@[simp] theorem State.emit_now (o : Out) (s : State) : (s.emit o).now = s.now := rfl
@[simp] theorem State.emit_offset (o : Out) (s : State) : (s.emit o).offset = s.offset := rfl
@[simp] theorem State.emit_params (o : Out) (s : State) : (s.emit o).params = s.params := rfl
@[simp] theorem State.emit_pins (o : Out) (s : State) : (s.emit o).pins = s.pins := rfl
@[simp] theorem State.emit_nextCid (o : Out) (s : State) : (s.emit o).nextCid = s.nextCid := rfl
@[simp] theorem State.emit_flights (o : Out) (s : State) : (s.emit o).flights = s.flights := rfl
@[simp] theorem State.emit_results (o : Out) (s : State) : (s.emit o).results = s.results := rfl
@[simp] theorem State.emit_sessions (o : Out) (s : State) : (s.emit o).sessions = s.sessions := rfl
@[simp] theorem State.emit_shakes (o : Out) (s : State) : (s.emit o).shakes = s.shakes := rfl
@[simp] theorem State.emit_ports (o : Out) (s : State) : (s.emit o).ports = s.ports := rfl
@[simp] theorem State.emit_dev (o : Out) (s : State) : (s.emit o).dev = s.dev := rfl
@[simp] theorem State.emit_own (o : Out) (s : State) : (s.emit o).own = s.own := rfl
@[simp] theorem State.emit_shell (o : Out) (s : State) : (s.emit o).shell = s.shell := rfl
@[simp] theorem State.emit_evt (o : Out) (s : State) : (s.emit o).evt = s.evt := rfl
@[simp] theorem State.emit_spool (o : Out) (s : State) : (s.emit o).spool = s.spool := rfl
@[simp] theorem State.emit_mgmt (o : Out) (s : State) : (s.emit o).mgmt = s.mgmt := rfl
@[simp] theorem State.emit_pos (o : Out) (s : State) : (s.emit o).pos = s.pos := rfl
@[simp] theorem State.emit_power (o : Out) (s : State) : (s.emit o).power = s.power := rfl
@[simp] theorem State.emit_heads (o : Out) (s : State) : (s.emit o).heads = s.heads := rfl
@[simp] theorem State.emit_fire (o : Out) (s : State) : (s.emit o).fire = s.fire := rfl
@[simp] theorem State.emit_lanes (o : Out) (s : State) : (s.emit o).lanes = s.lanes := rfl
@[simp] theorem State.emit_comp (o : Out) (s : State) : (s.emit o).comp = s.comp := rfl
@[simp] theorem State.emit_cams (o : Out) (s : State) : (s.emit o).cams = s.cams := rfl
@[simp] theorem State.emit_insp (o : Out) (s : State) : (s.emit o).insp = s.insp := rfl
@[simp] theorem State.emit_pack (o : Out) (s : State) : (s.emit o).pack = s.pack := rfl
@[simp] theorem State.emit_dram (o : Out) (s : State) : (s.emit o).dram = s.dram := rfl
@[simp] theorem State.emit_cal (o : Out) (s : State) : (s.emit o).cal = s.cal := rfl
@[simp] theorem State.emit_test (o : Out) (s : State) : (s.emit o).test = s.test := rfl
@[simp] theorem State.emit_cause (o : Out) (s : State) : (s.emit o).cause = s.cause := rfl
@[simp] theorem State.emit_draws (o : Out) (s : State) : (s.emit o).draws = s.draws := rfl
@[simp] theorem State.emit_hap (o : Out) (s : State) : (s.emit o).hap = s.hap := rfl
@[simp] theorem State.emit_readings (o : Out) (s : State) : (s.emit o).readings = s.readings := rfl
@[simp] theorem State.emit_parked (o : Out) (s : State) : (s.emit o).parked = s.parked := rfl
@[simp] theorem State.emit_pending (o : Out) (s : State) : (s.emit o).pending = s.pending := rfl

@[simp] theorem State.modSession_now (n : Nat) (f : Session → Session) (s : State) : (s.modSession n f).now = s.now := rfl
@[simp] theorem State.modSession_offset (n : Nat) (f : Session → Session) (s : State) : (s.modSession n f).offset = s.offset := rfl
@[simp] theorem State.modSession_params (n : Nat) (f : Session → Session) (s : State) : (s.modSession n f).params = s.params := rfl
@[simp] theorem State.modSession_pins (n : Nat) (f : Session → Session) (s : State) : (s.modSession n f).pins = s.pins := rfl
@[simp] theorem State.modSession_nextCid (n : Nat) (f : Session → Session) (s : State) : (s.modSession n f).nextCid = s.nextCid := rfl
@[simp] theorem State.modSession_flights (n : Nat) (f : Session → Session) (s : State) : (s.modSession n f).flights = s.flights := rfl
@[simp] theorem State.modSession_results (n : Nat) (f : Session → Session) (s : State) : (s.modSession n f).results = s.results := rfl
@[simp] theorem State.modSession_shakes (n : Nat) (f : Session → Session) (s : State) : (s.modSession n f).shakes = s.shakes := rfl
@[simp] theorem State.modSession_ports (n : Nat) (f : Session → Session) (s : State) : (s.modSession n f).ports = s.ports := rfl
@[simp] theorem State.modSession_dev (n : Nat) (f : Session → Session) (s : State) : (s.modSession n f).dev = s.dev := rfl
@[simp] theorem State.modSession_own (n : Nat) (f : Session → Session) (s : State) : (s.modSession n f).own = s.own := rfl
@[simp] theorem State.modSession_shell (n : Nat) (f : Session → Session) (s : State) : (s.modSession n f).shell = s.shell := rfl
@[simp] theorem State.modSession_evt (n : Nat) (f : Session → Session) (s : State) : (s.modSession n f).evt = s.evt := rfl
@[simp] theorem State.modSession_spool (n : Nat) (f : Session → Session) (s : State) : (s.modSession n f).spool = s.spool := rfl
@[simp] theorem State.modSession_mgmt (n : Nat) (f : Session → Session) (s : State) : (s.modSession n f).mgmt = s.mgmt := rfl
@[simp] theorem State.modSession_pos (n : Nat) (f : Session → Session) (s : State) : (s.modSession n f).pos = s.pos := rfl
@[simp] theorem State.modSession_power (n : Nat) (f : Session → Session) (s : State) : (s.modSession n f).power = s.power := rfl
@[simp] theorem State.modSession_heads (n : Nat) (f : Session → Session) (s : State) : (s.modSession n f).heads = s.heads := rfl
@[simp] theorem State.modSession_fire (n : Nat) (f : Session → Session) (s : State) : (s.modSession n f).fire = s.fire := rfl
@[simp] theorem State.modSession_lanes (n : Nat) (f : Session → Session) (s : State) : (s.modSession n f).lanes = s.lanes := rfl
@[simp] theorem State.modSession_comp (n : Nat) (f : Session → Session) (s : State) : (s.modSession n f).comp = s.comp := rfl
@[simp] theorem State.modSession_cams (n : Nat) (f : Session → Session) (s : State) : (s.modSession n f).cams = s.cams := rfl
@[simp] theorem State.modSession_insp (n : Nat) (f : Session → Session) (s : State) : (s.modSession n f).insp = s.insp := rfl
@[simp] theorem State.modSession_pack (n : Nat) (f : Session → Session) (s : State) : (s.modSession n f).pack = s.pack := rfl
@[simp] theorem State.modSession_dram (n : Nat) (f : Session → Session) (s : State) : (s.modSession n f).dram = s.dram := rfl
@[simp] theorem State.modSession_cal (n : Nat) (f : Session → Session) (s : State) : (s.modSession n f).cal = s.cal := rfl
@[simp] theorem State.modSession_test (n : Nat) (f : Session → Session) (s : State) : (s.modSession n f).test = s.test := rfl
@[simp] theorem State.modSession_cause (n : Nat) (f : Session → Session) (s : State) : (s.modSession n f).cause = s.cause := rfl
@[simp] theorem State.modSession_draws (n : Nat) (f : Session → Session) (s : State) : (s.modSession n f).draws = s.draws := rfl
@[simp] theorem State.modSession_hap (n : Nat) (f : Session → Session) (s : State) : (s.modSession n f).hap = s.hap := rfl
@[simp] theorem State.modSession_readings (n : Nat) (f : Session → Session) (s : State) : (s.modSession n f).readings = s.readings := rfl
@[simp] theorem State.modSession_out (n : Nat) (f : Session → Session) (s : State) : (s.modSession n f).out = s.out := rfl
@[simp] theorem State.modSession_stalled (n : Nat) (f : Session → Session) (s : State) : (s.modSession n f).stalled = s.stalled := rfl
@[simp] theorem State.modSession_parked (n : Nat) (f : Session → Session) (s : State) : (s.modSession n f).parked = s.parked := rfl
@[simp] theorem State.modSession_pending (n : Nat) (f : Session → Session) (s : State) : (s.modSession n f).pending = s.pending := rfl

@[simp] theorem State.draw_now  (s : State) : (s.draw).now = s.now := rfl
@[simp] theorem State.draw_offset  (s : State) : (s.draw).offset = s.offset := rfl
@[simp] theorem State.draw_params  (s : State) : (s.draw).params = s.params := rfl
@[simp] theorem State.draw_pins  (s : State) : (s.draw).pins = s.pins := rfl
@[simp] theorem State.draw_nextCid  (s : State) : (s.draw).nextCid = s.nextCid := rfl
@[simp] theorem State.draw_flights  (s : State) : (s.draw).flights = s.flights := rfl
@[simp] theorem State.draw_results  (s : State) : (s.draw).results = s.results := rfl
@[simp] theorem State.draw_sessions  (s : State) : (s.draw).sessions = s.sessions := rfl
@[simp] theorem State.draw_shakes  (s : State) : (s.draw).shakes = s.shakes := rfl
@[simp] theorem State.draw_ports  (s : State) : (s.draw).ports = s.ports := rfl
@[simp] theorem State.draw_dev  (s : State) : (s.draw).dev = s.dev := rfl
@[simp] theorem State.draw_own  (s : State) : (s.draw).own = s.own := rfl
@[simp] theorem State.draw_shell  (s : State) : (s.draw).shell = s.shell := rfl
@[simp] theorem State.draw_evt  (s : State) : (s.draw).evt = s.evt := rfl
@[simp] theorem State.draw_spool  (s : State) : (s.draw).spool = s.spool := rfl
@[simp] theorem State.draw_mgmt  (s : State) : (s.draw).mgmt = s.mgmt := rfl
@[simp] theorem State.draw_pos  (s : State) : (s.draw).pos = s.pos := rfl
@[simp] theorem State.draw_power  (s : State) : (s.draw).power = s.power := rfl
@[simp] theorem State.draw_heads  (s : State) : (s.draw).heads = s.heads := rfl
@[simp] theorem State.draw_fire  (s : State) : (s.draw).fire = s.fire := rfl
@[simp] theorem State.draw_lanes  (s : State) : (s.draw).lanes = s.lanes := rfl
@[simp] theorem State.draw_comp  (s : State) : (s.draw).comp = s.comp := rfl
@[simp] theorem State.draw_cams  (s : State) : (s.draw).cams = s.cams := rfl
@[simp] theorem State.draw_insp  (s : State) : (s.draw).insp = s.insp := rfl
@[simp] theorem State.draw_pack  (s : State) : (s.draw).pack = s.pack := rfl
@[simp] theorem State.draw_dram  (s : State) : (s.draw).dram = s.dram := rfl
@[simp] theorem State.draw_cal  (s : State) : (s.draw).cal = s.cal := rfl
@[simp] theorem State.draw_test  (s : State) : (s.draw).test = s.test := rfl
@[simp] theorem State.draw_cause  (s : State) : (s.draw).cause = s.cause := rfl
@[simp] theorem State.draw_hap  (s : State) : (s.draw).hap = s.hap := rfl
@[simp] theorem State.draw_readings  (s : State) : (s.draw).readings = s.readings := rfl
@[simp] theorem State.draw_out  (s : State) : (s.draw).out = s.out := rfl
@[simp] theorem State.draw_stalled  (s : State) : (s.draw).stalled = s.stalled := rfl
@[simp] theorem State.draw_parked  (s : State) : (s.draw).parked = s.parked := rfl
@[simp] theorem State.draw_pending  (s : State) : (s.draw).pending = s.pending := rfl

@[simp] theorem State.addEntry_now (n : Nat) (e : LogEntry) (s : State) : (s.addEntry n e).now = s.now := rfl
@[simp] theorem State.addEntry_offset (n : Nat) (e : LogEntry) (s : State) : (s.addEntry n e).offset = s.offset := rfl
@[simp] theorem State.addEntry_params (n : Nat) (e : LogEntry) (s : State) : (s.addEntry n e).params = s.params := rfl
@[simp] theorem State.addEntry_pins (n : Nat) (e : LogEntry) (s : State) : (s.addEntry n e).pins = s.pins := rfl
@[simp] theorem State.addEntry_nextCid (n : Nat) (e : LogEntry) (s : State) : (s.addEntry n e).nextCid = s.nextCid := rfl
@[simp] theorem State.addEntry_flights (n : Nat) (e : LogEntry) (s : State) : (s.addEntry n e).flights = s.flights := rfl
@[simp] theorem State.addEntry_results (n : Nat) (e : LogEntry) (s : State) : (s.addEntry n e).results = s.results := rfl
@[simp] theorem State.addEntry_sessions (n : Nat) (e : LogEntry) (s : State) : (s.addEntry n e).sessions = s.sessions := rfl
@[simp] theorem State.addEntry_shakes (n : Nat) (e : LogEntry) (s : State) : (s.addEntry n e).shakes = s.shakes := rfl
@[simp] theorem State.addEntry_ports (n : Nat) (e : LogEntry) (s : State) : (s.addEntry n e).ports = s.ports := rfl
@[simp] theorem State.addEntry_dev (n : Nat) (e : LogEntry) (s : State) : (s.addEntry n e).dev = s.dev := rfl
@[simp] theorem State.addEntry_own (n : Nat) (e : LogEntry) (s : State) : (s.addEntry n e).own = s.own := rfl
@[simp] theorem State.addEntry_shell (n : Nat) (e : LogEntry) (s : State) : (s.addEntry n e).shell = s.shell := rfl
@[simp] theorem State.addEntry_spool (n : Nat) (e : LogEntry) (s : State) : (s.addEntry n e).spool = s.spool := rfl
@[simp] theorem State.addEntry_mgmt (n : Nat) (e : LogEntry) (s : State) : (s.addEntry n e).mgmt = s.mgmt := rfl
@[simp] theorem State.addEntry_pos (n : Nat) (e : LogEntry) (s : State) : (s.addEntry n e).pos = s.pos := rfl
@[simp] theorem State.addEntry_power (n : Nat) (e : LogEntry) (s : State) : (s.addEntry n e).power = s.power := rfl
@[simp] theorem State.addEntry_heads (n : Nat) (e : LogEntry) (s : State) : (s.addEntry n e).heads = s.heads := rfl
@[simp] theorem State.addEntry_fire (n : Nat) (e : LogEntry) (s : State) : (s.addEntry n e).fire = s.fire := rfl
@[simp] theorem State.addEntry_lanes (n : Nat) (e : LogEntry) (s : State) : (s.addEntry n e).lanes = s.lanes := rfl
@[simp] theorem State.addEntry_comp (n : Nat) (e : LogEntry) (s : State) : (s.addEntry n e).comp = s.comp := rfl
@[simp] theorem State.addEntry_cams (n : Nat) (e : LogEntry) (s : State) : (s.addEntry n e).cams = s.cams := rfl
@[simp] theorem State.addEntry_insp (n : Nat) (e : LogEntry) (s : State) : (s.addEntry n e).insp = s.insp := rfl
@[simp] theorem State.addEntry_pack (n : Nat) (e : LogEntry) (s : State) : (s.addEntry n e).pack = s.pack := rfl
@[simp] theorem State.addEntry_dram (n : Nat) (e : LogEntry) (s : State) : (s.addEntry n e).dram = s.dram := rfl
@[simp] theorem State.addEntry_cal (n : Nat) (e : LogEntry) (s : State) : (s.addEntry n e).cal = s.cal := rfl
@[simp] theorem State.addEntry_test (n : Nat) (e : LogEntry) (s : State) : (s.addEntry n e).test = s.test := rfl
@[simp] theorem State.addEntry_cause (n : Nat) (e : LogEntry) (s : State) : (s.addEntry n e).cause = s.cause := rfl
@[simp] theorem State.addEntry_draws (n : Nat) (e : LogEntry) (s : State) : (s.addEntry n e).draws = s.draws := rfl
@[simp] theorem State.addEntry_readings (n : Nat) (e : LogEntry) (s : State) : (s.addEntry n e).readings = s.readings := rfl
@[simp] theorem State.addEntry_out (n : Nat) (e : LogEntry) (s : State) : (s.addEntry n e).out = s.out := rfl
@[simp] theorem State.addEntry_stalled (n : Nat) (e : LogEntry) (s : State) : (s.addEntry n e).stalled = s.stalled := rfl
@[simp] theorem State.addEntry_parked (n : Nat) (e : LogEntry) (s : State) : (s.addEntry n e).parked = s.parked := rfl
@[simp] theorem State.addEntry_pending (n : Nat) (e : LogEntry) (s : State) : (s.addEntry n e).pending = s.pending := rfl

@[simp] theorem State.happen_now  (s : State) : (s.happen).now = s.now := rfl
@[simp] theorem State.happen_offset  (s : State) : (s.happen).offset = s.offset := rfl
@[simp] theorem State.happen_params  (s : State) : (s.happen).params = s.params := rfl
@[simp] theorem State.happen_pins  (s : State) : (s.happen).pins = s.pins := rfl
@[simp] theorem State.happen_nextCid  (s : State) : (s.happen).nextCid = s.nextCid := rfl
@[simp] theorem State.happen_flights  (s : State) : (s.happen).flights = s.flights := rfl
@[simp] theorem State.happen_results  (s : State) : (s.happen).results = s.results := rfl
@[simp] theorem State.happen_sessions  (s : State) : (s.happen).sessions = s.sessions := rfl
@[simp] theorem State.happen_shakes  (s : State) : (s.happen).shakes = s.shakes := rfl
@[simp] theorem State.happen_ports  (s : State) : (s.happen).ports = s.ports := rfl
@[simp] theorem State.happen_dev  (s : State) : (s.happen).dev = s.dev := rfl
@[simp] theorem State.happen_own  (s : State) : (s.happen).own = s.own := rfl
@[simp] theorem State.happen_shell  (s : State) : (s.happen).shell = s.shell := rfl
@[simp] theorem State.happen_evt  (s : State) : (s.happen).evt = s.evt := rfl
@[simp] theorem State.happen_spool  (s : State) : (s.happen).spool = s.spool := rfl
@[simp] theorem State.happen_mgmt  (s : State) : (s.happen).mgmt = s.mgmt := rfl
@[simp] theorem State.happen_pos  (s : State) : (s.happen).pos = s.pos := rfl
@[simp] theorem State.happen_power  (s : State) : (s.happen).power = s.power := rfl
@[simp] theorem State.happen_heads  (s : State) : (s.happen).heads = s.heads := rfl
@[simp] theorem State.happen_fire  (s : State) : (s.happen).fire = s.fire := rfl
@[simp] theorem State.happen_lanes  (s : State) : (s.happen).lanes = s.lanes := rfl
@[simp] theorem State.happen_comp  (s : State) : (s.happen).comp = s.comp := rfl
@[simp] theorem State.happen_cams  (s : State) : (s.happen).cams = s.cams := rfl
@[simp] theorem State.happen_insp  (s : State) : (s.happen).insp = s.insp := rfl
@[simp] theorem State.happen_pack  (s : State) : (s.happen).pack = s.pack := rfl
@[simp] theorem State.happen_dram  (s : State) : (s.happen).dram = s.dram := rfl
@[simp] theorem State.happen_cal  (s : State) : (s.happen).cal = s.cal := rfl
@[simp] theorem State.happen_test  (s : State) : (s.happen).test = s.test := rfl
@[simp] theorem State.happen_cause  (s : State) : (s.happen).cause = s.cause := rfl
@[simp] theorem State.happen_draws  (s : State) : (s.happen).draws = s.draws := rfl
@[simp] theorem State.happen_readings  (s : State) : (s.happen).readings = s.readings := rfl
@[simp] theorem State.happen_out  (s : State) : (s.happen).out = s.out := rfl
@[simp] theorem State.happen_stalled  (s : State) : (s.happen).stalled = s.stalled := rfl
@[simp] theorem State.happen_parked  (s : State) : (s.happen).parked = s.parked := rfl
@[simp] theorem State.happen_pending  (s : State) : (s.happen).pending = s.pending := rfl

@[simp] theorem State.modLane_now (u : Nat) (f : Lane → Lane) (s : State) : (s.modLane u f).now = s.now := rfl
@[simp] theorem State.modLane_offset (u : Nat) (f : Lane → Lane) (s : State) : (s.modLane u f).offset = s.offset := rfl
@[simp] theorem State.modLane_params (u : Nat) (f : Lane → Lane) (s : State) : (s.modLane u f).params = s.params := rfl
@[simp] theorem State.modLane_pins (u : Nat) (f : Lane → Lane) (s : State) : (s.modLane u f).pins = s.pins := rfl
@[simp] theorem State.modLane_nextCid (u : Nat) (f : Lane → Lane) (s : State) : (s.modLane u f).nextCid = s.nextCid := rfl
@[simp] theorem State.modLane_flights (u : Nat) (f : Lane → Lane) (s : State) : (s.modLane u f).flights = s.flights := rfl
@[simp] theorem State.modLane_results (u : Nat) (f : Lane → Lane) (s : State) : (s.modLane u f).results = s.results := rfl
@[simp] theorem State.modLane_sessions (u : Nat) (f : Lane → Lane) (s : State) : (s.modLane u f).sessions = s.sessions := rfl
@[simp] theorem State.modLane_shakes (u : Nat) (f : Lane → Lane) (s : State) : (s.modLane u f).shakes = s.shakes := rfl
@[simp] theorem State.modLane_ports (u : Nat) (f : Lane → Lane) (s : State) : (s.modLane u f).ports = s.ports := rfl
@[simp] theorem State.modLane_dev (u : Nat) (f : Lane → Lane) (s : State) : (s.modLane u f).dev = s.dev := rfl
@[simp] theorem State.modLane_own (u : Nat) (f : Lane → Lane) (s : State) : (s.modLane u f).own = s.own := rfl
@[simp] theorem State.modLane_shell (u : Nat) (f : Lane → Lane) (s : State) : (s.modLane u f).shell = s.shell := rfl
@[simp] theorem State.modLane_evt (u : Nat) (f : Lane → Lane) (s : State) : (s.modLane u f).evt = s.evt := rfl
@[simp] theorem State.modLane_spool (u : Nat) (f : Lane → Lane) (s : State) : (s.modLane u f).spool = s.spool := rfl
@[simp] theorem State.modLane_mgmt (u : Nat) (f : Lane → Lane) (s : State) : (s.modLane u f).mgmt = s.mgmt := rfl
@[simp] theorem State.modLane_pos (u : Nat) (f : Lane → Lane) (s : State) : (s.modLane u f).pos = s.pos := rfl
@[simp] theorem State.modLane_power (u : Nat) (f : Lane → Lane) (s : State) : (s.modLane u f).power = s.power := rfl
@[simp] theorem State.modLane_heads (u : Nat) (f : Lane → Lane) (s : State) : (s.modLane u f).heads = s.heads := rfl
@[simp] theorem State.modLane_fire (u : Nat) (f : Lane → Lane) (s : State) : (s.modLane u f).fire = s.fire := rfl
@[simp] theorem State.modLane_comp (u : Nat) (f : Lane → Lane) (s : State) : (s.modLane u f).comp = s.comp := rfl
@[simp] theorem State.modLane_cams (u : Nat) (f : Lane → Lane) (s : State) : (s.modLane u f).cams = s.cams := rfl
@[simp] theorem State.modLane_insp (u : Nat) (f : Lane → Lane) (s : State) : (s.modLane u f).insp = s.insp := rfl
@[simp] theorem State.modLane_pack (u : Nat) (f : Lane → Lane) (s : State) : (s.modLane u f).pack = s.pack := rfl
@[simp] theorem State.modLane_dram (u : Nat) (f : Lane → Lane) (s : State) : (s.modLane u f).dram = s.dram := rfl
@[simp] theorem State.modLane_cal (u : Nat) (f : Lane → Lane) (s : State) : (s.modLane u f).cal = s.cal := rfl
@[simp] theorem State.modLane_test (u : Nat) (f : Lane → Lane) (s : State) : (s.modLane u f).test = s.test := rfl
@[simp] theorem State.modLane_cause (u : Nat) (f : Lane → Lane) (s : State) : (s.modLane u f).cause = s.cause := rfl
@[simp] theorem State.modLane_draws (u : Nat) (f : Lane → Lane) (s : State) : (s.modLane u f).draws = s.draws := rfl
@[simp] theorem State.modLane_hap (u : Nat) (f : Lane → Lane) (s : State) : (s.modLane u f).hap = s.hap := rfl
@[simp] theorem State.modLane_readings (u : Nat) (f : Lane → Lane) (s : State) : (s.modLane u f).readings = s.readings := rfl
@[simp] theorem State.modLane_out (u : Nat) (f : Lane → Lane) (s : State) : (s.modLane u f).out = s.out := rfl
@[simp] theorem State.modLane_stalled (u : Nat) (f : Lane → Lane) (s : State) : (s.modLane u f).stalled = s.stalled := rfl
@[simp] theorem State.modLane_parked (u : Nat) (f : Lane → Lane) (s : State) : (s.modLane u f).parked = s.parked := rfl
@[simp] theorem State.modLane_pending (u : Nat) (f : Lane → Lane) (s : State) : (s.modLane u f).pending = s.pending := rfl

@[simp] theorem State.modFlight_now (cid : Nat) (f : Flight → Flight) (s : State) : (s.modFlight cid f).now = s.now := rfl
@[simp] theorem State.modFlight_offset (cid : Nat) (f : Flight → Flight) (s : State) : (s.modFlight cid f).offset = s.offset := rfl
@[simp] theorem State.modFlight_params (cid : Nat) (f : Flight → Flight) (s : State) : (s.modFlight cid f).params = s.params := rfl
@[simp] theorem State.modFlight_pins (cid : Nat) (f : Flight → Flight) (s : State) : (s.modFlight cid f).pins = s.pins := rfl
@[simp] theorem State.modFlight_nextCid (cid : Nat) (f : Flight → Flight) (s : State) : (s.modFlight cid f).nextCid = s.nextCid := rfl
@[simp] theorem State.modFlight_results (cid : Nat) (f : Flight → Flight) (s : State) : (s.modFlight cid f).results = s.results := rfl
@[simp] theorem State.modFlight_sessions (cid : Nat) (f : Flight → Flight) (s : State) : (s.modFlight cid f).sessions = s.sessions := rfl
@[simp] theorem State.modFlight_shakes (cid : Nat) (f : Flight → Flight) (s : State) : (s.modFlight cid f).shakes = s.shakes := rfl
@[simp] theorem State.modFlight_ports (cid : Nat) (f : Flight → Flight) (s : State) : (s.modFlight cid f).ports = s.ports := rfl
@[simp] theorem State.modFlight_dev (cid : Nat) (f : Flight → Flight) (s : State) : (s.modFlight cid f).dev = s.dev := rfl
@[simp] theorem State.modFlight_own (cid : Nat) (f : Flight → Flight) (s : State) : (s.modFlight cid f).own = s.own := rfl
@[simp] theorem State.modFlight_shell (cid : Nat) (f : Flight → Flight) (s : State) : (s.modFlight cid f).shell = s.shell := rfl
@[simp] theorem State.modFlight_evt (cid : Nat) (f : Flight → Flight) (s : State) : (s.modFlight cid f).evt = s.evt := rfl
@[simp] theorem State.modFlight_spool (cid : Nat) (f : Flight → Flight) (s : State) : (s.modFlight cid f).spool = s.spool := rfl
@[simp] theorem State.modFlight_mgmt (cid : Nat) (f : Flight → Flight) (s : State) : (s.modFlight cid f).mgmt = s.mgmt := rfl
@[simp] theorem State.modFlight_pos (cid : Nat) (f : Flight → Flight) (s : State) : (s.modFlight cid f).pos = s.pos := rfl
@[simp] theorem State.modFlight_power (cid : Nat) (f : Flight → Flight) (s : State) : (s.modFlight cid f).power = s.power := rfl
@[simp] theorem State.modFlight_heads (cid : Nat) (f : Flight → Flight) (s : State) : (s.modFlight cid f).heads = s.heads := rfl
@[simp] theorem State.modFlight_fire (cid : Nat) (f : Flight → Flight) (s : State) : (s.modFlight cid f).fire = s.fire := rfl
@[simp] theorem State.modFlight_lanes (cid : Nat) (f : Flight → Flight) (s : State) : (s.modFlight cid f).lanes = s.lanes := rfl
@[simp] theorem State.modFlight_comp (cid : Nat) (f : Flight → Flight) (s : State) : (s.modFlight cid f).comp = s.comp := rfl
@[simp] theorem State.modFlight_cams (cid : Nat) (f : Flight → Flight) (s : State) : (s.modFlight cid f).cams = s.cams := rfl
@[simp] theorem State.modFlight_insp (cid : Nat) (f : Flight → Flight) (s : State) : (s.modFlight cid f).insp = s.insp := rfl
@[simp] theorem State.modFlight_pack (cid : Nat) (f : Flight → Flight) (s : State) : (s.modFlight cid f).pack = s.pack := rfl
@[simp] theorem State.modFlight_dram (cid : Nat) (f : Flight → Flight) (s : State) : (s.modFlight cid f).dram = s.dram := rfl
@[simp] theorem State.modFlight_cal (cid : Nat) (f : Flight → Flight) (s : State) : (s.modFlight cid f).cal = s.cal := rfl
@[simp] theorem State.modFlight_test (cid : Nat) (f : Flight → Flight) (s : State) : (s.modFlight cid f).test = s.test := rfl
@[simp] theorem State.modFlight_cause (cid : Nat) (f : Flight → Flight) (s : State) : (s.modFlight cid f).cause = s.cause := rfl
@[simp] theorem State.modFlight_draws (cid : Nat) (f : Flight → Flight) (s : State) : (s.modFlight cid f).draws = s.draws := rfl
@[simp] theorem State.modFlight_hap (cid : Nat) (f : Flight → Flight) (s : State) : (s.modFlight cid f).hap = s.hap := rfl
@[simp] theorem State.modFlight_readings (cid : Nat) (f : Flight → Flight) (s : State) : (s.modFlight cid f).readings = s.readings := rfl
@[simp] theorem State.modFlight_out (cid : Nat) (f : Flight → Flight) (s : State) : (s.modFlight cid f).out = s.out := rfl
@[simp] theorem State.modFlight_stalled (cid : Nat) (f : Flight → Flight) (s : State) : (s.modFlight cid f).stalled = s.stalled := rfl
@[simp] theorem State.modFlight_parked (cid : Nat) (f : Flight → Flight) (s : State) : (s.modFlight cid f).parked = s.parked := rfl
@[simp] theorem State.modFlight_pending (cid : Nat) (f : Flight → Flight) (s : State) : (s.modFlight cid f).pending = s.pending := rfl

end Sys2Proof.Machine
end

