-- ==== Sys2Proof/Laws/Views.lean ====
section
/-! SUPPORT. What of a session and of the parameters stays when events are raised and replies are sent. -/
namespace Sys2Proof.Machine

/-! Sessions. -/

/-- What of a session neither its frames nor its event queue touch. -/
def Session.steady (x : Session) : Nat × Nat × Nat × List StageEntry × Nat × Bool × List Byte :=
  (x.num, x.role, x.subject, x.stage, x.subMask, x.subRing, x.capture)

/-- The same of every session. -/
def State.steady (s : State) : List (Nat × Nat × Nat × List StageEntry × Nat × Bool × List Byte) := s.sessions.map Session.steady

theorem State.steady_modSession (n : Nat) (f : Session → Session) (h : ∀ x, (f x).steady = x.steady) (s : State) :
    (s.modSession n f).steady = s.steady := by
  simp only [State.steady, State.modSession, List.map_map]
  apply List.map_congr_left
  intro x _
  simp only [Function.comp]
  split
  · exact h x
  · rfl

theorem Session.steady_stepTxc (now : Nat) (x : Session) : (x.stepTxc now).steady = x.steady := by
  unfold Session.stepTxc; dsimp only; split <;> split <;> rfl

theorem State.steady_sendFrame (n port ftype seq : Nat) (rtx : Bool) (p : Option Payload) (s : State) :
    (s.sendFrame n port ftype seq rtx p).steady = s.steady := by
  unfold State.sendFrame
  split
  · rfl
  · show State.steady (State.modSession n _ _) = _
    refine (State.steady_modSession _ _ ?_ _).trans rfl
    intro x
    exact Session.steady_stepTxc _ x

theorem State.steady_flush (fuel : Nat) : ∀ (n : Nat) (s : State), (State.flush fuel n s).steady = s.steady := by
  induction fuel with
  | zero => intro n s; rfl
  | succ k ih =>
    intro n s
    unfold State.flush
    split
    · rfl
    · split
      · simp only
        split
        · rfl
        · rw [ih, State.steady_sendFrame]
          refine (State.steady_modSession _ _ ?_ _).trans rfl
          intro x; rfl
      · rfl

@[simp] theorem State.steady_sendReply (n : Nat) (r : Reply) (s : State) : (s.sendReply n r).steady = s.steady := by
  unfold State.sendReply State.transmit
  simp only [State.steady_flush]
  refine (State.steady_modSession _ _ ?_ _).trans rfl
  intro x; rfl

theorem State.steady_when (c : Bool) (f : State → State) (h : ∀ s, (f s).steady = s.steady) (s : State) :
    (s.when c f).steady = s.steady := by
  unfold State.when; split <;> simp [h]

@[simp] theorem State.steady_sendPending (cid : Nat) (s : State) : (s.sendPending cid).steady = s.steady :=
  State.sendPending_keeps State.steady (fun n r s => State.steady_sendReply n r s) (fun _ _ _ _ => rfl) cid s

@[simp] theorem State.steady_finishWith (cid st p d : Nat) (again : Bool) (carries : Option Nat) (b : Body) (s : State) :
    (s.finishWith cid st p d again carries b).steady = s.steady :=
  State.finishWith_keeps State.steady (fun n r s => State.steady_sendReply n r s) (fun _ _ _ _ => rfl) _ _ _ _ _ _ _ s

@[simp] theorem conclude_steady (cid : Nat) (r : State × Verdict) : (conclude cid r).steady = r.1.steady := by
  obtain ⟨s, v⟩ := r
  cases v <;> simp [conclude, State.finish]

@[simp] theorem State.steady_deliver (opener n : Nat) (e : LogEntry) (s : State) : (s.deliver opener n e).steady = s.steady := by
  unfold State.deliver
  refine (State.steady_when _ _ ?_ _).trans ?_
  · intro s; rfl
  simp only [State.steady, List.map_map]
  apply List.map_congr_left
  intro x _
  simp only [Function.comp]
  split
  · unfold Session.queueEvent; split <;> rfl
  · rfl

/-- A session keeps what its frames and events do not touch. -/
theorem State.session_steady (n : Nat) (s t : State) (h : t.steady = s.steady) :
    (t.session n).map Session.steady = (s.session n).map Session.steady := by
  have key : ∀ l : List Session, (l.find? (fun x => x.num == n)).map Session.steady = (l.map Session.steady).find? (fun y => y.1 == n) := by
    intro l
    induction l with
    | nil => rfl
    | cons x l ih =>
      simp only [List.find?_cons, List.map_cons]
      by_cases hx : x.num = n
      · simp [Session.steady, hx]
      · have hb : (x.num == n) = false := by simp [hx]
        have hs : (x.steady.1 == n) = false := hb
        simp only [hb, hs]
        exact ih
  unfold State.session
  rw [key, key]
  exact congrArg _ h

theorem State.stageOf_steady (n : Nat) (s t : State) (h : t.steady = s.steady) : t.stageOf n = s.stageOf n := by
  have := State.session_steady n s t h
  unfold State.stageOf
  cases hs : s.session n <;> cases ht : t.session n <;> simp [hs, ht, Session.steady] at this ⊢
  exact this.2.2.2.1

/-! Parameters: counting frames, events and ring summaries touches services 0x03, 0x0C and 0x11 alone. -/

/-- A parameter of a service that sending and raising do not count in. -/
def quiet (id : Nat) : Prop := idSvc id ≠ 0x03 ∧ idSvc id ≠ 0x0C ∧ idSvc id ≠ 0x11

theorem State.par_bump_ne (id j n : Nat) (h : j ≠ id) (s : State) : (s.bump id n).par j = s.par j := State.par_setPar_ne _ _ _ h _

theorem State.par_when (j : Nat) (c : Bool) (f : State → State) (h : ∀ s, (f s).par j = s.par j) (s : State) : (s.when c f).par j = s.par j := by
  unfold State.when; split <;> simp [h]

theorem State.par_each {α : Type} (j : Nat) (f : α → State → State) (xs : List α) (h : ∀ x ∈ xs, ∀ s, (f x s).par j = s.par j) :
    ∀ s : State, (s.each xs f).par j = s.par j := by
  induction xs with
  | nil => intro s; rfl
  | cons x xs ih =>
    intro s
    exact (ih (fun y hy => h y (List.mem_cons_of_mem _ hy)) (f x s)).trans (h x (List.mem_cons_self) s)

theorem quiet.ne_svc {j i : Nat} (h : quiet j) (hi : idSvc i = 0x03 ∨ idSvc i = 0x0C ∨ idSvc i = 0x11) : j ≠ i := by
  intro e; subst e
  obtain ⟨a, b, c⟩ := h
  rcases hi with hi | hi | hi <;> contradiction

theorem State.par_sendFrame (j : Nat) (hj : quiet j) (n port ftype seq : Nat) (rtx : Bool) (p : Option Payload) (s : State) (hp : port < 4) :
    (s.sendFrame n port ftype seq rtx p).par j = s.par j := by
  have h1 : idSvc (Par.at_ Par.fresyUTxFrames port) = 0x03 := by
    simp only [idSvc, Par.at_, Par.fresyUTxFrames]; omega
  have h2 : idSvc (Par.at_ Par.fresyUTxBytes port) = 0x03 := by
    simp only [idSvc, Par.at_, Par.fresyUTxBytes]; omega
  unfold State.sendFrame
  split
  · rfl
  · refine (State.par_bump_ne _ _ _ (hj.ne_svc (.inl h2)) _).trans ?_
    exact (State.par_bump_ne _ _ _ (hj.ne_svc (.inl h1)) _).trans rfl

theorem State.bestPort_mem (s : State) (ps : List Nat) (p : Nat) (h : s.bestPort ps = some p) : p ∈ ps := by
  unfold State.bestPort at h
  have key : ∀ (q : Nat → Nat) (l : List Nat) (a : Option Nat),
      l.foldl (fun b p => match b with
        | none => some p
        | some c => if q p < q c then some p else some c) a = some p → p ∈ l ∨ a = some p := by
    intro q l
    induction l with
    | nil => intro a h; exact .inr h
    | cons x l ih =>
      intro a h
      rcases ih _ h with h | h
      · exact .inl (List.mem_cons_of_mem _ h)
      · cases a with
        | none => simp only [Option.some.injEq] at h; exact .inl (by rw [h]; exact List.mem_cons_self)
        | some c =>
          simp only at h
          split at h
          · simp only [Option.some.injEq] at h; exact .inl (by rw [h]; exact List.mem_cons_self)
          · exact .inr h
  rcases key _ _ _ h with h | h
  · exact h
  · exact absurd h (by simp)

theorem State.portSet_lt (s : State) (x : Session) (p : Nat) (h : p ∈ s.portSet x) : p < 4 := by
  simp only [State.portSet, State.upPorts, List.mem_filter, List.mem_range] at h
  exact h.1.1

theorem State.par_flush (j : Nat) (hj : quiet j) (fuel : Nat) : ∀ (n : Nat) (s : State), (State.flush fuel n s).par j = s.par j := by
  induction fuel with
  | zero => intro n s; rfl
  | succ k ih =>
    intro n s
    unfold State.flush
    split
    · rfl
    · split
      · next hb =>
        simp only
        split
        · rfl
        · rw [ih, State.par_sendFrame j hj]
          · rfl
          · exact State.portSet_lt _ _ _ (State.bestPort_mem _ _ _ hb)
      · rfl

theorem State.par_sendReply (j : Nat) (hj : quiet j) (n : Nat) (r : Reply) (s : State) : (s.sendReply n r).par j = s.par j := by
  unfold State.sendReply State.transmit
  simp only [State.par_flush j hj]
  rfl

theorem State.par_sendPending (j : Nat) (hj : quiet j) (cid : Nat) (s : State) : (s.sendPending cid).par j = s.par j :=
  State.sendPending_keeps (fun s => s.par j) (fun n r s => State.par_sendReply j hj n r s) (fun _ _ _ _ => rfl) cid s

theorem State.par_finishWith (j : Nat) (hj : quiet j) (cid st p d : Nat) (again : Bool) (carries : Option Nat) (b : Body) (s : State) :
    (s.finishWith cid st p d again carries b).par j = s.par j :=
  State.finishWith_keeps (fun s => s.par j) (fun n r s => State.par_sendReply j hj n r s) (fun _ _ _ _ => rfl) _ _ _ _ _ _ _ s

/-- The end of a command leaves every parameter of another service. -/
theorem conclude_par (j : Nat) (hj : quiet j) (cid : Nat) (r : State × Verdict) : (conclude cid r).par j = r.1.par j := by
  obtain ⟨s, v⟩ := r
  cases v with
  | done st d b => exact State.par_finishWith j hj _ _ _ _ _ _ _ _
  | pending => exact State.par_sendPending j hj _ _
  | later => rfl

@[simp] theorem State.par_emit (j : Nat) (o : Out) (s : State) : (s.emit o).par j = s.par j := rfl
@[simp] theorem State.par_modLane (j u : Nat) (f : Lane → Lane) (s : State) : (s.modLane u f).par j = s.par j := rfl
@[simp] theorem State.par_lineOut (j u : Nat) (f : Tx → Tx) (s : State) : (s.lineOut u f).par j = s.par j := by
  unfold State.lineOut; dsimp only; rw [State.par_emit, State.par_modLane]

theorem State.par_sendOn (j : Nat) (hj : quiet j) (lanes : List Nat) (hl : ∀ u ∈ lanes, u < 256) (fr : List Byte) (s : State) :
    (s.sendOn lanes fr).par j = s.par j := by
  unfold State.sendOn
  apply State.par_each
  intro u hu s
  have h : idSvc (Par.at_ Par.laneUFramesTx u) = 0x0C := by
    have := hl u (List.mem_filter.mp hu).1
    simp only [idSvc, Par.at_, Par.laneUFramesTx]; omega
  unfold State.frameOut
  rw [State.par_bump_ne _ _ _ (hj.ne_svc (.inr (.inl h))), State.par_modLane, State.par_lineOut, State.par_emit]

theorem State.par_sendRing (j : Nat) (hj : quiet j) (ftype dst : Nat) (p : List Byte) (s : State) : (s.sendRing ftype dst p).par j = s.par j := by
  unfold State.sendRing State.sendFrameGen
  simp only
  rw [State.par_sendOn j hj]
  · rfl
  · intro u hu
    simp only [eastA, westB, List.mem_cons, List.mem_nil_iff, or_false] at hu
    omega

theorem State.par_summarise (j : Nat) (hj : quiet j) (ev svc unit : Nat) (s : State) : (s.summarise ev svc unit).par j = s.par j := by
  unfold State.summarise
  dsimp only
  repeat' split
  all_goals first | rfl | (unfold State.sendSummary; rw [State.par_sendRing j hj]; rfl)

theorem State.par_deliver (j : Nat) (hj : quiet j) (opener n : Nat) (e : LogEntry) (s : State) : (s.deliver opener n e).par j = s.par j := by
  unfold State.deliver
  refine (State.par_when j _ _ ?_ _).trans rfl
  intro s
  exact State.par_bump_ne _ _ _ (hj.ne_svc (.inr (.inr (by decide)))) _

theorem State.par_latch (j : Nat) (r : EvRow) (u : Nat) (s : State) : (s.latch r u).par j = s.par j := by
  unfold State.latch; split <;> rfl

theorem State.par_pulsePins (j : Nat) (r : EvRow) (s : State) : (s.pulsePins r).par j = s.par j := by
  unfold State.pulsePins; split <;> rfl

theorem evRow_lt (ev : Nat) (r : EvRow) (h : evRow ev = some r) : ev < 128 := by
  have hm := List.mem_of_find?_eq_some h
  have hp := List.find?_some h
  have hall : evRows.all (fun r => decide (r.ev < 128)) = true := by decide
  have := List.all_eq_true.mp hall r hm
  simp only [decide_eq_true_eq] at this
  simp only [beq_iff_eq] at hp
  omega

/-- Raising an event leaves every parameter of another service. -/
theorem State.par_raiseCore (j : Nat) (hj : quiet j) (svc ev unit key t opener : Nat) (args : List Byte) (s : State) :
    (s.raiseCore svc ev unit key t opener args).par j = s.par j := by
  unfold State.raiseCore
  split
  · rfl
  · next r hr =>
    have hlt := evRow_lt ev r hr
    have h1 : idSvc (Par.evtCount000 + ev) = 0x11 := by simp only [idSvc, Par.evtCount000]; omega
    simp only
    rw [State.par_summarise j hj, State.par_deliver j hj, State.par_pulsePins, State.par_bump_ne _ _ _ (hj.ne_svc (.inr (.inr h1))),
      State.par_bump_ne _ _ _ (hj.ne_svc (.inr (.inr (by decide)))), State.par_latch]
    rfl

theorem State.par_raise (j : Nat) (hj : quiet j) (ev unit : Nat) (args : List Byte) (s : State) : (s.raise ev unit args).par j = s.par j :=
  State.par_raiseCore j hj _ _ _ _ _ _ _ _

theorem State.par_record (j : Nat) (hj : quiet j) (code svc unit : Nat) (args : List Byte) (s : State) :
    (s.record code svc unit args).par j = s.par j := by
  unfold State.record
  simp only
  rw [State.par_deliver j hj]; rfl

end Sys2Proof.Machine
end

