-- ==== Sys2Proof/WellFormed.lean ====
section
/-! DEFINITION. The form of a command: each operand within the range that its field or its number in the spec has. The machine
itself is total; a packet or frame that breaks the rules of its layout is still a command, and its meaning answers for it. -/
namespace Sys2Proof

/-- A value below a bound. -/
def below (n v : Nat) : Bool := decide (v < n)

/-- A value of a field of so many bits. -/
def inBits (n v : Nat) : Bool := decide (v < 2 ^ n)

/-- A value at or above a bound. -/
def atLeast (n v : Nat) : Bool := decide (n ≤ v)

/-- A value at or below a bound. -/
def atMost (n v : Nat) : Bool := decide (v ≤ n)

/-- A packet header (R80): a session number, TAG, and the bytes 6 and 7. -/
def Hdr.wf (h : Hdr) : Bool := 1 ≤ h.session && h.session ≤ 16 && h.tag < 65536 && h.flags < 256 && h.rsv < 256

/-- A packet body (R80): LEN is a multiple of 4 and at most 9,120, header included. -/
def bodyWf (b : List Byte) : Bool := b.length % 4 == 0 && b.length ≤ 9112

/-- The fields of a Fresy frame (R54). -/
def Frame.wf (f : Frame) : Bool :=
  f.port < 4 && f.dst < 2 ^ 48 && f.src < 2 ^ 48 && f.vlan.all (fun v => v < 2 ^ 16) && f.ethertype < 2 ^ 16 && f.ver < 16 && f.session < 32 && f.seq < 2 ^ 32
    && f.ack < 2 ^ 32 && f.sack < 2 ^ 64 && f.credit < 2 ^ 32 && f.len < 65536 && f.ports < 16 && f.txc < 2 ^ 32 && f.rsv < 2 ^ 28
    && f.tag.length ≤ 16

/-- A Causeway frame comes on a Causeway lane (*Causeway frame*). -/
def CFrame.wf (f : CFrame) : Bool := 32 ≤ f.lane && f.lane < 36

/-- A command whose operands lie within their ranges. -/
def wellFormed (i : Instr) : Bool :=
  match i with
  | .devParamRead t h b => inBits 64 t && h.wf && bodyWf b
  | .devParamStage t h b => inBits 64 t && h.wf && bodyWf b
  | .devParamCommit t h b => inBits 64 t && h.wf && bodyWf b
  | .devParamWrite t h b => inBits 64 t && h.wf && bodyWf b
  | .devStageClear t h b => inBits 64 t && h.wf && bodyWf b
  | .devStageRead t h b => inBits 64 t && h.wf && bodyWf b
  | .devResultRead t h b => inBits 64 t && h.wf && bodyWf b
  | .devResultRelease t h b => inBits 64 t && h.wf && bodyWf b
  | .devStatus t h b => inBits 64 t && h.wf && bodyWf b
  | .devEcho t h b => inBits 64 t && h.wf && bodyWf b
  | .shellJobKeyLoad t h b _ => inBits 64 t && h.wf && bodyWf b
  | .shellJobKeyDrop t h b => inBits 64 t && h.wf && bodyWf b
  | .shellRekey t h b => inBits 64 t && h.wf && bodyWf b
  | .shellCommissionBurn t h b _ => inBits 64 t && h.wf && bodyWf b
  | .shellCommissionRevoke t h b => inBits 64 t && h.wf && bodyWf b
  | .shellCertRead t h b _ _ => inBits 64 t && h.wf && bodyWf b
  | .shellAttest t h b => inBits 64 t && h.wf && bodyWf b
  | .fresyPortStatus t h b => inBits 64 t && h.wf && bodyWf b
  | .fresySessionList t h b => inBits 64 t && h.wf && bodyWf b
  | .ownClaim t h b => inBits 64 t && h.wf && bodyWf b
  | .ownRelease t h b => inBits 64 t && h.wf && bodyWf b
  | .ownLeaseRenew t h b => inBits 64 t && h.wf && bodyWf b
  | .ownHandoverOffer t h b => inBits 64 t && h.wf && bodyWf b
  | .ownHandoverAccept t h b => inBits 64 t && h.wf && bodyWf b
  | .ownUnpin t h b => inBits 64 t && h.wf && bodyWf b
  | .ownPolicyReset t h b => inBits 64 t && h.wf && bodyWf b
  | .ownPinList t h b => inBits 64 t && h.wf && bodyWf b
  | .spoolSegOpen t h b => inBits 64 t && h.wf && bodyWf b
  | .spoolSegData t h b _ => inBits 64 t && h.wf && bodyWf b
  | .spoolSegClose t h b => inBits 64 t && h.wf && bodyWf b
  | .spoolSegCancel t h b => inBits 64 t && h.wf && bodyWf b
  | .spoolGroupArm t h b => inBits 64 t && h.wf && bodyWf b
  | .spoolSegStatus t h b => inBits 64 t && h.wf && bodyWf b
  | .spoolRecordRead t h b => inBits 64 t && h.wf && bodyWf b
  | .spoolRepeat t h b => inBits 64 t && h.wf && bodyWf b
  | .spoolAccountRead t h b => inBits 64 t && h.wf && bodyWf b
  | .dramStatus t h b => inBits 64 t && h.wf && bodyWf b
  | .dramErrorRead t h b => inBits 64 t && h.wf && bodyWf b
  | .decodeStatus t h b => inBits 64 t && h.wf && bodyWf b
  | .compLedgerRead t h b => inBits 64 t && h.wf && bodyWf b
  | .compNozzleSet t h b => inBits 64 t && h.wf && bodyWf b
  | .compTableWrite t h b => inBits 64 t && h.wf && bodyWf b
  | .compChartQueue t h b => inBits 64 t && h.wf && bodyWf b
  | .compAlignApply t h b => inBits 64 t && h.wf && bodyWf b
  | .posStatus t h b => inBits 64 t && h.wf && bodyWf b
  | .posChannelSelect t h b => inBits 64 t && h.wf && bodyWf b
  | .posRejectTest t h b => inBits 64 t && h.wf && bodyWf b
  | .fireStatus t h b => inBits 64 t && h.wf && bodyWf b
  | .headMemoryRead t h b => inBits 64 t && h.wf && bodyWf b
  | .headPower t h b => inBits 64 t && h.wf && bodyWf b
  | .headRecipeWrite t h b => inBits 64 t && h.wf && bodyWf b
  | .headReauth t h b => inBits 64 t && h.wf && bodyWf b
  | .laneStatus t h b => inBits 64 t && h.wf && bodyWf b
  | .laneRetrain t h b => inBits 64 t && h.wf && bodyWf b
  | .laneLoopback t h b => inBits 64 t && h.wf && bodyWf b
  | .camStatus t h b => inBits 64 t && h.wf && bodyWf b
  | .camRegRead t h b => inBits 64 t && h.wf && bodyWf b
  | .camRegWrite t h b => inBits 64 t && h.wf && bodyWf b
  | .camStatsRead t h b => inBits 64 t && h.wf && bodyWf b
  | .inspStatsRead t h b => inBits 64 t && h.wf && bodyWf b
  | .inspImageRequest t h b => inBits 64 t && h.wf && bodyWf b
  | .inspCoverageRead t h b => inBits 64 t && h.wf && bodyWf b
  | .inspChartMeasure t h b => inBits 64 t && h.wf && bodyWf b
  | .causeStatus t h b => inBits 64 t && h.wf && bodyWf b
  | .causeEnumerate t h b => inBits 64 t && h.wf && bodyWf b
  | .causeMemberList t h b => inBits 64 t && h.wf && bodyWf b
  | .packCompress t h b => inBits 64 t && h.wf && bodyWf b
  | .packDecompress t h b => inBits 64 t && h.wf && bodyWf b
  | .packAbort t h b => inBits 64 t && h.wf && bodyWf b
  | .evtSubscribe t h b => inBits 64 t && h.wf && bodyWf b
  | .evtLogRead t h b => inBits 64 t && h.wf && bodyWf b
  | .evtClear t h b => inBits 64 t && h.wf && bodyWf b
  | .evtLogExport t h b => inBits 64 t && h.wf && bodyWf b
  | .mgmtMailboxPost t h b => inBits 64 t && h.wf && bodyWf b
  | .mgmtMailboxAcknowledge t h b => inBits 64 t && h.wf && bodyWf b
  | .mgmtMailboxRead t h b => inBits 64 t && h.wf && bodyWf b
  | .mgmtAcknowledgeTake t h b => inBits 64 t && h.wf && bodyWf b
  | .mgmtDoorbell t h b => inBits 64 t && h.wf && bodyWf b
  | .powerStatus t h b => inBits 64 t && h.wf && bodyWf b
  | .powerFwStage t h b _ _ => inBits 64 t && h.wf && bodyWf b
  | .powerFwSwitch t h b => inBits 64 t && h.wf && bodyWf b
  | .powerRestartReport t h b => inBits 64 t && h.wf && bodyWf b
  | .calRun t h b _ => inBits 64 t && h.wf && bodyWf b
  | .calVerify t h b _ => inBits 64 t && h.wf && bodyWf b
  | .calHoldupTest t h b mv => inBits 64 t && h.wf && bodyWf b && inBits 16 mv
  | .testBist t h b _ => inBits 64 t && h.wf && bodyWf b
  | .testCapture t h b => inBits 64 t && h.wf && bodyWf b
  | .utcFloorWrite t session value => inBits 64 t && atLeast 1 session && atMost 16 session && inBits 64 value
  | .svnCommitWrite t session value => inBits 64 t && atLeast 1 session && atMost 16 session && inBits 64 value
  | .readParam t mosi => inBits 64 t && atMost 600 mosi.length
  | .writeParam t mosi => inBits 64 t && atMost 600 mosi.length
  | .mgmtHolderClaim t value => inBits 64 t && inBits 64 value
  | .mgmtHolderRelease t => inBits 64 t
  | .result t mosi => inBits 64 t && atMost 600 mosi.length
  | .logRead t mosi => inBits 64 t && atMost 600 mosi.length
  | .mboxPost t mosi => inBits 64 t && atMost 600 mosi.length
  | .mboxRead t mosi => inBits 64 t && atMost 600 mosi.length
  | .mboxAck t mosi => inBits 64 t && atMost 600 mosi.length
  | .ackRead t mosi => inBits 64 t && atMost 600 mosi.length
  | .bellRing t mosi => inBits 64 t && atMost 600 mosi.length
  | .bellTake t mosi => inBits 64 t && atMost 600 mosi.length
  | .sideReset t mosi => inBits 64 t && atMost 600 mosi.length
  | .hello t f payload _ _ _ => inBits 64 t && f.wf && atMost 9120 payload.length
  | .prove t f payload _ => inBits 64 t && f.wf && atMost 9120 payload.length
  | .handshakeAbandon t _ _ => inBits 64 t
  | .data t f payload => inBits 64 t && f.wf && atMost 9120 payload.length
  | .ack t f => inBits 64 t && f.wf
  | .close t c => inBits 64 t && c.frame.wf
  | .fencedCommandStart t _ => inBits 64 t
  | .retransmitTimer t session seq => inBits 64 t && atLeast 1 session && atMost 16 session && inBits 32 seq
  | .fresyLockLoss t port => inBits 64 t && below (4) port
  | .portSilenceExpiry t port => inBits 64 t && below (4) port
  | .fresyPortRejoin t port => inBits 64 t && below (4) port
  | .rideThroughExpiry t session => inBits 64 t && atLeast 1 session && atMost 16 session
  | .keepaliveExpiry t session port => inBits 64 t && atLeast 1 session && atMost 16 session && below (4) port
  | .epochWindowEnd t session _ => inBits 64 t && atLeast 1 session && atMost 16 session
  | .deferredRekeyStart t session => inBits 64 t && atLeast 1 session && atMost 16 session
  | .creditGrant t session => inBits 64 t && atLeast 1 session && atMost 16 session
  | .idleLimitExpiry t session => inBits 64 t && atLeast 1 session && atMost 16 session
  | .resultRetentionExpiry t session tag => inBits 64 t && atLeast 1 session && atMost 16 session && below (65535) tag
  | .eventFrameSend t session => inBits 64 t && atLeast 1 session && atMost 16 session
  | .leaseEnd t => inBits 64 t
  | .handoverWindowEnd t => inBits 64 t
  | .mgmtIdleExpiry t => inBits 64 t
  | .lockstepMismatch t pair _ => inBits 64 t && below (2) pair
  | .coreRestartComplete t pair => inBits 64 t && below (2) pair
  | .coreRestartTimeout t pair => inBits 64 t && below (2) pair
  | .inspEngineFail t engine => inBits 64 t && below (8) engine
  | .paceWindow t _ => inBits 64 t
  | .vddCoreLower t => inBits 64 t
  | .vddCoreRaise t => inBits 64 t
  | .readVoutCheck t _ _ _ => inBits 64 t
  | .islandReset t svc unit _ _ => inBits 64 t && atLeast 1 svc && atMost 0x15 svc && below (37) unit
  | .straitResync t svc unit => inBits 64 t && atLeast 1 svc && atMost 0x15 svc && below (37) unit
  | .horizonEntry t handle => inBits 64 t && inBits 64 handle
  | .pgoEdgeLatch t input _ => inBits 64 t && below (4) input
  | .pgoEdgeConfirm t input => inBits 64 t && below (4) input
  | .pgoPulseDiscard t input => inBits 64 t && below (4) input
  | .stripCheckStart t handle head k unit => inBits 64 t && inBits 64 handle && below 16 head && below (4096) k && below (32) unit
  | .stripCheckComplete t handle head k _ _ => inBits 64 t && inBits 64 handle && below 16 head && below (4096) k
  | .groupVoteTimeout t group => inBits 64 t && inBits 64 group
  | .groupCommitInstant t group => inBits 64 t && inBits 64 group
  | .groupDecisionLost t handle => inBits 64 t && inBits 64 handle
  | .groupWaitExpiry t handle => inBits 64 t && inBits 64 handle
  | .chunkStart t handle head k start unit _ => inBits 64 t && inBits 64 handle && below 16 head && below (4096) k && inBits 19 start && below (32) unit
  | .chunkRestart t handle head k start unit _ _ => inBits 64 t && inBits 64 handle && below 16 head && below (4096) k && inBits 19 start && below (32) unit
  | .decodeUnitOut t unit => inBits 64 t && below (32) unit
  | .checkUnitOut t unit => inBits 64 t && below (32) unit
  | .lineBoundary t head _ => inBits 64 t && below 16 head
  | .goLaunch t lane lseq _ => inBits 64 t && below (36) lane && inBits 16 lseq
  | .status t lane temp _ _ _ _ => inBits 64 t && below (36) lane && inBits 16 temp
  | .tempLoopTick t head => inBits 64 t && below 16 head
  | .lineAck t lane lseq flag mask => inBits 64 t && below (36) lane && inBits 16 lseq && below (256) flag && inBits 16 mask
  | .lineAckTimeout t head lseq => inBits 64 t && below 16 head && inBits 16 lseq
  | .headHello t lane _ _ _ => inBits 64 t && below (36) lane
  | .memData t lane _ _ _ _ _ => inBits 64 t && below (36) lane
  | .tableResend t head _ _ => inBits 64 t && below 16 head
  | .powerGoodTimeout t head => inBits 64 t && below 16 head
  | .headFaultClear t head => inBits 64 t && below 16 head
  | .statusSilence t head => inBits 64 t && below 16 head
  | .gateReport t lane lseq flag mask => inBits 64 t && below (36) lane && inBits 16 lseq && below (256) flag && inBits 16 mask
  | .gateReportTimeout t head _ => inBits 64 t && below 16 head
  | .gateActivate t gate => inBits 64 t && below (6) gate
  | .gateRelease t gate => inBits 64 t && below (6) gate
  | .hpenReadbackFault t _ => inBits 64 t
  | .laneLossReport t lane => inBits 64 t && below (36) lane
  | .laneRestoreHoldEnd t lane => inBits 64 t && below (36) lane
  | .laneFault t lane reason => inBits 64 t && below (36) lane && below 16 reason
  | .laneRetrainTimer t lane => inBits 64 t && below (36) lane
  | .loadCheck t lane _ => inBits 64 t && below (36) lane
  | .train t lane _ _ _ _ => inBits 64 t && below (36) lane
  | .trainTimeout t lane => inBits 64 t && below (36) lane
  | .align t lane _ _ _ _ => inBits 64 t && below (36) lane
  | .alignDue t lane _ => inBits 64 t && below (36) lane
  | .fillDue t run => inBits 64 t && below (36) run.lane && inBits 16 run.n
  | .farRxSilence t lane => inBits 64 t && below (36) lane
  | .thealFrameReceive t lane _ _ => inBits 64 t && below (36) lane
  | .loop t lane _ => inBits 64 t && below (36) lane
  | .farLoopbackExpiry t lane => inBits 64 t && below (36) lane
  | .loopbackEnd t lane _ _ _ => inBits 64 t && below (36) lane
  | .encoderCount t ch _ _ _ => inBits 64 t && below (2) ch
  | .sincosSample t ch _ _ _ => inBits 64 t && below (2) ch
  | .interpolationStop t => inBits 64 t
  | .channelFault t ch reason => inBits 64 t && below (2) ch && below 16 reason
  | .channelRecover t ch => inBits 64 t && below (2) ch
  | .speedWindow t => inBits 64 t
  | .indexPulse t z => inBits 64 t && below (2) z.ch
  | .indexMissing t ch => inBits 64 t && below (2) ch
  | .resnap t => inBits 64 t
  | .rejectDue t output => inBits 64 t && below (2) output
  | .rejectPulseEnd t output => inBits 64 t && below (2) output
  | .deferredOutApply t => inBits 64 t
  | .alignApplied t head => inBits 64 t && below 16 head
  | .journalGroupAdmit t => inBits 64 t
  | .ledgerCheckpoint t => inBits 64 t
  | .stitchChange t f => inBits 64 t && f.wf
  | .stitchOffer t f => inBits 64 t && f.wf
  | .stitchAck t f => inBits 64 t && f.wf
  | .zoneState t f => inBits 64 t && f.wf
  | .peerPathTimeout t peer => inBits 64 t && below (1024) peer
  | .cameraTrigger t port => inBits 64 t && below (4) port
  | .cameraLine t port _ _ _ => inBits 64 t && below (4) port
  | .cameraFrameClose t port _ _ _ _ => inBits 64 t && below (4) port
  | .camPacketError t port => inBits 64 t && below (4) port
  | .camLinkDown t port => inBits 64 t && below (4) port
  | .camLinkUp t port _ => inBits 64 t && below (4) port
  | .camAckTimeout t port => inBits 64 t && below (4) port
  | .camControlAck t port _ _ _ => inBits 64 t && below (4) port
  | .defectAnalysis t engine => inBits 64 t && below (8) engine
  | .defectAlarmClear t cls => inBits 64 t && atLeast 1 cls && atMost 6 cls
  | .nozzleHealthAnalysis t engine => inBits 64 t && below (8) engine
  | .alignmentAnalysis t engine _ => inBits 64 t && below (8) engine
  | .coverageLow t => inBits 64 t
  | .frameBufferHoldExpiry t port _ => inBits 64 t && below (4) port
  | .measurementExpiry t handle => inBits 64 t && inBits 64 handle
  | .chartMeasureDone t _ _ => inBits 64 t
  | .time t f _ => inBits 64 t && f.wf
  | .timeSend t lane => inBits 64 t && below (36) lane
  | .beacon t f => inBits 64 t && f.wf
  | .beaconSend t => inBits 64 t
  | .position t f => inBits 64 t && f.wf
  | .positionSend t => inBits 64 t
  | .discover t f _ => inBits 64 t && f.wf
  | .discoverReply t f => inBits 64 t && f.wf
  | .enumCollectEnd t => inBits 64 t
  | .key t f _ _ _ => inBits 64 t && f.wf
  | .keyInstall t => inBits 64 t
  | .startupEnumerate t => inBits 64 t
  | .join t f => inBits 64 t && f.wf
  | .joinSend t => inBits 64 t
  | .reenumerate t => inBits 64 t
  | .prepare t f => inBits 64 t && f.wf
  | .vote t f => inBits 64 t && f.wf
  | .commit t f => inBits 64 t && f.wf
  | .abort t f => inBits 64 t && f.wf
  | .eventSummary t f => inBits 64 t && f.wf
  | .timeSourceSilence t => inBits 64 t
  | .timeSourceBetter t lane => inBits 64 t && below (36) lane
  | .holdoverExpiry t => inBits 64 t
  | .posTimeoutExpiry t => inBits 64 t
  | .ringOpen t ring => inBits 64 t && below (2) ring
  | .causeMemberLost t addr => inBits 64 t && below (1024) addr
  | .dramDiscovery t _ _ _ _ => inBits 64 t
  | .dramReadRequest t sub _ _ => inBits 64 t && below (4) sub
  | .dramWriteRequest t port _ _ _ => inBits 64 t && below (6) port
  | .writeDrain t sub n => inBits 64 t && below (4) sub && inBits 16 n
  | .requestUrgent t sub port _ => inBits 64 t && below (4) sub && below (6) port
  | .dramPrintLate t sub => inBits 64 t && below (4) sub
  | .refreshDue t sub rank temp => inBits 64 t && below (4) sub && below (4) rank && inBits 16 temp
  | .powerDownEntry t sub rank => inBits 64 t && below (4) sub && below (4) rank
  | .dqsOscillatorRead t sub _ temp => inBits 64 t && below (4) sub && inBits 16 temp
  | .retrainWindow t sub _ => inBits 64 t && below (4) sub
  | .scrubRead t _ => inBits 64 t
  | .scrubWriteBack t _ => inBits 64 t
  | .packJobStart t => inBits 64 t
  | .packJobComplete t _ => inBits 64 t
  | .packUnitFault t => inBits 64 t
  | .eventPinPulseEnd t pin => inBits 64 t && below (4) pin
  | .shellTamper t => inBits 64 t
  | .entropyFail t _ => inBits 64 t
  | .fuseProgramDone t _ => inBits 64 t
  | .porstAssert t _ => inBits 64 t
  | .porstRelease t _ => inBits 64 t
  | .sysrstAssert t => inBits 64 t
  | .sagRecognised t mv => inBits 64 t && inBits 16 mv
  | .sagGlitch t mv => inBits 64 t && inBits 16 mv
  | .sagGateDone t => inBits 64 t
  | .saveModeEntry t => inBits 64 t
  | .saveComplete t => inBits 64 t
  | .holdRestart t mv => inBits 64 t && inBits 16 mv
  | .shellRomDone t _ _ serial _ _ => inBits 64 t && inBits 64 serial
  | .imageVerified t _ _ => inBits 64 t
  | .enginesLoaded t => inBits 64 t
  | .restore t _ _ _ _ _ => inBits 64 t
  | .phaseReady t => inBits 64 t
  | .saveStoreRetry t _ => inBits 64 t
  | .railFault t rail => inBits 64 t && below (256) rail
  | .fwBankErased t => inBits 64 t
  | .firmwareGap t => inBits 64 t
  | .fwGapWaitExpiry t => inBits 64 t
  | .tjSample t _ _ _ => inBits 64 t
  | .calStale t element => inBits 64 t && below (9) element
  | .holdupTestDone t _ _ _ _ => inBits 64 t
  | .testEnRise t => inBits 64 t
  | .testEnFall t => inBits 64 t
  | .tapReset t => inBits 64 t
  | .extest t _ _ => inBits 64 t
  | .sample t _ => inBits 64 t
  | .preload t _ _ => inBits 64 t
  | .idcode t => inBits 64 t
  | .clamp t => inBits 64 t
  | .highz t => inBits 64 t
  | .extestPulse t _ _ => inBits 64 t
  | .extestTrain t _ _ => inBits 64 t
  | .bypass t opcode => inBits 64 t && inBits 16 opcode
  | .hpenReadbackAgree t head => inBits 64 t && below 16 head
  | .railsGood t => inBits 64 t
  | .oldGenerationWindowEnd t => inBits 64 t
  | .checkpointWritten t _ => inBits 64 t
  | .fwSwitchComplete t _ => inBits 64 t
  | .captureComplete t _ _ => inBits 64 t
  | .malformedTransaction t mosi => inBits 64 t && atMost 600 mosi.length
  | .eventSummarySend t ev => inBits 64 t && below (128) ev

end Sys2Proof
end

