-- ==== Sys2Proof/Tests/Slice0.lean ====
section
/-! SUPPORT. The model's own tests: one theorem for each check of a command's form, and for every clause of a statement a state and
operands that meet its conditions together. Expected values come from the spec. -/
namespace Sys2Proof.Tests
open Sys2Proof Sys2Proof.Machine
set_option Elab.async false

/-- A key epoch of zeros. -/
def epoch0 : Epoch := ⟨List.replicate 32 0, List.replicate 8 0, List.replicate 48 0⟩

/-- An open session of a role. -/
def sess (n role : Nat) : Session :=
  { num := n, role := role, subject := 100 + n, root := 7, commissioning := false, hostPorts := 15, macs := [], opened := 0, lastCmd := 0, lastCmdAt := 0
    commands := 0, txSeq := 0, rxNext := 0, lastAck := 0, held := [], unacked := [], txq := [], creditLimit := 0, blocksSent := 0, grant := 0
    blocksTaken := 0, blocksHeld := 0, txc := 0, rxTxc := 0, tx := epoch0, rx := epoch0, rxOld := none, epochTx := false, epochRx := false, txNew := false
    rxWindow := none, txWindow := none, rekeyHeld := false, rekeys := 0, portTx := [0, 0, 0, 0], ackDue := false, setPorts := 15, downSince := none
    subMask := 0, subRing := false, evq := [], dropped := 0, stage := [], capture := [], capturePod := none, failures := [] }

/-- A state in which sessions 1 (Integrator) and 2 (Operator) are open. -/
def two : State := { State.reset with sessions := [sess 1 1, sess 2 2] }

/-- The same with ownership held by session 1. -/
def owned : State := { two with own := { two.own with state := 1, holder := 1, leaseEnd := 10000000000, leaseMs := 10000 } }

/-- A header of session 1 with TAG 5. -/
def h1 : Hdr := ⟨1, 5, 0, 0⟩

/-- The outcome is a next state with a property. -/
def goes (o : Host.Outcome State Fault Refusal) (p : State → Bool) : Bool :=
  match o with
  | .next s => p s
  | _ => false

/-- The FINAL reply of `Replied`, as a computation. -/
def replied (h : Hdr) (op st d : Nat) (body : Body) (s : State) : Bool :=
  s.out.any (fun o => match o with
    | .reply n r => n == h.session && r.opcode == op && r.tag == h.tag && r.final && r.status == st && r.detail == d && r.body == body
    | _ => false)

/-- `Taken` of every host opcode, at 7. -/
def TakenAll (h : Hdr) (s : State) : Bool := (List.range 22).all (fun svc => Taken (256 * svc + 1) 7 h s)

/-- A header of session 2 with TAG 6. -/
def h2' : Hdr := ⟨2, 6, 0, 0⟩

/-- Ports F0 and F1 are up, in phase READY. -/
def wired : State := ({ two with ports := [⟨true, 0, 0, 0⟩, ⟨true, 0, 0, 0⟩, ⟨false, 0, 0, 0⟩, ⟨false, 0, 0, 0⟩] }).setPar Par.powerPhase 5
/-- A frame at port 0 with its sequence number, without its tag. -/
def bare (n seq len : Nat) : Frame :=
  ⟨0, 66 + len, true, false, 0, 34, none, 0x88B6, 1, n, false, false, false, seq, 0, 0, 0, len, 15, 3, 0, []⟩
/-- Its ciphertext and the frame with its tag, for a session whose receive epoch is that of `sess`. -/
def cipher (ftype : Nat) (f : Frame) (plain : List Byte) : List Byte × List Byte :=
  gcmSeal 16 epoch0.key (epoch0.nonce f.txc) (fresyHeader f.ver ftype f.rtx f.ackreq f.epoch f.session f.seq f.ack f.sack f.credit f.len f.ports f.txc f.rsv) plain
def tagged (ftype : Nat) (f : Frame) (plain : List Byte) : Frame := { f with tag := (cipher ftype f plain).2 }
/-- A chain that verifies under slot 0; its leaf's private key is 5. -/
def chainOf : Chain := ⟨true, 2, 1, 7, false, 0, 1000, ecPublic 5⟩
/-- A HELLO payload: handshake ID 5, role 2, ports 15, the ephemeral key of 6, a nonce and no chain. -/
def helloBytes : List Byte := leBytes 8 5 ++ [2, 15, 0, 0] ++ ecPublic 6 ++ List.replicate 34 0
/-- The same without a point. -/
def helloPlain : List Byte := leBytes 8 5 ++ [2, 15] ++ List.replicate 133 0
def helloFrame : Frame := { bare 0 0 143 with session := 0 }
/-- One handshake in progress, whose ephemeral private key is 3, and slot 0 burnt. -/
def handshake0 : Handshake := ⟨0, 34, 5, 2, 15, chainOf, 0, helloBytes, leBytes 8 5 ++ [1, 2, 3], 3⟩
def shaking : State := { wired with
  shakes := [handshake0], draws := 1, shell := { wired.shell with slots := [⟨1, false, 7⟩, ⟨0, false, 0⟩, ⟨0, false, 0⟩, ⟨0, false, 0⟩] } }
/-- Four handshakes in progress. -/
def fourShakes : State := { wired with shakes := (List.range 4).map (fun i => { handshake0 with src := 35 + i }) }
/-- A PROVE whose signature holds, and one of zeros. -/
def proveBytes : List Byte := leBytes 8 5 ++ ecdsaSign 5 7 (shakeLabel ++ handshake0.hello ++ handshake0.challenge)
def proveBad : List Byte := leBytes 8 5 ++ List.replicate 96 0
theorem wit_hello : FrameTaken 0 helloFrame wired = true ∧ helloOk helloFrame helloPlain = true ∧ 3 ≤ wired.par Par.powerPhase ∧ wired.noRandom = false ∧
    wired.shakes.length < 4 := by decide +kernel
theorem wit_hello_again : FrameTaken 0 helloFrame shaking = true ∧ (shaking.shakes.find? (fun h => h.src == 34 && h.id == 5)).isSome = true ∧
    goes (exec (.hello 9 helloFrame helloPlain chainOf () ()) shaking) (fun s' => s'.shakes.length == 1 && s'.out.length == 1) = true := by decide +kernel
theorem wit_hello_busy : FrameTaken 0 helloFrame fourShakes = true ∧ fourShakes.shakes.all (fun h => !(h.src == 34 && h.id == 5)) = true ∧ 4 ≤ fourShakes.shakes.length ∧
    goes (exec (.hello 9 helloFrame helloPlain chainOf () ()) fourShakes) (fun s' => s'.shakes.length == 4 && s'.out.contains
      (.handshake 0 34 5 5 none (shakeBytes 5 (leBytes 8 5 ++ [0x15, 4])))) = true := by decide +kernel
theorem wit_prove : proveBytes.length = 104 ∧ (shaking.at_ 9).proveCheck handshake0 proveBytes = none ∧ shaking.freeSession = some 3 := by decide +kernel
theorem wit_prove_fails : FrameTaken 0 (bare 0 0 104) shaking = true ∧ proveBad.length = 104 ∧ (shaking.at_ 9).proveCheck handshake0 proveBad = some 0x0302 ∧
    goes (exec (.prove 9 (bare 0 0 104) proveBad ()) shaking) (fun s' => s'.shakes == []) = true := by decide +kernel
theorem wit_abandon : goes (exec (.handshakeAbandon 200000000 34 5) shaking) (fun s' => s'.shakes == []) = true ∧
    goes (exec (.handshakeAbandon 199999999 34 5) shaking) (fun s' => s'.shakes.length == 1) = true := by decide +kernel

/-- A session with credit for one full frame, and a command in flight. -/
def running : State := { wired with
  sessions := [{ sess 1 1 with grant := 144, rxNext := 10, creditLimit := 5 }, sess 2 2]
  flights := [⟨0, 0, 1, 1, 101, 9, 0x0504, [], 0, 0, true, false, none, none, 0, none, 0⟩], nextCid := 1 }
/-- A packet of DEV_ECHO with TAG 5, its frames of a sequence number, and the ciphertext. -/
def echo8 : List Byte := [8, 0, 0x0A, 1, 5, 0, 0, 0]
def echoFrame (seq : Nat) : Frame := tagged 8 (bare 1 seq 8) echo8
def echoBytes (seq : Nat) : List Byte := (cipher 8 (bare 1 seq 8) echo8).1
theorem wit_data : Authentic 7 8 (echoFrame 10) (echoBytes 10) echo8 running = true ∧ running.cmdHeld = false ∧ ceilDiv (echoFrame 10).size 64 ≤ 144 ∧ opcodeListed 0x010A = true ∧
    goes (exec (.data 7 (echoFrame 10) (echoBytes 10)) running) (fun s' => s'.flights.map Flight.tag == [9, 5] &&
      (s'.session 1).map Session.rxNext == some 11) = true := by decide +kernel
theorem wit_data_dup : 2 ^ 31 ≤ ahead 9 10 ∧ Authentic 7 8 (echoFrame 9) (echoBytes 9) echo8 running = true ∧
    goes (exec (.data 7 (echoFrame 9) (echoBytes 9)) running) (fun s' => s'.flights.length == 1 && s'.par (Par.at_ Par.fresyURxDup 0) == 1) = true := by decide +kernel
theorem wit_data_window : 64 < ahead 75 10 ∧ ahead 75 10 < 2 ^ 31 ∧ ahead 74 10 = 64 ∧
    goes (exec (.data 7 (echoFrame 75) (echoBytes 75)) running) (fun s' => s'.par (Par.at_ Par.fresyURxWindow 0) == 1) = true ∧
    goes (exec (.data 7 (echoFrame 74) (echoBytes 74)) running) (fun s' => (s'.session 1).elim 0 (fun x => x.held.length) == 1) = true := by decide +kernel
/-- An ACK frame with ACK and CREDIT. -/
def ackFrame (ack credit : Nat) : Frame := tagged 9 { bare 1 0 0 with ack := ack, credit := credit } []
theorem wit_ack : Authentic 7 9 (ackFrame 3 9) [] [] running = true ∧
    goes (exec (.ack 7 (ackFrame 3 9)) running) (fun s' => (s'.session 1).map Session.lastAck == some 3 &&
      (s'.session 1).map Session.creditLimit == some 9) = true ∧
    goes (exec (.ack 7 (ackFrame 0 4)) running) (fun s' => (s'.session 1).map Session.creditLimit == some 5) = true := by decide +kernel
theorem wit_close : Authentic 7 11 (tagged 11 (bare 1 10 0) []) [] [] running = true ∧
    goes (exec (.close 7 ⟨(tagged 11 (bare 1 10 0) []), []⟩) running) (fun s' => (s'.session 1).isNone && s'.flights.map Flight.endedAt == [some 7]) = true := by decide +kernel

/-- Session 1 with a frame that waits, a queued event entry, and both windows running. -/
def timed : State := { wired with
  sessions := [{ sess 1 1 with
    unacked := [⟨7, .replies [], 2, 0, 5, 0, 12600, 6400000, 6200⟩, ⟨8, .close, 2, 0, 6, 0, 12600, 6400000, 6200⟩], txSeq := 9, lastAck := 6, creditLimit := 2, txWindow := some 50, rxWindow := some 60,
    evq := [⟨0, 0, 1, false, 0, 0, 0, false, false, false, false, false, []⟩] }, { sess 2 2 with rekeyHeld := true }]
  results := [⟨0, 1, 101, some 100, 9, 0x010A, 0, 1000, 0, .bytes [1, 2], false⟩] }
theorem wit_retransmit : timed.portSet (sess 1 1) = [0, 1] ∧
    goes (exec (.retransmitTimer 12600 1 7) timed) (fun s' => (s'.session 1).elim false (fun x => x.unacked.any (fun g => g.seq == 7 && g.port == 1 && g.tries == 6 && g.due == 12600 + 6400000))) = true ∧
    goes (exec (.retransmitTimer 12599 1 7) timed) (fun s' => s'.out == []) = true ∧
    goes (exec (.retransmitTimer 12600 1 8) timed) (fun s' => (s'.session 1).isNone && s'.par (Par.evtCount000 + 12) == 1) = true := by decide +kernel
theorem wit_keepalive : goes (exec (.keepaliveExpiry 100000000 1 1) timed) (fun s' => (s'.session 1).map (fun x => nth x.portTx 0 1) == some 100000000) = true ∧
    goes (exec (.keepaliveExpiry 99999999 1 1) timed) (fun s' => s'.out == []) = true := by decide +kernel
theorem wit_credit : goes (exec (.creditGrant 7 1) timed) (fun s' => (s'.session 1).map Session.grant == some 1152) = true := by decide +kernel
theorem wit_idle : goes (exec (.idleLimitExpiry 60000000000 1) timed) (fun s' => (s'.session 1).isNone) = true ∧
    goes (exec (.idleLimitExpiry 59999999999 1) timed) (fun s' => (s'.session 1).isSome) = true := by decide +kernel
theorem wit_retention : goes (exec (.resultRetentionExpiry 8000000100 1 9) timed) (fun s' => s'.results == []) = true ∧
    goes (exec (.resultRetentionExpiry 8000000099 1 9) timed) (fun s' => s'.results == timed.results) = true := by decide +kernel
theorem wit_epoch : goes (exec (.epochWindowEnd 50 1 false) timed) (fun s' => (s'.session 1).map Session.txWindow == some none) = true ∧
    goes (exec (.epochWindowEnd 60 1 true) timed) (fun s' => (s'.session 1).map Session.rxWindow == some none) = true ∧
    goes (exec (.deferredRekeyStart 60 2) timed) (fun s' => (s'.session 2).map Session.epochTx == some true) = true := by decide +kernel
theorem wit_event_frame : (timed.at_ 7).bestPort [0, 1] = some 0 ∧ ahead 9 6 ≤ 65 ∧ ceilDiv (timed.etherLen 0 32) 64 ≤ 2 ∧
    goes (exec (.eventFrameSend 7 1) timed) (fun s' => (s'.session 1).map Session.evq == some [] && s'.out.length == 1) = true := by decide +kernel

/-- Port 0 is down and session 1 has had no port since 5. -/
def cutOff : State := { timed with
  ports := [⟨false, 0, 0, 0⟩, ⟨true, 0, 0, 0⟩, ⟨false, 0, 0, 0⟩, ⟨false, 0, 0, 0⟩], sessions := [{ sess 1 1 with setPorts := 0, hostPorts := 1, downSince := some 5 }] }
theorem wit_lock_loss : (timed.port 0).up = true ∧ timed.ports.length = 4 ∧ goes (exec (.fresyLockLoss 7 0) timed) (fun s' => !(s'.port 0).up && (s'.port 1).up &&
    s'.cond Ev.fresyPortDown 0 && s'.par (Par.at_ Par.fresyULinkDowns 0) == 1) = true := by decide +kernel
theorem wit_silence : timed.sessions.any (fun x => bitAt x.setPorts 1) = true ∧ goes (exec (.portSilenceExpiry 500000000 1) timed) (fun s' => !(s'.port 1).up) = true ∧
    goes (exec (.portSilenceExpiry 499999999 1) timed) (fun s' => (s'.port 1).up) = true := by decide +kernel
theorem wit_rejoin : (cutOff.port 0).up = false ∧ cutOff.par (Par.at_ Par.fresyUEnable 0) = 1 ∧
    goes (exec (.fresyPortRejoin 7 0) cutOff) (fun s' => (s'.port 0).up && (s'.session 1).map Session.downSince == some none) = true := by decide +kernel
theorem wit_ride : goes (exec (.rideThroughExpiry 2000000005 1) cutOff) (fun s' => (s'.session 1).isNone) = true ∧
    goes (exec (.rideThroughExpiry 2000000004 1) cutOff) (fun s' => (s'.session 1).isSome) = true := by decide +kernel
theorem wit_port_status : TakenAll h1 two = true ∧ goes (exec (.fresyPortStatus 7 h1 []) two) (replied h1 0x0301 0 0 (.fields [("F0 up", 0), ("F1 up", 0), ("F2 up", 0), ("F3 up", 0)])) = true ∧
    goes (exec (.fresySessionList 7 h1 []) two) (replied h1 0x0302 0 0 (.fields [("session", 1), ("role", 1), ("ports", 15), ("session", 2), ("role", 2), ("ports", 15)])) = true := by decide +kernel

theorem wit_DevReads_param : TakenAll h1 two = true ∧ [Par.devCommitSeq, Par.powerPhase, 5].length ≤ 64 ∧
    (leBytes 2 3 ++ [0, 0] ++ [Par.devCommitSeq, Par.powerPhase, 5].flatMap ((two.taken 7 h1).readEntry 1 (two.role 1))).length ≤ 9104 ∧
    goes (exec (.devParamRead 7 h1 ([3, 0, 0, 0] ++ [Par.devCommitSeq, Par.powerPhase, 5].flatMap (leBytes 4))) two) (fun s' => s'.out.any (fun o => match o with
      | .reply _ r => r.status == St.partially && r.detail == 1
      | _ => false)) = true := by decide +kernel
theorem wit_DevReads_entry : readStatus 1 Par.devCommitSeq = St.ok ∧ vlenOf Par.devCommitSeq = some 4 ∧ two.derived 1 Par.devCommitSeq = none := by decide +kernel
theorem wit_DevReads_stage : TakenAll h1 two = true ∧ (two.stageOf 1).length < 65536 ∧ 4 + ((two.stageOf 1).map (fun e => 8 + up4 ((vlenOf e.id).getD 0))).sum ≤ 9104 ∧
    goes (exec (.devStageRead 7 h1 []) { two with sessions := [{ sess 1 1 with stage := [⟨Par.inspHoldFrames, 8⟩] }] }) (fun s' =>
      replied h1 0x0106 0 0 (.bytes ([1, 0, 0, 0] ++ leBytes 4 Par.inspHoldFrames ++ leBytes 2 ((vlenOf Par.inspHoldFrames).getD 0) ++ [0, 0] ++ pad4 (leBytes ((vlenOf Par.inspHoldFrames).getD 0) 8))) s') = true := by decide +kernel
theorem wit_DevReads_status : TakenAll h1 two = true ∧ goes (exec (.devStatus 7 h1 []) two) (replied h1 0x0109 0 0 (.fields [("STATE", 0), ("PHASE", 0), ("SEGMENTS_ACCEPTED", 0)])) = true := by decide +kernel
theorem wit_DevReads_echo : TakenAll h1 two = true ∧ (List.replicate 256 (7 : Byte)).length ≤ 256 ∧ 256 < (List.replicate 260 (7 : Byte)).length ∧
    goes (exec (.devEcho 7 h1 [1, 2, 3, 4]) two) (replied h1 0x010A 0 0 (.bytes [1, 2, 3, 4])) = true := by decide +kernel
/-- The command pair restarts. -/
def restarting : State := { two with dev := { two.dev with cmd := ⟨some 0, []⟩ } }
theorem wit_DevReads_held : Quiet 7 restarting = true ∧ restarting.cmdHeld = true ∧ (restarting.session 1).isSome = true := by decide +kernel

/-- Session 1 holds two staged INSP values. -/
def staged : State := { owned with sessions := [{ sess 1 1 with stage := [⟨Par.inspRegTiles, 64⟩, ⟨Par.inspHoldFrames, 8⟩] }, sess 2 2] }
/-- Session 1 holds the retained result of an echo under TAG 9. -/
def kept : State := { two with results := [⟨0, 1, 101, none, 9, 0x010A, 0, 1000, 0, .bytes [1, 2], false⟩], nextCid := 1 }
theorem wit_DevStaging_stage : TakenAll h1 owned = true ∧ vlenOf Par.inspDensLines = some 4 ∧ owned.stageOf h1.session = [] ∧
    stageStatus (owned.role h1.session) ⟨Par.inspDensLines, 4, 0, 262143⟩ = St.staged := by decide +kernel
theorem wit_DevStaging_commit : TakenAll h1 staged = true ∧ staged.stageOf h1.session ≠ [] ∧ (staged.taken 0 h1).owns h1.session = true ∧
    (staged.stageOf 1).all (fun e => idSvc e.id == 0x0E && mayWrite (staged.role 1) e.id) = true ∧ ((staged.stageOf 1).map StageEntry.id).Nodup := by decide +kernel
theorem wit_DevStaging_commit_rest : (staged.taken 0 h1).newPins (staged.stageOf 1) = [] ∧ (staged.taken 0 h1).refusals 1 (staged.stageOf 1) = [] ∧ staged.pins.length ≤ 1024 := by decide +kernel
theorem wit_DevStaging_notOwner : TakenAll h1 two = true ∧ two.stageOf 1 = [] ∧ (two.taken 0 h1).owns 1 = false := by decide +kernel
theorem wit_DevStaging_empty : TakenAll h1 owned = true ∧ owned.stageOf 1 = [] ∧ (owned.taken 0 h1).owns 1 = true := by decide +kernel
theorem wit_DevResults : TakenAll h1 kept = true ∧ kept.flights.all (fun f => !(f.session == 1 && f.tag == 9)) = true ∧
    kept.results.find? (fun r => r.session == 1 && r.tag == 9 && r.endedAt.isNone) = kept.results.head? ∧ 20 + 4 ≤ 9120 ∧
    goes (exec (.devResultRead 7 h1 [1, 0, 9, 0]) kept) (replied h1 0x0107 0 0 (.bytes [0x0A, 1, 9, 0, 1, 2])) = true := by decide +kernel
/-- A command of session 1 under TAG 9 goes on. -/
def busy : State := { two with flights := [⟨0, 0, 1, 1, 101, 9, 0x0504, [], 0, 0, true, false, none, none, 0, none, 0⟩], nextCid := 1 }
theorem wit_DevResults_pending : Taken 0x0107 7 h1 busy = true ∧ (busy.flights.find? (fun f => f.of 1 && f.tag == 9)).map Flight.final = some none ∧
    goes (exec (.devResultRead 7 h1 [1, 0, 9, 0]) busy) (replied h1 0x0107 1 0 (.bytes [4, 5, 9, 0])) = true := by decide +kernel
theorem wit_DevResults_none : two.flights.all (fun f => !(f.session == 3 && f.tag == 9)) = true ∧
    goes (exec (.devResultRead 7 h1 [3, 0, 9, 0]) two) (replied h1 0x0107 0x010C 0 (.bytes [])) = true := by decide +kernel
theorem wit_DevResults_release : kept.flights.all (fun f => !(f.of 1 && f.tag == 9)) = true ∧
    goes (exec (.devResultRelease 7 h1 [1, 0, 9, 0]) kept) (replied h1 0x0108 0 0 (.bytes [1, 0, 0, 0, 9, 0, 0, 0])) = true ∧
    goes (exec (.devResultRelease 7 h1 [2, 0, 9, 0, 8, 0, 0, 0]) kept) (replied h1 0x0108 4 1 (.bytes [2, 0, 0, 0, 9, 0, 0, 0, 8, 0, 0x0C, 1])) = true := by decide +kernel

/-- Session 1 has offered ownership to session 2. -/
def offered : State := { owned with own := { owned.own with state := 2, target := 2, windowEnd := 50 } }
/-- A header of session 2 with TAG 6. -/
def h2 : Hdr := ⟨2, 6, 0, 0⟩
theorem wit_own_claim : TakenAll h1 two = true ∧ two.mayOwn (two.role 1) = true ∧ two.own.state = 0 ∧
    goes (exec (.ownClaim 7 h1 (leBytes 4 600000 ++ [0, 0, 0, 0])) two) (fun s' => s'.own.state == 1 && s'.own.holder == 1 &&
      s'.own.leaseEnd == 7 + 600000000000 && replied h1 0x0401 0 0 (.bytes s'.leaseBody) s') = true := by decide +kernel
theorem wit_own_claim_lost : TakenAll h2 owned = true ∧ owned.mayOwn (owned.role 2) = true ∧ owned.own.state = 1 ∧ owned.own.holder ≠ 2 ∧
    goes (exec (.ownClaim 7 h2 (leBytes 4 1000 ++ [0, 0, 0, 0])) owned) (replied h2 0x0401 0x0306 1 (.bytes [])) = true := by decide +kernel
theorem wit_own_release : TakenAll h1 owned = true ∧ owned.owns 1 = true ∧
    goes (exec (.ownRelease 7 h1 []) owned) (fun s' => s'.own.state == 0 && replied h1 0x0402 0 0 (.bytes []) s') = true := by decide +kernel
theorem wit_own_renew : goes (exec (.ownLeaseRenew 7 h1 []) owned) (fun s' => s'.own.leaseEnd == 7 + 10000000000) = true := by decide +kernel
theorem wit_own_offer : TakenAll h1 owned = true ∧ owned.owns 1 = true ∧ (owned.session 2).isSome = true ∧ owned.mayOwn (owned.role 1) = true ∧
    owned.mayOwn (owned.role 2) = true ∧ goes (exec (.ownHandoverOffer 7 h1 [2, 0, 0, 0]) owned) (fun s' => s'.own.state == 2 && s'.own.target == 2 &&
      s'.own.windowEnd == 7 + 1000000 * owned.par Par.ownHandoverWindow) = true := by decide +kernel
theorem wit_own_accept : TakenAll h2 offered = true ∧ offered.mayOwn (offered.role 2) = true ∧ offered.own.state = 2 ∧ offered.own.target = 2 ∧
    offered.own.holder ≠ 2 ∧ goes (exec (.ownHandoverAccept 7 h2 []) offered) (fun s' => s'.own.state == 1 && s'.own.holder == 2) = true := by decide +kernel

/-- The management port holds ownership. -/
def portOwns : State := { two with own := { two.own with state := 1, holder := 17 } }
theorem wit_own_lease_end : owned.own.state ≠ 0 ∧ owned.own.holder ≠ 17 ∧ owned.own.leaseEnd ≤ (owned.at_ 10000000000).ring ∧
    goes (exec (.leaseEnd 10000000000) owned) (fun s' => s'.own.state == 0) = true ∧ goes (exec (.leaseEnd 9999999999) owned) (fun s' => s'.own.state == 1) = true := by decide +kernel
theorem wit_own_window_end : offered.own.state = 2 ∧ offered.own.windowEnd ≤ max offered.now 50 ∧
    goes (exec (.handoverWindowEnd 50) offered) (fun s' => s'.own.state == 1 && s'.own.holder == 1) = true := by decide +kernel
theorem wit_own_idle : portOwns.own.holder = 17 ∧ portOwns.own.mgmtLast + 1000000 * portOwns.par Par.ownIdleLimit ≤ max portOwns.now 60000000000 ∧
    goes (exec (.mgmtIdleExpiry 60000000000) portOwns) (fun s' => s'.own.state == 0) = true := by decide +kernel
theorem wit_own_port_claim : (two.setPar Par.ownMgmtClaim 1).par Par.ownMgmtClaim = 1 ∧ (two.setPar Par.ownMgmtClaim 1).own.state = 0 ∧
    goes (exec (.mgmtHolderClaim 7 255) (two.setPar Par.ownMgmtClaim 1)) (fun s' => s'.own.holder == 17) = true := by decide +kernel
theorem wit_own_port_release : goes (exec (.mgmtHolderRelease 7) portOwns) (fun s' => s'.own.holder == 0) = true := by decide +kernel

/-- Session 1 owns and has pinned two parameters. -/
def pinned : State := { owned with pins := [⟨Par.powerVddCoreSet, 1, 3⟩, ⟨Par.headUPreheat, 1, 4⟩] }
theorem wit_own_unpin : TakenAll h1 pinned = true ∧ pinned.owns 1 = true ∧ unpinStatus (pinned.role 1) Par.powerVddCoreSet = 0 ∧
    goes (exec (.ownUnpin 7 h1 ([1, 0, 0, 0] ++ leBytes 4 Par.powerVddCoreSet)) pinned) (fun s' => s'.pins == [⟨Par.headUPreheat, 1, 4⟩] &&
      replied h1 0x0406 0 0 (.bytes ([1, 0, 0, 0] ++ leBytes 4 Par.powerVddCoreSet ++ [0, 0, 0, 0])) s') = true := by decide +kernel
theorem wit_own_pin_list : goes (exec (.ownPinList 7 h1 [255, 3, 0, 2]) pinned) (replied h1 0x0408 0 0 (.bytes [2, 0, 0, 0])) = true := by decide +kernel
theorem wit_own_policy : TakenAll h1 pinned = true ∧ pinned.role 1 = roleIntegrator ∧ pinned.policyMoved = [] ∧ (∀ n < 16, (pinned.ledger n).entries.all (fun e => !ePin e.2) = true) ∧
    goes (exec (.ownPolicyReset 7 h1 []) pinned) (fun s' => s'.pins == [] && s'.par Par.devCommitSeq == 1 && replied h1 0x0407 0 0 (.bytes []) s') = true := by decide +kernel

/-- A device root, and a body of SHELL_JOB_KEY_LOAD for job 9 that wraps the key 77 for it under the host's ephemeral key 6. -/
def rooted : State := { two with shell := { two.shell with drk := 12345 } }
def keyHead : List Byte := [9, 0, 0, 0, 0, 0, 0, 0, 1, 0, 0, 0] ++ ecPublic 6 ++ [0, 0, 0]
def keySealed : List Byte × List Byte :=
  gcmSeal 16 (hkdfExpand (hkdfExtract (leBytes 8 9) ((ecdh 6 (ecPublic rooted.wrapKey)).getD [])) (ascii "alaten job wrap") 32) (List.replicate 12 0) keyHead (beBytes 32 77)
def keyBody : List Byte := keyHead ++ keySealed.1 ++ keySealed.2
/-- Session 1 holds the key of job 9. -/
def keyed : State := { two with shell := { two.shell with keys := [⟨9, 77, [1, 2], false, []⟩] } }
/-- The 64 ms of session 1's latest epoch run. -/
def inEpoch : State := { two with sessions := [{ sess 1 1 with txWindow := some 64000000 }, sess 2 2] }
theorem wit_shell_load_key : rooted.unwrapJob keyBody = some 77 ∧ keyBody.length = 160 ∧ leAt keyBody 0 8 = 9 ∧ leAt keyBody 8 1 = 1 ∧ zeroAt keyBody 9 3 = true ∧ zeroAt keyBody 109 3 = true := by decide +kernel
theorem wit_shell_load : TakenAll h1 rooted = true ∧ mayHoldKeys (rooted.role 1) = true ∧ rooted.shell.tampered = false ∧ rooted.keyOf 9 = none ∧ rooted.shell.keys.length < 8192 := by decide +kernel
theorem wit_shell_load_held : goes (exec (.shellJobKeyLoad 7 h1 keyBody ()) rooted) (fun s' => s'.keyOf 9 == some ⟨9, 77, [1], false, []⟩ && replied h1 0x0201 0 0 (.bytes []) s') = true := by decide +kernel
theorem wit_shell_load_refused : goes (exec (.shellJobKeyLoad 7 h1 ([9, 0, 0, 0, 0, 0, 0, 0, 1, 0, 0, 0] ++ List.replicate 148 0) ()) rooted) (replied h1 0x0201 0x0302 0 (.bytes [])) = true := by decide +kernel
theorem wit_shell_drop : TakenAll h1 keyed = true ∧ keyed.holdsKey 1 9 = true ∧ keyed.shell.tampered = false ∧
    goes (exec (.shellJobKeyDrop 7 h1 (leBytes 8 9)) keyed) (fun s' => !s'.holdsKey 1 9 && !s'.holdsKey 2 9) = true := by decide +kernel
theorem wit_shell_rekey : TakenAll h1 two = true ∧ (two.session 1).map Session.txNew = some false ∧ (two.session 1).map (Session.txRuns 7) = some false ∧ (two.session 1).map Session.txq = some [] ∧
    goes (exec (.shellRekey 7 h1 []) two) (fun s' => (s'.session 1).map Session.epochTx == some true) = true := by decide +kernel
theorem wit_shell_rekey_held : TakenAll h1 inEpoch = true ∧ (inEpoch.session 1).elim false (fun x => x.txRuns 7 && decide (x.txc < 2 ^ 31)) = true ∧
    goes (exec (.shellRekey 7 h1 []) inEpoch) (fun s' => (s'.session 1).map Session.rekeyHeld == some true) = true := by decide +kernel

/-- Commissioning mode with two Integrator slots, session 1 rooted in the first. -/
def commissioning : State :=
  ({ two with shell := { two.shell with slots := [⟨1, false, 7⟩, ⟨1, false, 8⟩, ⟨0, false, 0⟩, ⟨0, false, 0⟩] } }).setPar Par.shellCommissionState 1
theorem wit_shell_burn : TakenAll h1 commissioning = true ∧ (commissioning.session 1).elim false commissioning.rootsInSlot = true ∧ (commissioning.slot 3).kind = 0 ∧
    commissioning.par Par.shellCommissionState = 1 ∧
    goes (exec (.shellCommissionBurn 7 h1 ([3, 1, 1, 0, 4, 0, 0, 0] ++ [1, 2, 3, 4]) ()) commissioning) (fun s' => s'.shell.fuses.map (fun j => (j.slot, j.revoke, j.kind, j.digest)) == [(3, false, 1, leNat (sha384 [1, 2, 3, 4]))]) = true := by decide +kernel
theorem wit_shell_revoke : (commissioning.slot 1).kind = 1 ∧ (commissioning.slot 1).revoked = false ∧ commissioning.keepsIntegrator 0 = true ∧
    goes (exec (.shellCommissionRevoke 7 h1 [1, 2, 0, 0, 0, 0, 0, 0]) commissioning) (fun s' => s'.shell.fuses.map (fun j => (j.slot, j.revoke)) == [(1, true)]) = true := by decide +kernel
/-- A burn of slot 3 runs. -/
def burning : State := { commissioning with shell := { commissioning.shell with fuses := [⟨0, 3, false, 2, 99⟩] } }
theorem wit_shell_fuse : burning.shell.fuses = [⟨0, 3, false, 2, 99⟩] ∧ 3 < burning.shell.slots.length ∧
    goes (exec (.fuseProgramDone 7 true) burning) (fun s' => s'.slot 3 == ⟨2, false, 99⟩ && s'.shell.fuses == []) = true := by decide +kernel
theorem wit_shell_cert : TakenAll h1 two = true ∧ learnRight (two.role 1) .identity = .all ∧ 9104 ≤ 9104 := by decide +kernel
theorem wit_shell_attest : TakenAll h1 two = true ∧ (List.replicate 32 (1 : Byte)).length = 32 ∧ two.shell.tampered = false ∧ two.shell.entropyFailed = false ∧
    goes (exec (.shellAttest 7 h1 (List.replicate 32 1)) two) (fun s' => s'.draws == 2) = true := by decide +kernel

theorem wit_shell_tamper : goes (exec (.shellTamper 7) keyed) (fun s' => s'.shell.tampered && s'.shell.keys == [] && s'.sessions == []) = true := by decide +kernel
theorem wit_shell_entropy : goes (exec (.entropyFail 7 1) two) (fun s' => s'.par Par.shellEntropyState == 2) = true := by decide +kernel
theorem wit_shell_utc : owned.mayCommit 1 Par.shellUtcFloor = true ∧ (owned.at_ 7).utcEstimate ≤ 0 ∧
    goes (exec (.utcFloorWrite 7 1 (2 ^ 64 - 1)) owned) (fun s' => s'.par Par.shellUtcFloor == 2 ^ 64 - 1 && s'.utcEstimate == 2 ^ 64 - 1) = true := by decide +kernel
/-- The running image's SVN is 5, and 2 fuses are burnt. -/
def svn5 : State := (owned.setPar Par.powerRunningSvn 5).setPar Par.shellSvnFuse 2
theorem wit_shell_svn : svn5.mayCommit 1 Par.shellSvnCommit = true ∧ svn5.svnRefused 5 = false ∧ svn5.svnRefused 6 = true ∧
    goes (exec (.svnCommitWrite 7 1 5) svn5) (fun s' => s'.par Par.shellSvnFuse == 5) = true := by decide +kernel

/-- A device that is ready to print, with 100 free pods, where sessions 1 and 2 hold the key of job 9. -/
def press : State := ((({ keyed with spool := { keyed.spool with free := [(0, 100)] }, shell := { keyed.shell with drk := rooted.shell.drk } }).setPar Par.powerPhase 5).setPar Par.spoolMaxSegmentBytes (50 * 1048576)).setPar Par.spoolKeepEnable 1
/-- A body of SPOOL_SEG_OPEN: job 9, segment 1, depth 2, H0 and H3, 10 lines at 1,000 lines per second from line 5,000. -/
def openBody (m s0 s1 : Nat) : List Byte := leBytes 8 9 ++ leBytes 8 1 ++ leBytes 1 m ++ leBytes 1 2 ++ leBytes 2 9 ++ leBytes 4 10 ++ leBytes 4 1000 ++
  leBytes 8 5000 ++ leBytes 8 0 ++ leBytes 2 0 ++ leBytes 2 0 ++ leBytes 4 0 ++ [s0, s1].flatMap (leBytes 4)
/-- A segment with handle 77 of that body, in a state, its strips as given. -/
def segIn (state : Nat) (strips : List Strip) : Seg := { segOf (openBody 0 300 300) 77 9 1 1 with state := state, strips := strips }
/-- The spool holds it. -/
def holding (g : Seg) : State := { press with spool := { press.spool with segs := [g] } }
/-- An empty strip, and a full one that passed. -/
def empty (head : Nat) : Strip := ⟨head, 0, 300, 0, 0, [], [], false, [], [], none, [], [], false⟩
def passed (head : Nat) : Strip := ⟨head, 0, 300, 300, 1, [], [], false, [], [], none, List.replicate 160 0, [], false⟩
theorem wit_open : TakenAll h1 press = true ∧ popcount 16 9 * stripCount 10 = 2 ∧ mayFeed (press.role 1) = true ∧ press.holdsKey 1 9 = true ∧ press.keyLive 9 = true ∧
    press.ready = true ∧ press.queued < 4096 ∧ ([300, 16777216].map podsOf).sum = 17 ∧ 17 * 1048576 ≤ press.par Par.spoolMaxSegmentBytes ∧ 17 ≤ press.podsFree := by decide +kernel
theorem wit_open_fields : goes (exec (.spoolSegOpen 7 h1 (openBody 3 300 16777216)) press) (fun s' => s'.spool.segs.map (fun g => (g.printGo, g.pgo, g.depth, g.heads, g.lines)) == [(true, 1, 2, 9, 10)] &&
      s'.spool.segs.map (fun g => (g.rate, g.first, g.reserved, g.state)) == [(1000, 5000, 17, 1)]) = true := by decide +kernel
theorem wit_open_form : OpenForm (openBody 0 1 1) = true ∧ OpenForm (openBody 7 1 16777216) = true ∧ OpenForm (openBody 0 0 1) = false ∧ OpenForm (openBody 2 1 1) = false ∧
    openSizes (openBody 0 5 6) = [5, 6] ∧ bitAt (leAt (openBody 7 1 1) 16 1) 3 = false := by decide +kernel
/-- A state in which the handle of job 9, segment 1 is tracked. -/
def dupHeld : State := holding { segIn Sg.printing [] with handle := press.handleOf 9 1 }
theorem wit_open_dup : goes (exec (.spoolSegOpen 7 h1 (openBody 0 1 1)) dupHeld) (replied h1 0x0501 0x0202 6 (.bytes [])) = true := by decide +kernel
theorem wit_open_full : (press.spool.segs = []) ∧ { press with spool := { press.spool with free := [(0, 1)] } }.podsFree < (openSizes (openBody 0 5 6) |>.map podsOf).sum := by decide +kernel

/-- A segment that may be admitted: H0 and H3 are READY with two lanes UP, and budgets are large. -/
def ready (g : Seg) : State := State.each [0, 3] (fun h s => ((((s.setPar (Par.at_ Par.headUState h) 5).setPar (Par.at_ Par.headUMaxLineRate h) 240000).setPar
  (Par.at_ Par.laneUState (2 * h)) 3).setPar (Par.at_ Par.laneUPayloadRate (2 * h)) 5000)) (((holding g).setPar Par.spoolDecodeBudget 1000).setPar Par.spoolDramReservable 1000)
theorem wit_seg_data : TakenAll h1 (holding (segIn Sg.opened [empty 0, empty 3])) = true ∧ bitAt (segIn Sg.opened [empty 0, empty 3]).heads 3 = true ∧
    goes (exec (.spoolSegData 7 h1 (leBytes 8 77 ++ [3, 0, 5, 0, 0, 0, 0, 0] ++ [1, 2, 3, 4, 5, 0, 0, 0]) 0) (holding (segIn Sg.opened [empty 0, empty 3]))) (fun s' =>
      replied h1 0x0502 0 0 (.bytes (leBytes 4 5 ++ [0, 0, 0, 0] ++ leBytes 8 5)) s' && ((s'.seg 77).bind (fun g => g.strip 3 0)).map Strip.data == some [1, 2, 3, 4, 5]) = true := by decide +kernel
theorem wit_close_short : (segIn Sg.opened [passed 0, empty 3]).badStrip = some 192 ∧
    goes (exec (.spoolSegClose 7 h1 (leBytes 8 77)) (holding (segIn Sg.opened [passed 0, empty 3]))) (fun s' => (s'.seg 77).isNone && s'.par Par.spoolSegRefused == 1 &&
      replied h1 0x0503 0x0215 192 (.bytes []) s') = true := by decide +kernel
theorem wit_close_accept : ((ready (segIn Sg.opened [passed 0, passed 3])).taken 7 h1).admission (segIn Sg.opened [passed 0, passed 3]) 0 = .accept ∧
    goes (exec (.spoolSegClose 7 h1 (leBytes 8 77)) (ready (segIn Sg.opened [passed 0, passed 3]))) (fun s' => (s'.seg 77).map Seg.state == some 4 && s'.par Par.spoolSegAccepted == 1 &&
      replied h1 0x0503 0 0 (.bytes []) s') = true := by decide +kernel
theorem wit_close_refuse : ((holding (segIn Sg.opened [passed 0, passed 3])).taken 7 h1).admission (segIn Sg.opened [passed 0, passed 3]) 0 = .refuse St.headNotReady 0 (.bytes []) ∧
    goes (exec (.spoolSegClose 7 h1 (leBytes 8 77)) (holding (segIn Sg.opened [passed 0, passed 3]))) (fun s' => (s'.seg 77).isNone && replied h1 0x0503 St.headNotReady 0 (.bytes []) s') = true := by decide +kernel
theorem wit_close_other : goes (exec (.spoolSegClose 7 h2' (leBytes 8 77)) (holding (segIn Sg.opened []))) (replied h2' 0x0503 0x010D 0 (.bytes [])) = true := by decide +kernel

theorem wit_cancel_open : goes (exec (.spoolSegCancel 7 h1 (leBytes 8 77)) (holding (segIn Sg.opened [empty 0]))) (fun s' => (s'.seg 77).isNone && s'.spool.done == [] &&
      replied h1 0x0504 0 0 (.bytes []) s') = true := by decide +kernel
theorem wit_cancel_accepted : goes (exec (.spoolSegCancel 7 h1 (leBytes 8 77)) (holding (segIn Sg.accepted [passed 0]))) (fun s' => s'.tracked 77 == some 9 &&
      s'.par Par.spoolSegCancelled == 1 && replied h1 0x0504 0 0 (.bytes []) s') = true := by decide +kernel
theorem wit_cancel_horizon : goes (exec (.spoolSegCancel 7 h1 (leBytes 8 77)) (holding (segIn Sg.inHorizon [passed 0]))) (replied h1 0x0504 0x0220 0 (.bytes [])) = true ∧
    goes (exec (.spoolSegCancel 7 h1 (leBytes 8 77)) (holding (segIn Sg.printing [passed 0]))) (replied h1 0x0504 0x0220 0 (.bytes [])) = true := by decide +kernel
theorem wit_cancel_done : owned.owns 1 = true ∧ goes (exec (.spoolSegCancel 7 h1 (leBytes 8 78)) { owned with spool := { owned.spool with done := [⟨78, 7, 10, 0, 2⟩] } }) (replied h1 0x0504 0x0222 0 (.bytes [])) = true := by decide +kernel
theorem wit_cancel_voting : goes (exec (.spoolSegCancel 7 h1 (leBytes 8 77)) (holding (segIn Sg.voting [passed 0]))) (fun s' => (s'.seg 77).isNone &&
      s'.par Par.spoolSegRefused == 1 && replied h1 0x0504 0 0 (.bytes []) s') = true ∧
    goes (exec (.spoolSegCancel 7 h1 (leBytes 8 77)) (holding { segIn Sg.voting [passed 0] with votedAt := some 3 })) (fun s' =>
      ((s'.seg 77).elim [] Seg.cancelCids).length == 1 && (s'.seg 77).map Seg.state == some 3 && s'.out == []) = true := by decide +kernel
theorem wit_cancel_retained : goes (exec (.spoolSegCancel 7 h1 (leBytes 8 77)) (holding (segIn Sg.retained [passed 0]))) (fun s' => s'.tracked 77 == some 7 && replied h1 0x0504 0 0 (.bytes []) s') = true := by decide +kernel
theorem wit_cancel_other : (holding (segIn Sg.opened [])).owns 2 = false ∧ mayFeed ((holding (segIn Sg.opened [])).role 2) = true ∧
    goes (exec (.spoolSegCancel 7 h2' (leBytes 8 77)) (holding (segIn Sg.opened []))) (replied h2' 0x0504 0x0305 0 (.bytes [])) = true := by decide +kernel

/-- A KEEP segment past its last line, whose session owns. -/
def kept77 : State := { ready { segIn Sg.retained [passed 0, passed 3] with keep := true } with own := owned.own }
/-- A body of SPOOL_REPEAT of segment 77 at line 9,000. -/
def againBody : List Byte := leBytes 8 77 ++ leBytes 8 2 ++ [0, 2] ++ leBytes 2 9 ++ leBytes 4 10 ++ leBytes 4 1000 ++ leBytes 8 9000
theorem wit_seg_status : learnRight (kept77.role 1) .spool = .all ∧ goes (exec (.spoolSegStatus 7 h1 ([1, 0, 0, 0] ++ leBytes 8 77)) kept77)
    (replied h1 0x0506 0 0 (.bytes ([1, 0, 0, 0] ++ leBytes 8 77 ++ [0, 0, 10, 4] ++ leBytes 4 0))) = true := by decide +kernel
theorem wit_record : goes (exec (.spoolRecordRead 7 h1 (leBytes 8 77)) (holding (segIn Sg.accepted []))) (replied h1 0x0507 0 0 (.bytes ((holding (segIn Sg.accepted [])).recordBytes (segIn Sg.accepted [])))) = true ∧
    ((holding (segIn Sg.accepted [])).recordBytes (segIn Sg.accepted [])).length = 64 := by decide +kernel
theorem wit_account : learnRight (press.role 1) .counters = .all ∧ goes (exec (.spoolAccountRead 7 h1 []) (press.setPar Par.spoolRepeats 5)) (replied h1 0x0509 0 0 (.bytes (List.replicate 64 0 ++ leBytes 8 5))) = true := by decide +kernel
theorem wit_decode_status : goes (exec (.decodeStatus 7 h1 []) press) (replied h1 0x0701 0 0 (.bytes (List.replicate 8 255 ++ List.replicate 8 0))) = true := by decide +kernel
theorem wit_repeat : againBody.length = 36 ∧ segRanges againBody = none ∧ segReserved againBody = none ∧ TakenAll h1 kept77 = true ∧ kept77.owns 1 = true ∧ kept77.ready = true ∧
    (kept77.seg 77).elim false (fun g => g.keep && g.cancelCids == [] && g.source.isNone && g.depth == 2 && g.heads == 9 && g.lines == 10) = true ∧ kept77.queued = 0 := by decide +kernel
theorem wit_repeat_admitted : (kept77.taken 7 h1).admission { segOf againBody 78 9 2 1 with source := some 77, state := 2, strips := [passed 0, passed 3] } 0 = .accept := by decide +kernel

/-- The header of a strip of that segment for H0 of 1 column: 10 lines of one byte in one stored block. -/
def stripHead : List Byte := leBytes 4 0x54534C41 ++ [1, 2, 0, 0] ++ leBytes 8 9 ++ leBytes 2 10 ++ leBytes 2 1 ++ [0, 0, 0, 0] ++ leBytes 4 10 ++ leBytes 4 15 ++
  leBytes 4 (crc32 (List.replicate 10 0)) ++ leBytes 4 10 ++ List.replicate 200 0
/-- Its block under the strip key of key 77, with its tag. -/
def stripSealed : List Byte × List Byte := gcmSeal 16 (hkdfExpand (beBytes 32 77) (ascii "alaten strip" ++ leBytes 8 1) 32) (List.replicate 12 0) stripHead ([1, 10, 0, 245, 255] ++ List.replicate 10 0)
/-- The segment with that strip whole and its check running. -/
def goodStrip : State := (holding (segIn Sg.opened [{ empty 0 with size := 271, held := 271, data := stripHead ++ stripSealed.1 ++ stripSealed.2, checking := true, unitsUsed := [3] }, empty 3])).setPar (Par.at_ Par.headUColCount 0) 1
theorem wit_check_passes : goes (exec (.stripCheckComplete 7 77 0 0 () ()) goodStrip) (fun s' => ((s'.seg 77).bind (fun g => g.strip 0 0)).map Strip.state == some 1 &&
      s'.par Par.decodeStripsChecked == 1 && s'.par Par.decodeStripsFailed == 0) = true := by decide +kernel
/-- A strip with every byte held and its check running. -/
def checking : State := holding (segIn Sg.opened [{ empty 0 with held := 300, checking := true, unitsUsed := [3] }, empty 3])
theorem wit_check_start : (holding (segIn Sg.opened [{ empty 0 with held := 1, firsts := [4] }])).spool.checkUnits = 0xFFFFFFFF ∧ ({ empty 0 with held := 1, firsts := [4] } : Strip).waitsAt = some 4 ∧
    goes (exec (.stripCheckStart 7 77 0 0 31) (holding (segIn Sg.opened [{ empty 0 with held := 1, firsts := [4] }]))) (fun s' => ((s'.seg 77).bind (fun g => g.strip 0 0)).map Strip.unitsUsed == some [31]) = true := by decide +kernel
theorem wit_check_fails : goes (exec (.stripCheckComplete 7 77 0 0 () ()) checking) (fun s' => ((s'.seg 77).bind (fun g => g.strip 0 0)).map Strip.state == some 2 &&
      s'.par Par.decodeStripsFailed == 1 && s'.par (Par.evtCount000 + 32) == 1) = true := by decide +kernel
theorem wit_chunk : goes (exec (.chunkStart 7 77 0 0 0 5 0) (holding (segIn Sg.inHorizon [passed 0, passed 3]))) (fun s' => s'.spool.chunks == [⟨0, 77, 0, 0, 5⟩] &&
      goes (exec (.chunkRestart 8 77 0 0 0 6 2 4) s') (fun r => r.spool.chunks == [⟨0, 77, 0, 0, 6⟩] && (r.seg 77).map Seg.bad == some [(0, 2, 4)])) = true := by decide +kernel
theorem wit_units_out : goes (exec (.decodeUnitOut 7 31) (ready (segIn Sg.opened []))) (fun s' => s'.spool.inflateUnits == 0x7FFFFFFF && s'.par (Par.evtCount000 + 30) == 1) = true ∧
    goes (exec (.checkUnitOut 7 0) press) (fun s' => s'.spool.checkUnits == 0xFFFFFFFE && s'.par (Par.evtCount000 + 31) == 1) = true := by decide +kernel
theorem wit_horizon : goes (exec (.horizonEntry 7 77) { holding { segIn Sg.accepted [] with lead := 1000 } with pos := { press.pos with hw := 4000 } }) (fun s' => (s'.seg 77).map Seg.state == some 5) = true ∧
    goes (exec (.horizonEntry 7 77) { holding { segIn Sg.accepted [] with lead := 1000 } with pos := { press.pos with hw := 3999 } }) (fun s' => (s'.seg 77).map Seg.state == some 4) = true := by decide +kernel

/-- A segment of group 31 in VOTING, coordinated by address `c`, and this member at address 4 with ring key generation 3. -/
def voting (c : Nat) (voted : Option Nat) : State :=
  { (((ready { segIn Sg.voting [passed 0, passed 3] with group := true, groupId := 31, coord := c, members := 2, votedAt := voted }).setPar Par.causeAddress 4).setPar Par.causeGeneration 3).setPar Par.causeMembers 8 with
    own := owned.own }
/-- The coordinator's vote runs. -/
def armed : State := { voting 4 (some 0) with cause := { press.cause with votes := [⟨31, 77, 10, []⟩] } }
/-- A frame with its tag under a ring key, as it comes on a lane. -/
def sealedAt (lane key : Nat) (f : List Byte) : CFrame := ⟨lane, f ++ ringTag key f⟩
/-- A frame of generation 3 under ring key 0 from address `src` at West A. -/
def ringFrame (ftype src : Nat) (p : List Byte) : CFrame := sealedAt 34 0 (causeFrame ftype 3 src 0x7FF 9 p)
theorem wit_arm : goes (exec (.spoolGroupArm 7 h1 (leBytes 8 77 ++ leBytes 8 31)) (voting 4 none)) (fun s' => s'.cause.votes == [⟨31, 77, 7, []⟩] && (s'.seg 77).map Seg.votedAt == some (some 7)) = true := by decide +kernel
theorem wit_arm_admitted : (match (voting 4 none).seg 77 with
    | some g => ((voting 4 none).taken 7 h1).admission g (((voting 4 none).at_ 7).voteExtra g ((voting 4 none).at_ 7).ring)
    | none => Decision.refuse 0 0 (.bytes [])) = .accept ∧ TakenAll h1 (voting 4 none) = true := by decide +kernel
theorem wit_ring_taken : RingTaken 7 0x10 (ringFrame 0x10 6 (leBytes 8 31 ++ leBytes 8 7)) (voting 6 none) = true ∧ RingTaken 7 0x11 (ringFrame 0x11 6 (leBytes 8 31 ++ [1, 0, 0, 0, 0, 0, 0, 0])) armed = true := by decide +kernel
theorem wit_prepare : goes (exec (.prepare 7 (ringFrame 0x10 6 (leBytes 8 31 ++ leBytes 8 7))) (voting 6 none)) (fun s' => (s'.seg 77).map Seg.votedAt == some (some 7)) = true := by decide +kernel
theorem wit_vote : goes (exec (.vote 7 (ringFrame 0x11 6 (leBytes 8 31 ++ [1, 0, 0, 0, 0, 0, 0, 0]))) armed) (fun s' => s'.cause.commits == [(31, 500007)] && s'.cause.votes == []) = true := by decide +kernel
theorem wit_vote_no : goes (exec (.vote 7 (ringFrame 0x11 6 (leBytes 8 31 ++ [0, 0, 0, 0, 0, 0, 0, 0]))) armed) (fun s' => (s'.seg 77).isNone && s'.par (Par.evtCount000 + 23) == 1) = true := by decide +kernel
theorem wit_commit : goes (exec (.commit 7 (ringFrame 0x12 6 (leBytes 8 31 ++ leBytes 8 900))) (voting 6 (some 5))) (fun s' => s'.cause.commits == [(31, 900)] &&
      goes (exec (.groupCommitInstant 900 31) s') (fun r => (r.seg 77).map Seg.state == some 4 && r.par Par.spoolSegAccepted == 1 && r.cause.commits == [])) = true := by decide +kernel
theorem wit_abort : goes (exec (.abort 7 (ringFrame 0x13 6 (leBytes 8 31 ++ leBytes 8 5))) (voting 6 (some 5))) (fun s' => (s'.seg 77).isNone && s'.par Par.spoolSegRefused == 1) = true := by decide +kernel
theorem wit_vote_timeout : goes (exec (.groupVoteTimeout 2000010 31) armed) (fun s' => (s'.seg 77).isNone) = true ∧ goes (exec (.groupVoteTimeout 2000009 31) armed) (fun s' => (s'.seg 77).isSome) = true := by decide +kernel
theorem wit_decision_lost : goes (exec (.groupDecisionLost 4000005 77) (voting 6 (some 5))) (fun s' => (s'.seg 77).isNone && s'.par (Par.evtCount000 + 24) == 1) = true ∧
    goes (exec (.groupWaitExpiry 1000000000 77) (voting 6 none)) (fun s' => (s'.seg 77).isNone) = true := by decide +kernel

/-- Session 1 owns a READY press whose head 3 is attached with 8 slots in 4 columns, all GOOD but slot 5, which is WATCH. -/
def inked : State :=
  let s := { ready (segIn Sg.accepted []) with spool := press.spool, own := owned.own }
  let s := ((s.setPar (Par.at_ Par.headUSlots 3) 8).setPar (Par.at_ Par.headUColCount 3) 4).setPar (Par.at_ Par.headUNozPerCol 3) 2
  let s := s.modHead 3 (fun x => { x with phase := 2, auth := true, identity := 31, slots := 8 })
  s.modLedger 3 (fun l => { l with entries := (List.range 8).map (fun k => (k, if k = 5 then 0x61 else 0x60)) })
theorem wit_ledger_read : TakenAll h1 inked = true ∧ learnRight (inked.role 1) .ledger = .all ∧
    goes (exec (.compLedgerRead 7 h1 (leBytes 1 3 ++ [0] ++ leBytes 2 5 ++ leBytes 2 1 ++ [0, 0])) inked) (replied h1 0x0801 0 0 (.bytes ([3, 0, 5, 0, 1, 0, 0, 0] ++ leBytes 4 0x61))) = true ∧
    goes (exec (.compLedgerRead 7 h1 (leBytes 1 3 ++ [0] ++ leBytes 2 8191 ++ leBytes 2 1 ++ [0, 0])) inked) (replied h1 0x0801 0 0 (.bytes ([3, 0, 0xFF, 0x1F, 1, 0, 0, 0] ++ leBytes 4 0x65))) = true := by decide +kernel
theorem wit_nozzle_set : inked.slotState 3 4 = 0 ∧ mayChange (inked.role 1) .ledger = true ∧ inked.owns 1 = true ∧ inked.journalRoom 1 = true ∧
    goes (exec (.compNozzleSet 7 h1 ([3, 4, 4, 0, 2, 0, 0, 0])) inked) (fun s' => s'.entry 3 4 == 0x08000062 && s'.par (Par.evtCount000 + 33) == 1 && s'.solo 3 5 && replied h1 0x0802 0 0 (.bytes []) s') = true := by decide +kernel
theorem wit_table_write : inked.stageOf 1 = [] ∧ stageStatus (inked.role 1) ⟨Par.compTable0 + 14, 8, 0, 0x0706050403020100⟩ = St.staged ∧
    goes (exec (.compTableWrite 7 h1 ([14, 0, 0, 0] ++ leBytes 8 0x0706050403020100)) inked) (fun s' => s'.stageOf 1 == [⟨Par.compTable0 + 14, 0x0706050403020100⟩]) = true := by decide +kernel
/-- A press on which H0 and H3 print charts. -/
theorem wit_chart : inked.ready = true ∧ inked.queued < 4096 ∧ (inked.taken 7 h1).admission ((inked.taken 7 h1).chartSeg 2 9 1000 5000 0 1) 0 = .accept := by decide +kernel
theorem wit_chart_untracked : inked.tracked (inked.handleOf 0 (inked.par Par.compChartSerial)) = none := by
  have h1 : inked.spool.segs = [] := by decide +kernel
  have h2 : inked.spool.done = [] := by decide +kernel
  simp [State.tracked, State.seg, h1, h2]
/-- The same with a measurement of a NOZZLE_CHECK chart in which slot 4 did not print. -/
def charted : State := { inked with insp := { inked.insp with measures := [⟨88, 1, 8, [(3, some 31)], [(3, 4, 0)], 0⟩] } }
theorem wit_align_apply : TakenAll h1 charted = true ∧ goes (exec (.compAlignApply 7 h1 (leBytes 8 88)) charted) (fun s' => s'.entry 3 4 == 0x0C000062 && s'.insp.measures == [] &&
      s'.par (Par.evtCount000 + 37) == 1 && replied h1 0x0805 0 0 (.bytes [0]) s') = true ∧
    goes (exec (.compAlignApply 7 h1 (leBytes 8 89)) charted) (replied h1 0x0805 0x010D 0 (.bytes [])) = true := by decide +kernel

/-- A declaration of slot 5 that waits. -/
def deferring : State := { inked with comp := { inked.comp with deferred := [⟨0, 3, 5⟩] } }
/-- A place that waits for slot 4: 2 lines and 10/64. -/
def placing : State := inked.modLedger 3 (fun l => { l with places := [(4, 138 + 4096)], chart := true })
/-- A group that waits. -/
def queued : State := { inked with comp := { inked.comp with groups := [[slotChange 3 4 0x62 false false, slotChange 3 5 0x62 false false]] } }
/-- A segment prints across the whole of head 3's look-back. -/
def busyHead : State := { placing with spool := { placing.spool with segs := [{ segIn Sg.printing [] with p0 := -100, lines := 300 }] } }
/-- A full journal. -/
def full : State := { queued with comp := { queued.comp with journal := List.replicate 8191 ⟨2, 0, 0, 0⟩ } }
theorem wit_deferred : inked.slotState 3 5 = 1 ∧ deferring.loopFree 3 5 = true ∧ deferring.outCount 3 < deferring.par Par.compOutLimitHead ∧ (deferring.at_ 7).outRate 3 = true ∧
    goes (exec (.deferredOutApply 7) deferring) (fun s' => s'.entry 3 5 == 0x04000062 && s'.comp.deferred == [] && s'.par Par.compDeferred == 1) = true := by decide +kernel
theorem wit_deferred_rate : ({ deferring with comp := { deferring.comp with declared := List.replicate 8 (0, 3) } }.at_ 7).outRate 3 = false := by decide +kernel
theorem wit_place : placing.headGap 3 0 = true ∧ (placing.fireHead 3).last - placing.par (Par.at_ Par.fireULineOffset 3) = 0 ∧
    goes (exec (.alignApplied 7 3) placing) (fun s' => s'.entry 3 4 == 0x10028260 && (s'.ledger 3).places == [] && s'.par (Par.evtCount000 + 37) == 1) = true := by decide +kernel
theorem wit_place_waits : busyHead.headGap 3 0 = false ∧ (busyHead.ledger 3).places ≠ [] ∧ goes (exec (.alignApplied 7 3) busyHead) (fun s' => s'.entry 3 4 == 0x60) = true := by decide +kernel
theorem wit_group : queued.journalRoom 2 = true ∧ goes (exec (.journalGroupAdmit 7) queued) (fun s' => s'.comp.journal.length == 2 && s'.comp.groups == [] && eState (s'.entry 3 5) == 2 &&
      s'.par (Par.evtCount000 + 35) == 1) = true := by decide +kernel
theorem wit_group_full : full.journalRoom 2 = false := by decide +kernel
theorem wit_checkpoint : goes (exec (.ledgerCheckpoint 10000000000) { queued with power := { queued.power with restored := true } }) (fun s' => s'.comp.ckptAt == 10000000000 &&
      goes (exec (.checkpointWritten 10000000001 true) { s' with comp := { s'.comp with groups := [], journal := [⟨2, 0, 0, 0⟩] } }) (fun r => r.power.store.ckpt == some ⟨inked.comp.ledgers, inked.comp.tables, inked.comp.fb, inked.comp.zones⟩ &&
        r.comp.journal.length == 1 && r.par Par.powerCheckpoints == 1)) = true := by decide +kernel

/-- Address 7 with an east zone of 64 columns in plane 0, whose peer 8 was just heard, and H0, which prints it, past line 1,000; ring key generation 3. -/
def stitched (z : List ZoneCol) : State :=
  let s := State.each [(Par.causeAddress, 7), (Par.causeGeneration, 3), (Par.at_ Par.compUEastPeer 0, 8), (Par.at_ Par.compUEastFirst 0, 100), (Par.at_ Par.compUEastCols 0, 64),
    (Par.at_ Par.laneUState 32, 3), (Par.at_ Par.laneUState 35, 3)] (fun e s => s.setPar e.1 e.2) (State.reset.modFire 0 (fun x => { x with last := 1000 }))
  { s with cause := { s.cause with members := [⟨8, [], some 0, none, 1, 1, 0, 0, 0x7FF, 0xFF, false⟩] }, pos := { s.pos with hw := 1000 }, comp := { s.comp with zones := z } }
/-- A stitch frame from address 8 about column 31 of its west zone. -/
def stitch (ftype bit_ e : Nat) : CFrame := ringFrame ftype 8 (leBytes 1 4 ++ leBytes 1 31 ++ leBytes 1 bit_ ++ [0] ++ leBytes 8 e)
/-- A ZONE_STATE of address 8: width, position source and printable columns. -/
def zoneFrame (w src mask : Nat) : CFrame := ringFrame 0x20 8 (leBytes 1 4 ++ [0] ++ leBytes 2 w ++ leBytes 2 src ++ [0, 0] ++ leBytes 32 mask)
theorem wit_stitch_named : RingTaken 7 0x21 (stitch 0x21 0 1064) (stitched []) = true ∧ ((stitched []).at_ 7).zoneColNamed (stitch 0x21 0 1064) = some (0, 0, 31) ∧
    RingTaken 7 0x20 (zoneFrame 64 7 0) (stitched []) = true ∧ ((stitched []).at_ 7).zoneNamed (zoneFrame 64 7 0) = some (0, 0) := by decide +kernel
theorem wit_stitch_change : goes (exec (.stitchChange 7 (stitch 0x21 0 1064)) (stitched [])) (fun s' => (s'.zoneCol 0 0 31).peerFrom == 1064 && !(s'.zoneCol 0 0 31).peer && s'.par Par.compStitchLate == 0) = true ∧
    goes (exec (.stitchChange 7 (stitch 0x21 0 1000)) (stitched [])) (fun s' => (s'.zoneCol 0 0 31).peerFrom == 1001 && s'.par Par.compStitchLate == 1) = true := by decide +kernel
theorem wit_stitch_offer : (stitched []).laneIsUp 32 = true ∧ goes (exec (.stitchOffer 7 (stitch 0x22 0 1001)) (stitched [⟨0, 0, 31, true, none, true, false, 0, none, none, false⟩])) (fun s' => (s'.zoneCol 0 0 31).peerTo == some 1001 &&
      s'.out.any (fun o => match o with | .causeway u b => u == 32 && leAt b 0 1 == 0x23 && leAt b 6 2 == 8 | _ => false)) = true ∧ goes (exec (.stitchOffer 7 (stitch 0x22 0 1000)) (stitched [⟨0, 0, 31, true, none, true, false, 0, none, none, false⟩])) (fun s' => (s'.zoneCol 0 0 31).peerTo == none) = true := by decide +kernel
theorem wit_stitch_ack : goes (exec (.stitchAck 7 (stitch 0x23 1 1064)) (stitched [⟨0, 0, 31, false, none, false, true, 0, none, some 1064, false⟩])) (fun s' => (s'.zoneCol 0 0 31).ownTo == some 1064 &&
      (s'.zoneCol 0 0 31).offer == none) = true := by decide +kernel
theorem wit_zone_state : goes (exec (.zoneState 7 (zoneFrame 63 7 0)) (stitched [])) (fun s' => s'.comp.mismatch == [(0, 0)] && s'.par (Par.evtCount000 + 36) == 1 && s'.cond Ev.stitchMismatch 0) = true ∧
    goes (exec (.zoneState 7 (zoneFrame 64 7 (2 ^ 64 - 2))) (stitched [])) (fun s' => s'.comp.mismatch == [] && !(s'.zoneCol 0 0 0).peer && (s'.zoneCol 0 0 63).peer) = true := by decide +kernel
theorem wit_peer_path : ((stitched []).at_ 1000000000).reachable 8 = false ∧ (stitched []).zonePeer 0 0 = 8 ∧
    goes (exec (.peerPathTimeout 1000000000 8) (stitched [⟨0, 0, 31, false, none, false, true, 0, none, some 1064, false⟩])) (fun s' => s'.comp.zones.map ZoneCol.offer == [none] && s'.comp.zones.map ZoneCol.owed == [true]) = true := by decide +kernel

/-- Channel ENC0 at count 3,999,999 with its base at 0, the mark at 999,999, just below line 1,000,000. -/
def rolling : State := { two with pos := { two.pos with
  chans := [{ two.chan 0 with count := 3999999, edgeA := some 75, phase := some 1000 }, two.chan 1], hw := 999999, hwP := 65535983616, p := 65535983616, tK := 75, dt := 100 } }
theorem wit_count : tooClose 100 (rolling.chan 0).edgeA = false ∧ tooClose 99 (rolling.chan 0).edgeA = true ∧ rolling.ownPos = true ∧ 0 ∈ rolling.usedChans ∧
    goes (exec (.encoderCount 100 0 true false ⟨false, 100, 100⟩) rolling) (fun s' => s'.pos.p == 65536000000 && s'.pos.hw == 1000000 && (s'.chan 0).count == 4000000) = true ∧
    goes (exec (.encoderCount 100 0 true false ⟨true, 100, 100⟩) rolling) (fun s' => (s'.chan 0).count == 3999998 && s'.pos.hw == 999999) = true := by decide +kernel
theorem wit_count_overrate : goes (exec (.encoderCount 99 0 true false ⟨false, 100, 100⟩) rolling) (fun s' => (s'.chan 0).count == 3999999 && s'.faultBits 0 == 2) = true := by decide +kernel
/-- The same in up/down and in sin/cos mode, with the direction inverted. -/
def updown : State := (rolling.setPar (Par.at_ Par.posUMode 0) 1).setPar (Par.at_ Par.posUDirInvert 0) 1
def sincos (p : Nat) : State := { rolling with pos := { rolling.pos with chans := [{ rolling.chan 0 with phase := some p }, two.chan 1] } }.setPar (Par.at_ Par.posUMode 0) 2
theorem wit_updown : goes (exec (.encoderCount 100 0 true false ⟨false, 100, 100⟩) updown) (fun s' => (s'.chan 0).count == 3999998) = true ∧
    goes (exec (.encoderCount 100 0 true true ⟨false, 100, 100⟩) updown) (fun s' => (s'.chan 0).count == 3999999) = true ∧ goes (exec (.encoderCount 100 0 false true ⟨false, 100, 100⟩) updown) (fun s' => (s'.chan 0).count == 4000000) = true := by decide +kernel
theorem wit_sincos : phaseOf (sample12 0) (sample12 500) = 0 ∧ phaseOf (sample12 500) (sample12 0) = 256 ∧ phaseStep 768 0 = 256 ∧ phaseStep 767 0 = 257 ∧
    goes (exec (.sincosSample 100 0 0 500 ()) (sincos 768)) (fun s' => (s'.chan 0).count == 4000255 && (s'.chan 0).phase == some 0 && s'.faultBits 0 == 0) = true ∧
    goes (exec (.sincosSample 100 0 0 500 ()) (sincos 767)) (fun s' => (s'.chan 0).count == 3999999 && s'.faultBits 0 == 2) = true := by decide +kernel
theorem wit_interpolation : goes (exec (.interpolationStop 275) rolling) (fun s' => s'.pos.stopped) = true ∧ goes (exec (.interpolationStop 274) rolling) (fun s' => !s'.pos.stopped) = true := by decide +kernel

/-- Both channels in use, ENC0 active. -/
def bothEnc : State := { (rolling.setPar Par.posChannels 2) with own := owned.own }
/-- ENC1 in fault by SIGNAL since 0. -/
def oneFault : State := { (bothEnc.setPar (Par.at_ Par.posUFault 1) 1) with pos := { bothEnc.pos with chans := [bothEnc.chan 0, { bothEnc.chan 1 with inFault := true }] } }
theorem wit_switchover : (bothEnc.chan 1).inFault = false ∧ bitAt (bothEnc.faultBits 0) 0 = false ∧
    goes (exec (.channelFault 100 0 0) bothEnc) (fun s' => s'.pos.active == 1 && s'.pos.lost == none && s'.par Par.posSwitchovers == 1 && s'.par (Par.evtCount000 + 50) == 1 && s'.par (Par.evtCount000 + 51) == 1) = true := by decide +kernel
theorem wit_single_lost : goes (exec (.channelFault 100 0 1) rolling) (fun s' => s'.pos.lost == some 8 && s'.par (Par.evtCount000 + 54) == 1) = true := by decide +kernel
theorem wit_recover : goes (exec (.channelRecover 100000000 1) oneFault) (fun s' => !(s'.chan 1).inFault && s'.faultBits 1 == 0 && s'.par (Par.evtCount000 + 52) == 1) = true ∧
    goes (exec (.channelRecover 99999999 1) oneFault) (fun s' => (s'.chan 1).inFault) = true := by decide +kernel
theorem wit_speed : goes (exec (.speedWindow 250000) { rolling with pos := { rolling.pos with chans := [{ rolling.chan 0 with winCount := 3999994 }, rolling.chan 1] } }) (fun s' => s'.par Par.posLineRate == 5000 && s'.par (Par.at_ Par.posUSpeed 0) == 5) = true ∧
    goes (exec (.speedWindow 249999) rolling) (fun s' => s'.pos.speedAt == 0) = true := by decide +kernel
theorem wit_select : TakenAll h1 bothEnc = true ∧ 1 ∈ bothEnc.usedChans ∧ mayChange (bothEnc.role 1) .oper = true ∧ bothEnc.owns 1 = true ∧ bothEnc.faultBits 1 &&& 7 = 0 ∧ oneFault.faultBits 1 &&& 7 ≠ 0 ∧
    goes (exec (.posChannelSelect 100 h1 [1, 0, 0, 0]) bothEnc) (fun s' => s'.pos.select == some 1) = true ∧ goes (exec (.posChannelSelect 100 h1 [1, 0, 0, 0]) oneFault) (replied h1 0x0902 0x0502 0x0901 (.bytes [])) = true := by decide +kernel
theorem wit_pos_status : goes (exec (.posStatus 100 h1 []) rolling) (replied h1 0x0901 0 0 (.bytes (leBytes 8 65535983616 ++ leBytes 8 999999 ++ List.replicate 8 0 ++ leBytes 8 75))) = true := by decide +kernel
theorem wit_reject_test : bothEnc.runningState = none ∧ (bothEnc.rej 1).assertedTo = none ∧ goes (exec (.posRejectTest 1100 h1 ([1, 0, 0, 0] ++ leBytes 4 10)) bothEnc) (fun s' => (s'.rej 1).assertedTo == some 12000) = true ∧
    ({ bothEnc with spool := (holding (segIn Sg.printing [])).spool }).runningState = some 6 := by decide +kernel

/-- ENC0 with a Z reference at 3,990,000, an index every 5,000 counts and a resnap that waits. -/
def indexed : State := ({ rolling with pos := { rolling.pos with chans := [{ rolling.chan 0 with idxRef := some 3990001, idxLast := 3995001, idxDev := some (-8) }, rolling.chan 1] } }.setPar
  (Par.at_ Par.posUIndexPeriod 0) 5000).setPar (Par.at_ Par.posUIndexResnap 0) 1
theorem wit_index : (indexed.chan 0).count = 3990001 + 2 * 5000 + (-2) ∧ goes (exec (.indexPulse 100 ⟨0, 100⟩) indexed) (fun s' => s'.par (Par.at_ Par.posUIndexDev 0) == 0xFFFFFFFE && s'.par (Par.at_ Par.posUIndexSmall 0) == 1) = true ∧
    goes (exec (.indexPulse 100 ⟨0, 100⟩) (indexed.setPar (Par.at_ Par.posUIndexTol 0) 1)) (fun s' => s'.par (Par.evtCount000 + 58) == 1 && (s'.chan 0).idxDev == some (-2)) = true := by decide +kernel
theorem wit_index_first : goes (exec (.indexPulse 100 ⟨0, 100⟩) (rolling.setPar (Par.at_ Par.posUIndexPeriod 0) 5000)) (fun s' => (s'.chan 0).idxRef == some 3999999) = true := by decide +kernel
theorem wit_index_missing : goes (exec (.indexMissing 100 0) { indexed with pos := { indexed.pos with chans := [{ indexed.chan 0 with idxLast := 3994996 }, indexed.chan 1] } }) (fun s' => s'.par (Par.evtCount000 + 58) == 1) = true ∧
    goes (exec (.indexMissing 100 0) { indexed with pos := { indexed.pos with chans := [{ indexed.chan 0 with idxLast := 3994997 }, indexed.chan 1] } }) (fun s' => s'.par (Par.evtCount000 + 58) == 0) = true := by decide +kernel
theorem wit_resnap : indexed.runningState = none ∧ indexed.acceptedSet = [] ∧ indexed.countPos 0 (-8) = -131072 ∧ goes (exec (.resnap 100) indexed) (fun s' => s'.pos.p == 65535983616 + 131072 && s'.pos.hw == 1000001 && s'.par Par.posResnaps == 1) = true := by decide +kernel
theorem wit_resnap_busy : ({ indexed with spool := (holding (segIn Sg.inHorizon [])).spool }).runningState = some 5 := by decide +kernel

/-- An edge of PGO1 latched at line 1,000 at time 50 with 20 µs of debounce. -/
def edged (last : Option Int) (segs : List Seg) : State := { rolling with
  pos := { rolling.pos with hw := 1000, pgos := [⟨none, none⟩, ⟨some ⟨65536500, 50, 20, 3⟩, last⟩, ⟨none, none⟩, ⟨none, none⟩] }, spool := { rolling.spool with segs := segs } }
/-- A print-go segment on PGO1, offset 5,000. -/
def pgoSeg : Seg := { segOf (openBody 3 300 300) 77 9 1 1 with state := Sg.accepted, lead := 100 }
theorem wit_latch : goes (exec (.pgoEdgeLatch 50 0 true) (edged none [])) (fun s' => (s'.pgo 0).latch == some ⟨65535983616, 50, 20, 0⟩) = true := by decide +kernel
theorem wit_bind : (edged none [pgoSeg]).pgoNext 1 = some pgoSeg ∧ (edged none [pgoSeg]).seg 77 = some pgoSeg ∧ (edged none [pgoSeg]).mayBind pgoSeg 65536500 = true ∧
    goes (exec (.pgoEdgeConfirm 20050 1) (edged none [pgoSeg])) (fun s' => (s'.seg 77).map Seg.p0 == some 6000 && (s'.rej 1).queue == [⟨65536500, 20000, some 77, false, false⟩]) = true := by decide +kernel
theorem wit_unserved : (edged none []).pgoNext 1 = none ∧ goes (exec (.pgoEdgeConfirm 20050 1) (edged none [])) (fun s' => s'.par Par.spoolPgoUnserved == 1 && s'.par (Par.evtCount000 + 21) == 1) = true ∧
    goes (exec (.pgoEdgeConfirm 20049 1) (edged none [])) (fun s' => s'.par Par.posPgoEdges == 0) = true := by decide +kernel
theorem wit_lockout : goes (exec (.pgoEdgeConfirm 20050 1) (edged (some (65536500 - 196607)) [])) (fun s' => s'.par Par.posPgoFiltered == 1 && s'.par Par.posPgoEdges == 0) = true ∧
    goes (exec (.pgoEdgeConfirm 20050 1) (edged (some (65536500 - 196608)) [])) (fun s' => s'.par Par.posPgoEdges == 1) = true := by decide +kernel
theorem wit_discard : goes (exec (.pgoPulseDiscard 20049 1) (edged none [])) (fun s' => (s'.pgo 1).latch == none && s'.par Par.posPgoFiltered == 1) = true := by decide +kernel
/-- A candidate of segment 77 falls due at 1,000. -/
def candidate (g : Seg) : State := { edged none [g] with pos := { (edged none [g]).pos with rejects := [⟨[⟨65536000, 30, some 77, false, false⟩], 0, none, false, false, false, []⟩, ⟨[], 0, some 40, false, false, false, []⟩] } }
theorem wit_reject : goes (exec (.rejectDue 10 0) (candidate { pgoSeg with ranges := [⟨0, 0, 1, 3, 0, 0⟩] })) (fun s' => (s'.rej 0).assertedTo == some 30010 && s'.par Par.posRejPulses == 1) = true ∧
    goes (exec (.rejectDue 10 0) (candidate pgoSeg)) (fun s' => (s'.rej 0).dropped == [(77, 30)] && (s'.rej 0).queue == []) = true := by decide +kernel
theorem wit_pulse_end : goes (exec (.rejectPulseEnd 40 1) (candidate pgoSeg)) (fun s' => (s'.rej 1).assertedTo == none && s'.out == [.pin "REJ1" 0]) = true := by decide +kernel

/-- Segment 77 prints lines 5,000 to 5,009 on H0 and H3; the web has just reached line 5,001. -/
def firing (c : Option Nat) : State := { inked with
  spool := { inked.spool with segs := [{ segIn Sg.printing [] with p0 := 5000, bound := true, next := [(0, 0), (3, 0)] }] }
  pos := { inked.pos with p := 65536 * 5001, dp := 32768, dt := 500000, tK := 0, hw := 5000, stopped := true, lost := c }
  fire := { inked.fire with heads := modNth (fun f => { f with lanes := 3, lseq := 65535, last := 5000, lastStart := some 1000000 }) 3 inked.fire.heads } }
/-- Its segment. -/
def seg77 : Seg := { segIn Sg.printing [] with p0 := 5000, bound := true, next := [(0, 0), (3, 0)] }
theorem wit_line_due : LineDue 2000000 3 5001 (firing none) = true ∧ Sole 3 5001 seg77 (firing none) = true ∧ (firing none).causesAt 3 = [] ∧ (firing none).periodNs = 1000000 ∧
    LineDue 2000000 3 5000 (firing none) = false ∧ LineDue 2000000 3 5002 (firing none) = false ∧ 8 ∈ (firing (some 8)).causesAt 3 := by decide +kernel
theorem wit_line_none : LineDue 2000000 0 1 { firing none with spool := inked.spool } = true ∧
    ({ firing none with spool := inked.spool }).drawn 0 1 = [] := by decide +kernel
theorem wit_line_fires : goes (exec (.lineBoundary 2000000 3 5001) (firing none)) (fun s' => (s'.fireHead 3).lseq == 0 && s'.pos.hw == 5001 &&
    (s'.fireHead 3).sent.map HeadLine.fireAt == [2001600] && (s'.fireHead 3).sent.map HeadLine.items == [[(77, 1, 2)]] &&
    s'.out.any (fun o => match o with | .theal 7 1 v _ => v == [65535, 2, 0, 1, 8, 1000000, 8] | _ => false)) = true := by decide +kernel
/-- The same with the next position 1 ms later. -/
def firingSlow : State := { firing none with pos := { (firing none).pos with tK := 1500000 } }
theorem wit_line_deferred : LineDue 1999999 3 5001 firingSlow = true ∧ decide (0 < firingSlow.pos.dp) = true ∧ decide (((2000000 : Nat) : Int) + firingSlow.offset < firingSlow.startTime (5001 + firingSlow.lineOffset 3 + 1)) = true ∧
    goes (exec (.lineBoundary 1999999 3 5001) firingSlow) (fun s' => (s'.fireHead 3).sent.map HeadLine.fireAt == [2001600] &&
    s'.par (Par.at_ Par.fireULinesDeferred 3) == 1 && s'.par (Par.evtCount000 + 55) == 1 && (s'.seg 77).any (fun g => g.ranges == [⟨3, 1, 1, 9, 2, 0⟩])) = true := by decide +kernel
theorem wit_line_skipped : goes (exec (.lineBoundary 1000000 3 5001) (firing none)) (fun s' => (s'.fireHead 3).sent == [] && s'.par (Par.at_ Par.fireULinesSkipped 3) == 1 &&
    (s'.seg 77).any (fun g => g.ranges == [⟨3, 1, 1, 9, 0, 0⟩])) = true := by decide +kernel
theorem wit_line_cause : goes (exec (.lineBoundary 2000000 3 5001) (firing (some 8))) (fun s' => (s'.fireHead 3).sent == [] && (s'.seg 77).any (fun g => g.ranges == [⟨3, 1, 1, 8, 0, 0⟩] && g.causes == [8])) = true := by decide +kernel

/-- LSEQ 9 of H3, to fire at 3,000,000; a gate met it at `m` if any. -/
def line9 (m : Option (Nat × Nat)) : HeadLine := ⟨9, [(77, 1, 2)], 3000000, 1000000, 0, m, false⟩
/-- It was sent on H3. -/
def awaiting (m : Option (Nat × Nat)) : State := { firing none with
  fire := { (firing none).fire with heads := modNth (fun f => { f with sent := [line9 m] }) 3 (firing none).fire.heads } }
theorem wit_go : ∃ t, (awaiting none).now ≤ t ∧ t = ((awaiting none).goTime 6 (line9 none)).1 ∧ ((awaiting none).at_ t).gateDue 3 = false :=
  ⟨((awaiting none).goTime 6 (line9 none)).1, Nat.zero_le _, rfl, rfl⟩
theorem wit_go_rest : (awaiting none).laneIsUp 6 = true ∧ ((awaiting none).fireHead 3).sent.find? (fun x => x.lseq == 9) = some (line9 none) ∧ (awaiting none).gated 3 = false ∧
    (awaiting none).power.sag = 0 ∧ (awaiting none).holding 5 = false ∧ ((awaiting none).head 3).fault = false ∧ bitAt (line9 none).gone 0 = false := by decide +kernel
theorem wit_line_ack : FirstCopy 6 [0x83, 9, 0, 0] (awaiting none) = true ∧ (awaiting none).heads.length = 16 ∧
    goes (exec (.lineAck 3000010 6 9 0 0) (awaiting none)) (fun s' => s'.par (Par.at_ Par.fireULinesFired 3) == 1 && (s'.fireHead 3).sent == [] &&
      goes (exec (.lineAck 3000020 7 9 0 0) s') (fun r => r.par (Par.at_ Par.fireULinesFired 3) == 1)) = true ∧
    goes (exec (.lineAck 3000010 6 9 1 6) (awaiting none)) (fun s' => s'.par (Par.at_ Par.fireUPhasesMissing 3) == 2 && s'.par (Par.at_ Par.fireULinesBroken 3) == 1 &&
      (s'.seg 77).any (fun g => g.ranges == [⟨3, 1, 1, 5, 1, 12288⟩])) = true := by decide +kernel
theorem wit_line_ack_timeout : goes (exec (.lineAckTimeout 5088750 3 9) (awaiting none)) (fun s' => s'.par (Par.at_ Par.fireULinesBroken 3) == 1 && (s'.fireHead 3).sent == []) = true ∧
    goes (exec (.lineAckTimeout 5088749 3 9) (awaiting none)) (fun s' => (s'.fireHead 3).sent.length == 1) = true := by decide +kernel
theorem wit_gate : (nth (awaiting none).fire.gates ⟨false, 0, 0⟩ 5).active = false ∧
    goes (exec (.gateActivate 2000000 5) ((awaiting none).setPar (Par.posGate0Role + 20) 4)) (fun s' => s'.gated 3 && (s'.causesAt 3).contains 3 && s'.out.contains (.marker 6 0x55 1) &&
      s'.par (Par.evtCount000 + 57) == 1 && (s'.fireHead 3).sent.map HeadLine.gated == [some (3, 2000000)] &&
      goes (exec (.goLaunch 3000000 6 9 ()) s') (fun r => r.out == []) &&
      goes (exec (.gateReport 2000100 6 0 0 0) s') (fun r => (r.fireHead 3).sent == [] && (r.seg 77).any (fun g => g.ranges == [⟨3, 1, 1, 3, 0, 0⟩])) &&
      goes (exec (.gateRelease 4000000 5) s') (fun r => !r.gated 3 && r.out.contains (.marker 6 0x55 0) && !r.cond 57 5)) = true := by decide +kernel
theorem wit_gate_report : FirstCopy 6 [0x85, 9, 1, 2 ^ 64 - 1] (awaiting (some (3, 3000000))) = true ∧ (awaiting (some (3, 3000000))).running 3 (line9 (some (3, 3000000))) = true ∧
    (awaiting (some (3, 2000000))).unstarted 3 (line9 (some (3, 2000000))) = true ∧
    goes (exec (.gateReport 3000100 6 9 1 (2 ^ 64 - 1)) (awaiting (some (3, 3000000)))) (fun s' => s'.par (Par.at_ Par.fireUGateBreaks 3) == 1 && (s'.seg 77).any (fun g => g.ranges == [⟨3, 1, 1, 3, 1, 12288⟩])) = true ∧
    goes (exec (.gateReportTimeout 3100000 3 ()) (awaiting (some (3, 3000000)))) (fun s' => s'.par (Par.at_ Par.fireUGateBreaks 3) == 1) = true ∧
    goes (exec (.gateReportTimeout 3099999 3 ()) (awaiting (some (3, 3000000)))) (fun s' => s'.par (Par.at_ Par.fireUGateBreaks 3) == 0) = true := by decide +kernel
theorem wit_fire_status : learnRight (inked.role 1) .counters = .all ∧ goes (exec (.fireStatus 7 h1 []) inked) (fun s' => s'.out.any (fun o => match o with
    | .reply 1 r => r.opcode == 0x0A01 && r.status == 0 && (match r.body with | .bytes b => (b.drop 58).take 2 == [5, 0] && b.length == 256 | _ => false) | _ => false)) = true := by decide +kernel

/-- A head memory of 64 slots, with a one-byte chain. -/
def headMem : List Byte :=
  leBytes 4 0x444D4841 ++ [1, 5] ++ leBytes 2 64 ++ [7, 0, 0, 0] ++ leBytes 4 200000 ++ leBytes 2 300 ++ leBytes 2 1000 ++ leBytes 2 1200 ++ [0, 0] ++ leBytes 16 31 ++ List.replicate 8 0 ++
  leBytes 4 0x200 ++ leBytes 4 0x300 ++ leBytes 2 1 ++ [0, 0] ++ leBytes 4 0x304 ++ List.replicate 192 0 ++
  (List.replicate 7 ([0x10, 0, 0, 4, 0] ++ List.replicate 15 0)).flatten ++ List.replicate 0x74 0 ++ List.replicate 256 0 ++ List.replicate 4 0 ++
  beBytes 96 244005049981782168793352218067800677654558510149640311081862017680934335378448457512490121399633867171222790434241556961491184512572497107574722773483010926367387185260780675103015757465165147564073225304642669447870337140824355961
/-- A head-maker leaf of the root 4, whose private key is 5. -/
def headChain : Chain := ⟨true, 2, 6, 4, false, 0, 2 ^ 60, ecPublic 5⟩
/-- The key of the copy of a MEM_DATA that carries bytes under RTAG 8. -/
def memKey (data : List Byte) : List Nat := [0x84, 8, 0] ++ data.map BitVec.toNat
/-- H1, whose slots are 64 columns, holds the first 512 bytes of its memory. -/
def attaching : State :=
  let s := ((two.setPar (Par.at_ Par.laneUState 2) 3).setPar (Par.at_ Par.headUColCount 1) 64).setPar (Par.at_ Par.headUNozPerCol 1) 1
  let s := { s with shell := { s.shell with slots := [⟨2, false, 4⟩] }, own := owned.own }
  s.modHead 1 (fun x => { x with phase := 1, identity := 31, slots := 64, memSize := 868, rtag := 8, ahead := [], reads := [⟨0, 0, 0, 868, headMem.take 512⟩] })
theorem wit_head_hello : goes (exec (.headHello 7 2 31 64 868) (attaching.modHead 1 (fun x => { x with phase := 0, reads := [] }))) (fun s' => (s'.head 1).phase == 1 && s'.headState 1 == 1 &&
    s'.out.contains (.theal 2 4 [9, 512, 0] [])) = true ∧ attaching.laneIsUp 2 = true ∧ LanesOn 1 attaching = true := by decide +kernel
theorem wit_mem_part : goes (exec (.memData 7 2 8 false (headMem.take 512) headChain ()) (attaching.modHead 1 (fun x => { x with reads := [⟨0, 0, 0, 1100, []⟩] }))) (fun s' =>
    s'.out.contains (.theal 2 4 [9, 512, 512] [])) = true ∧ FirstCopy 2 (memKey (headMem.take 512)) attaching = true := by decide +kernel
theorem wit_mem_valid : headMem.length = 868 ∧ (attaching.at_ 7).headValid 1 headMem headChain = true ∧ attaching.withholding 1 = none ∧ FirstCopy 2 (memKey (headMem.drop 512)) attaching = true := by decide +kernel
theorem wit_mem_attach : goes (exec (.memData 7 2 8 false (headMem.drop 512) headChain ()) attaching) (fun s' => s'.attached 1 && s'.slots 1 == 64 && s'.maxLineRate 1 == 200000 && (s'.head 1).hpen && s'.headState 1 == 4 &&
    s'.par (Par.at_ Par.headURank 1) == 5 && s'.par (Par.evtCount000 + 44) == 1 && s'.out.contains (.pin "HPEN1" 1)) = true := by decide +kernel
theorem wit_mem_refused : (attaching.at_ 7).headValid 1 headMem { headChain with root := 5 } = false ∧ goes (exec (.memData 7 2 8 false (headMem.drop 512) { headChain with root := 5 } ()) attaching) (fun s' =>
    !(s'.head 1).hpen && s'.headState 1 == 2 && s'.par (Par.evtCount000 + 42) == 1) = true := by decide +kernel
/-- H1 attached, and unpowered, with HPEN asserted since 5 where `on`. -/
def attachedH1 (on : Bool) : State := attaching.modHead 1 (fun x => { x with phase := 2, auth := true, reads := [], mem := headMem, hpen := on, hpenAt := 5, cmd := some false })
theorem wit_head_power : TakenAll h1 (attachedH1 false) = true ∧ (attachedH1 false).attached 1 = true ∧ goes (exec (.headPower 7 h1 [1, 1, 0, 0]) (attachedH1 false)) (fun s' => (s'.head 1).hpen && s'.par (Par.at_ Par.headUPower 1) == 1 &&
      replied h1 0x0B02 0 0 (.bytes []) s') = true ∧
    goes (exec (.headPower 7 h1 [1, 0, 0, 0]) (attachedH1 true)) (fun s' => !(s'.head 1).hpen && s'.out.contains (.pin "HPEN1" 0)) = true ∧
    goes (exec (.headPower 7 h1 [2, 1, 0, 0]) (attachedH1 false)) (replied h1 0x0B02 0x0214 2 (.bytes [])) = true := by decide +kernel
theorem wit_head_reads : learnRight ((attachedH1 true).role 1) .headCal = .all ∧ goes (exec (.headMemoryRead 7 h1 ([1, 0] ++ leBytes 2 4 ++ leBytes 4 864)) (attachedH1 true)) (fun s' =>
      (s'.head 1).reads.map (fun r => (r.kind, r.offset, r.total)) == [(2, 864, 4)]) = true ∧
    goes (exec (.headMemoryRead 7 h1 ([1, 0] ++ leBytes 2 4 ++ leBytes 4 868)) (attachedH1 true)) (replied h1 0x0B01 0x0101 12 (.bytes [])) = true ∧
    goes (exec (.headReauth 7 h1 [1, 0, 0, 0]) (attachedH1 true)) (fun s' => (s'.head 1).reads.map (fun r => (r.kind, r.offset, r.total)) == [(1, 0, 868)]) = true := by decide +kernel
theorem wit_recipe_write : recipeForm (leAt ([0x10, 0, 0, 8, 0] ++ List.replicate 15 (0 : Byte)) 0 20 * ((256 ^ 140 - 1) / (256 ^ 20 - 1))) = none ∧ mayWrite (owned.role 1) (Par.at_ Par.headURecipe 1) = true ∧
    goes (exec (.headRecipeWrite 7 h1 ([1, 7, 0, 0, 0x10, 0, 0, 8, 0] ++ List.replicate 15 0)) owned) (fun s' => (s'.stageOf 1).map StageEntry.value == [0x0800001 * 16 * 256 ^ 120]) = true := by decide +kernel
theorem wit_power_good : goes (exec (.powerGoodTimeout 100000005 1) (attachedH1 true)) (fun s' => !(s'.head 1).hpen && s'.headState 1 == 7 && s'.par (Par.evtCount000 + 40) == 1) = true ∧
    goes (exec (.powerGoodTimeout 100000004 1) (attachedH1 true)) (fun s' => (s'.head 1).hpen) = true := by decide +kernel
theorem wit_readback : goes (exec (.hpenReadbackFault 7 1) (attachedH1 true)) (fun s' => s'.headState 1 == 7 && s'.par (Par.evtCount000 + 40) == 1 && goes (exec (.hpenReadbackAgree 8 1) s') (fun r => r.headState 1 == 4)) = true := by decide +kernel

/-- H1 attached and unpowered, whose limit is 65.0 °C and warning 60.0 °C; its stage as given. -/
def warmH1 (stage : Nat) : State := (attachedH1 false).setPar (Par.at_ Par.headUTempStage 1) stage
theorem wit_temp : (warmH1 0).tempLimit 1 = 1040 ∧ (warmH1 0).tempWarn 1 = 960 ∧ (warmH1 0).lanesUp 1 = [2] ∧
    goes (exec (.status 7 2 1040 0 0 0 0) (warmH1 0)) (fun s' => (s'.head 1).stageNext == some (2, 1040) && s'.par (Par.at_ Par.headUTempStage 1) == 0) = true ∧ FirstCopy 2 [0x82, 1040, 0, 0, 0, 0] (warmH1 0) = true ∧
    goes (exec (.status 7 3 881 0 0 0 0) ((warmH1 2).setPar (Par.at_ Par.laneUState 3) 3)) (fun s' => s'.par (Par.at_ Par.headUTempStage 1) == 2 && (s'.head 1).stageNext == none) = true ∧
    goes (exec (.status 7 2 880 0 0 0 0) (warmH1 2)) (fun s' => (s'.head 1).stageNext == some (0, 880)) = true ∧
    goes (exec (.status 7 2 960 0 0 0 0) (warmH1 0)) (fun s' => (s'.head 1).stageNext == some (1, 960)) = true := by decide +kernel
/-- H3 of `firing`, whose temperature stage waits for its next line boundary. -/
def stageWaits : State := (firing none).modHead 3 (fun x => { x with stageNext := some (1, 960) })
theorem wit_temp_boundary : LineDue 2000000 3 5001 stageWaits = true ∧ goes (exec (.lineBoundary 2000000 3 5001) stageWaits) (fun s' => s'.par (Par.at_ Par.headUTempStage 3) == 1 && (s'.head 3).stageNext == none &&
    s'.par (Par.evtCount000 + 41) == 1) = true := by decide +kernel
theorem wit_head_fault : goes (exec (.status 7 2 700 2 0x1AB 0 0) (warmH1 0)) (fun s' => s'.headState 1 == 7 && (s'.head 1).faultCode == 0xAB && (s'.causesAt 1).contains 5 &&
    goes (exec (.status 8 2 700 0 0 0 0) s') (fun r => goes (exec (.headFaultClear 10000008 1) r) (fun x => x.headState 1 == 3) && goes (exec (.headFaultClear 10000007 1) r) (fun x => x.headState 1 == 7))) = true := by decide +kernel
theorem wit_power_lost : goes (exec (.status 7 2 700 0 0 0 0) ((attachedH1 true).modHead 1 (fun x => { x with good := true }))) (fun s' => !(s'.head 1).hpen && s'.par (Par.evtCount000 + 43) == 1 && s'.headState 1 == 7) = true := by decide +kernel
/-- Two readings of mean `m`. -/
def loopH1 (m : Int) : State := { (warmH1 0).modHead 1 (fun x => { x with tempSum := 2 * m, tempN := 2 }) with cause := (warmH1 0).cause }
theorem wit_loop : (loopH1 729).loopsRun = true ∧ (loopH1 729).pinned (Par.at_ Par.headUPreheat 1) = false ∧
    goes (exec (.tempLoopTick 10000000 1) (loopH1 729)) (fun s' => s'.par (Par.at_ Par.headUPreheat 1) == 7) = true ∧ goes (exec (.tempLoopTick 10000000 1) (loopH1 728)) (fun s' => s'.par (Par.at_ Par.headUPreheat 1) == 8) = true ∧
    goes (exec (.tempLoopTick 10000000 1) (loopH1 711)) (fun s' => s'.par (Par.at_ Par.headUPreheat 1) == 9) = true ∧ goes (exec (.tempLoopTick 9999999 1) (loopH1 711)) (fun s' => s'.par (Par.at_ Par.headUPreheat 1) == 8) = true := by decide +kernel
theorem wit_loop_held : ({ loopH1 711 with pins := [⟨Par.at_ Par.headUPreheat 1, 1, 0⟩] }).pinned (Par.at_ Par.headUPreheat 1) = true := by decide +kernel
theorem wit_status_silence : goes (exec (.statusSilence 1000000 1) (attachedH1 true)) (fun s' => s'.headState 1 == 0 && !(s'.head 1).hpen && s'.par (Par.evtCount000 + 43) == 1) = true ∧
    goes (exec (.statusSilence 999999 1) (attachedH1 true)) (fun s' => (s'.head 1).phase == 2) = true := by decide +kernel
theorem wit_table_resend : goes (exec (.tableResend 200000 1 3 4) ((attachedH1 true).modHead 1 (fun x => { x with tables := [⟨3, 4, 0, 2048, [7], 0⟩] }))) (fun s' =>
    s'.out.contains (.theal 2 3 [0, 4, 2048, 1] [7]) && s'.par (Par.at_ Par.headUTableResends 1) == 1) = true := by decide +kernel

/-- Lane `u` in a state, at its reset values but for what `f` sets. -/
def laneIn (u st : Nat) (f : Lane → Lane) : State := (two.setPar (Par.at_ Par.laneUState u) st).modLane u f
theorem wit_retrain_timer : goes (exec (.laneRetrainTimer 20000004 7) (laneIn 7 4 (fun l => { l with failedAt := 5 }))) (fun s' => s'.laneState 7 == 4) = true := by decide +kernel
theorem wit_retrain_start : Seeds 7 (laneIn 7 4 id) = true ∧ goes (exec (.laneRetrainTimer 20000005 7) (laneIn 7 4 (fun l => { l with failedAt := 5 }))) (fun s' => s'.laneState 7 == 1 && s'.par (Par.at_ Par.laneUTrainings 7) == 1) = true ∧
    goes (exec (.laneRetrainTimer 20000005 7) (laneIn 7 5 id)) (fun s' => s'.laneState 7 == 5) = true := by decide +kernel
theorem wit_load : (laneIn 7 1 id).cond Ev.laneDown 7 = false ∧ goes (exec (.loadCheck 7 7 0) (laneIn 7 1 id)) (fun s' => s'.laneState 7 == 2) = true ∧
    goes (exec (.loadCheck 7 7 2) (laneIn 7 1 id)) (fun s' => s'.laneState 7 == 4 && s'.par (Par.at_ Par.laneUReason 7) == 4 && s'.par (Par.evtCount000 + 46) == 1) = true := by decide +kernel
theorem wit_probe : goes (exec (.train 7 7 (0x66 + 256 * 3) 0 25 0) (laneIn 7 2 (fun l => { l with rxReady := true }))) (fun s' => s'.out.contains (.marker 7 0x66 (768 + 65536 + 131072 + 25 * 262144))) = true ∧ LanesOn 3 (laneIn 7 2 id) = true := by decide +kernel
/-- Seven probes have returned with at most 299 ns. -/
def trained (u : Nat) : State := laneIn u 2 (fun l => { l with rxReady := true, peerReady := true, probes := [0, 1, 2, 3, 4, 5, 6], rtt := 89 })
theorem wit_train_up : Wired 7 (trained 7) = true ∧ goes (exec (.train 7 7 (0x66 + 256 * 7 + 65536 + 20 * 262144) 620 0 0) (trained 7)) (fun s' => s'.laneState 7 == 3 && s'.par (Par.at_ Par.laneULatency 7) == 300 && (s'.fireHead 3).lanes == 2) = true ∧
    goes (exec (.train 7 7 (0x66 + 256 * 7 + 65536 + 20 * 262144) 621 0 0) (trained 7)) (fun s' => s'.laneState 7 == 4 && s'.par (Par.at_ Par.laneUReason 7) == 9) = true ∧
    goes (exec (.train 7 33 (0x66 + 256 * 7 + 65536 + 20 * 262144) 200 0 0) (trained 33)) (fun s' => s'.laneState 33 == 3) = true ∧
    goes (exec (.train 7 33 (0x66 + 256 * 7 + 65536 + 20 * 262144) 201 0 0) (trained 33)) (fun s' => s'.laneState 33 == 4) = true := by decide +kernel
theorem wit_train_timeout : goes (exec (.trainTimeout 10000005 7) (laneIn 7 2 (fun l => { l with startAt := 5 }))) (fun s' => s'.par (Par.at_ Par.laneUReason 7) == 0xB) = true ∧
    goes (exec (.trainTimeout 10000004 7) (laneIn 7 2 (fun l => { l with startAt := 5 }))) (fun s' => s'.laneState 7 == 2) = true := by decide +kernel
theorem wit_scrambler : scrambleStep 1 = (2, 0) ∧ scrambleStep (2 ^ 30) = (1, 1) ∧ scrambleStep (2 ^ 27) = (2 ^ 28 + 1, 1) := by decide +kernel
theorem wit_align : Steady 9 7 (laneIn 7 3 (fun l => { l with rxState := some 1 })) = true ∧
    goes (exec (.align 9 7 (0x33 + 256 + 65536) 77 3 false) (laneIn 7 3 (fun l => { l with rxState := some 1 }))) (fun s' => s'.laneState 7 == 3 && (s'.lane 7).rxState == some 77 && s'.par (Par.at_ Par.laneUSeedResync 7) == 1 &&
      s'.par (Par.at_ Par.laneUSwapped 7) == 0) = true ∧
    goes (exec (.align 9 7 (0x33 + 65536) (scrambleWords 5 1) 3 false) (laneIn 7 3 (fun l => { l with rxState := some 1 }))) (fun s' => s'.par (Par.at_ Par.laneUSeedResync 7) == 0 && s'.par (Par.at_ Par.laneUSwapped 7) == 1 &&
      s'.par (Par.at_ Par.laneUSwapped 6) == 1) = true ∧
    goes (exec (.align 9 7 0x133 77 3 false) (laneIn 7 3 id)) (fun s' => s'.laneState 7 == 4 && s'.par (Par.at_ Par.laneUReason 7) == 8) = true := by decide +kernel
theorem wit_align_due : LanesOn 17 (laneIn 35 3 id) = true ∧ goes (exec (.alignDue 9 35 ()) (laneIn 35 3 (fun l => { l with txState := 5, acount := 255, sinceFill := 637 }))) (fun s' =>
      s'.out == [.line 35 [(2, 0xFF010733), (2, scrambleWords 2 5)]] && (s'.lane 35).acount == 0) = true ∧
    goes (exec (.alignDue 9 7 ()) (laneIn 7 2 (fun l => { l with txState := 5, rxReady := true, probes := [0, 1, 3] }))) (fun s' => s'.out.contains (.marker 7 0x66 (512 + 131072)) &&
      s'.out.any (fun o => match o with | .line 7 ws => ws.length == 64 | _ => false)) = true := by decide +kernel
theorem wit_fill_due : goes (exec (.fillDue 9 ⟨35, 3⟩) (laneIn 35 2 (fun l => { l with txState := 5, sinceAlign := 8186 }))) (fun s' => s'.out == [.line 35 (scrambled 5 [(2, 0x1E), (2, 0x1E), (2, 0x1E)])]) = true ∧
    goes (exec (.fillDue 9 ⟨35, 1⟩) (laneIn 35 6 (fun l => { l with txState := 5, sinceFill := 638, loop := some ⟨4, 1, 9, 0, 0, 0⟩ }))) (fun s' => s'.out == [.line 35 (scrambled 5 [(1, 0)])]) = true := by decide +kernel

/-- Lane 7 UP with descrambler state 5 and FSEQ 254 last; and in loopback. -/
def carrying : State := laneIn 7 3 (fun l => { l with rxState := some 5, fseqRx := some 254 })
theorem wit_frame_good : goes (exec (.thealFrameReceive 9 7 16 (scrambled 5 (frameWords 255 (frameCrc 255 [0x00101082, 7, 8, 0xFFFFFFFF]) [0x00101082, 7, 8, 0xFFFFFFFF]))) carrying) (fun s' =>
    (s'.lane 7).rx == leBytes 4 0x00101082 ++ leBytes 4 7 ++ leBytes 4 8 ++ List.replicate 4 255 && s'.par (Par.at_ Par.laneUFramesRx 7) == 1 && s'.par (Par.at_ Par.laneUCrcFail 7) == 0) = true := by decide +kernel
theorem wit_frame_bad : frameCrc 255 [7] ≠ 0 ∧ goes (exec (.thealFrameReceive 9 7 16 (scrambled 5 (frameWords 255 0 [7]))) carrying) (fun s' => (s'.lane 7).rx == [] && s'.par (Par.at_ Par.laneUCrcFail 7) == 1) = true := by decide +kernel
/-- Lane 7 in a loopback that this end runs. -/
def looping : State := laneIn 7 6 (fun l => { l with rxState := some 5, loop := some ⟨4, 1, 9, 0, 0, 0⟩ })
theorem wit_loop_words : LanesIn 7 looping = true ∧ goes (exec (.thealFrameReceive 9 7 16 (scrambled 5 [(1, 0), (1, 0)])) looping) (fun s' => (s'.lane 7).loop == some ⟨4, 1, 9, 2, 0, 0⟩) = true ∧
    goes (exec (.thealFrameReceive 9 7 16 (scrambled 5 [(1, 0x80000001)])) looping) (fun s' => (s'.lane 7).loop == some ⟨4, 1, 9, 1, 1, 2⟩) = true ∧
    goes (exec (.thealFrameReceive 9 7 20 [(1, 7), (2, 8)]) (laneIn 7 6 (fun l => { l with rxState := some 5, far := some 3 }))) (fun s' => s'.out == [.line 7 [(1, 7), (2, 8)]]) = true := by decide +kernel
theorem wit_lane_fault : Steady 9 7 carrying = true ∧ goes (exec (.laneFault 9 7 1) carrying) (fun s' => s'.laneState 7 == 4 && s'.par (Par.at_ Par.laneUReason 7) == 1 && s'.par (Par.at_ Par.laneUDowns 7) == 1) = true ∧
    Steady 9 7 (carrying.modLane 7 (fun l => { l with downs := [1, 2] })) = false ∧ goes (exec (.laneFault 9 7 6) (carrying.modLane 7 (fun l => { l with downs := [1, 2] }))) (fun s' => s'.laneState 7 == 5 &&
      s'.par (Par.at_ Par.laneUReason 7) == 0xC) = true := by decide +kernel
theorem wit_far_silence : goes (exec (.farRxSilence 89129 7) carrying) (fun s' => s'.laneState 7 == 4) = true ∧ goes (exec (.farRxSilence 89128 7) carrying) (fun s' => s'.laneState 7 == 3) = true := by decide +kernel
/-- Lane 7 failed at 8; FIRE still uses the lanes `m` of H3. -/
def losing (m : Nat) : State := (laneIn 7 4 (fun l => { l with failedAt := 8 })).modFire 3 (fun f => { f with lanes := m })
theorem wit_loss : (losing 3).laneIsUp 7 = false ∧ goes (exec (.laneLossReport 9 7) (losing 3)) (fun s' => (s'.fireHead 3).lanes == 1 && (s'.fireHead 3).lossAt == some 8 && s'.par (Par.evtCount000 + 49) == 0) = true ∧
    goes (exec (.laneLossReport 9 7) (losing 2)) (fun s' => (s'.fireHead 3).lanes == 0 && (s'.causesAt 3).contains 7 && s'.par (Par.evtCount000 + 49) == 1) = true := by decide +kernel
theorem wit_restore : carrying.laneIsUp 7 = true ∧ goes (exec (.laneRestoreHoldEnd 9 7) (carrying.modLane 7 (fun l => { l with hold := some 9 }))) (fun s' => (s'.fireHead 3).back == 2) = true ∧
    goes (exec (.laneRestoreHoldEnd 8 7) (carrying.modLane 7 (fun l => { l with hold := some 9 }))) (fun s' => (s'.fireHead 3).back == 0) = true := by decide +kernel
theorem wit_far : goes (exec (.loop 9 7 true) carrying) (fun s' => s'.laneState 7 == 6 && (s'.lane 7).far == some 9 && goes (exec (.loop 10 7 false) s') (fun r => r.laneState 7 == 1 && (r.lane 7).far == none) &&
    goes (exec (.farLoopbackExpiry 60000000009 7) s') (fun r => r.laneState 7 == 1) && goes (exec (.farLoopbackExpiry 60000000008 7) s') (fun r => r.laneState 7 == 6)) = true := by decide +kernel
/-- Session 1 owns, and lane 7 is UP. -/
def lined : State := { carrying with own := owned.own }
theorem wit_lane_status : learnRight (lined.role 1) .oper = .all ∧ goes (exec (.laneStatus 9 h1 []) lined) (fun s' => s'.out.any (fun o => match o with
    | .reply 1 r => r.opcode == 0x0C01 && r.status == 0 && (match r.body with | .bytes b => (b.drop 56).take 8 == [3, 0, 2, 0, 0, 0, 0, 0] && b.length == 288 | _ => false) | _ => false)) = true := by decide +kernel
theorem wit_lane_commands : TakenAll h1 lined = true ∧ lined.laneBusy 7 false = none ∧ lined.laneBusy 7 true = none ∧ goes (exec (.laneRetrain 9 h1 [7, 0, 0, 0]) lined) (fun s' => s'.laneState 7 == 1 && (s'.lane 7).retrain.isSome) = true ∧
    lined.laneBusy 33 false = some (0x0502, 0x0C20) ∧ goes (exec (.laneRetrain 9 h1 [33, 0, 0, 0]) lined) (replied h1 0x0C02 0x0502 0x0C20 (.bytes [])) = true ∧
    goes (exec (.laneLoopback 9 h1 ([7, 3, 0, 0] ++ leBytes 4 60000)) lined) (fun s' => s'.laneState 7 == 6 && s'.out.contains (.marker 7 0x78 256) && (s'.lane 7).loop.map LoopRun.stop == some 60000000009 &&
      goes (exec (.loopbackEnd 60000000009 7 () () ()) (s'.modLane 7 (fun l => { l with loop := l.loop.map (fun r => { r with words := 5, wordErrs := 1, bitErrs := 2 }) }))) (fun r => r.laneState 7 == 1 &&
        replied h1 0x0C03 0 0 (.bytes (leBytes 8 5 ++ leBytes 4 1 ++ leBytes 4 2)) r)) = true := by decide +kernel

/-- C1 serves a mono camera of 4 pixels and 16 lines; its trigger 3 falls at line 400, where the web is. -/
def camSet0 : CamSet := ⟨7, [(Par.at_ Par.camUWidth 1, 4), (Par.at_ Par.camUFrameLines 1, 16)]⟩
def shot3 : Stamp := ⟨2, 26148864, 50, 50, 7, false⟩
def viewing : State :=
  let s := { two with pos := { two.pos with p := 26214400, stopped := true, hw := 400 }, now := 100000 }
  s.modCam 1 (fun x => { x with state := 3, k := 3, next := 26214400, start := 16, cur := camSet0, last := some 95999 })
/-- The same with a frame open since trigger 0, whose line of trigger 2 has not come; its window ends at 20,050. -/
def framed : State := { viewing.modCam 1 (fun x => { x with stamps := [shot3], opened := some ⟨9, camSet0, 10, 1, 2, [], 2, 0, 0, false, false, false, false, false, false, [], []⟩ }) with now := 0 }
/-- The same with one frame-buffer pod free. -/
def buffered : State := { framed with spool := { framed.spool with bufs := [(8, 1)] } }
theorem wit_trigger : viewing.camLeads 1 = true ∧ (viewing.at_ 99999).reachedAt 26214400 = true ∧ nextStart 16 (camSet0.height 1) 3 = 16 ∧
    goes (exec (.cameraTrigger 7 1) viewing) (fun s' => (s'.cam 1).k == 4 && (s'.cam 1).next == 26279936 && s'.out == [.camera 1 0 [1, 0, 2000]] && (s'.cam 1).stamps == [⟨3, 26214400, 100000, 100000, 7, false⟩]) = true := by decide +kernel
theorem wit_trigger_set : nextStart 3 (camSet0.height 1) 3 = 3 ∧ goes (exec (.cameraTrigger 7 1) (viewing.modCam 1 (fun x => { x with start := 3, last := none, shadow := some ⟨8, [(Par.at_ Par.camUTrigPitch 1, 32)]⟩ }))) (fun s' =>
    (s'.cam 1).cur.seq == 8 && (s'.cam 1).next == 26214400 + 32768 && (s'.cam 1).start == 1027 && (s'.cam 1).stamps == [⟨3, 26214400, 100000, 100000, 8, true⟩]) = true := by decide +kernel
theorem wit_trigger_skip : goes (exec (.cameraTrigger 7 1) (viewing.modCam 1 (fun x => { x with last := some 96001 }))) (fun s' => (s'.cam 1).k == 4 && (s'.cam 1).stamps == [] &&
    s'.par (Par.at_ Par.camUTrigSkipped 1) == 1 && s'.par (Par.at_ Par.camULinesLost 1) == 1 && s'.par (Par.evtCount000 + 63) == 1) = true := by decide +kernel
theorem wit_trigger_hold : goes (exec (.cameraTrigger 7 1) { viewing with pos := { viewing.pos with hold := true } }) (fun s' => (s'.cam 1).k == 3 && (s'.cam 1).stalled) = true := by decide +kernel
theorem wit_cam_line : camSet0.height 1 = 16 ∧ goes (exec (.cameraLine 20050 1 none [1, 2, 3, 4] false) framed) (fun s' => (s'.cam 1).opened.map CamFrame.lines == some [⟨2, 26148864, [1, 2, 3, 4]⟩] && (s'.cam 1).stamps == []) = true ∧
    goes (exec (.cameraLine 20051 1 none [1, 2, 3, 4] false) framed) (fun s' => s'.par (Par.at_ Par.camULinesLost 1) == 1 && s'.par (Par.at_ Par.camULinesExtra 1) == 1 && (s'.cam 1).opened.map CamFrame.gap == some true) = true := by decide +kernel
theorem wit_cam_extra : (viewing.cam 1).stamps = [] ∧ goes (exec (.cameraLine 7 1 none [1, 2, 3, 4] false) viewing) (fun s' => s'.par (Par.at_ Par.camULinesExtra 1) == 1) = true := by decide +kernel
theorem wit_cam_open : goes (exec (.cameraLine 7 1 (some (4, 0)) [1, 2, 3, 4] false) (buffered.modCam 1 (fun x => { x with opened := none }))) (fun s' => (s'.cam 1).opened.map CamFrame.num == some 0 && (s'.cam 1).opened.map CamFrame.realigned == some true &&
    s'.camPar Par.camUFrames 1 == 1 && s'.par (Par.at_ Par.camURealigns 1) == 1 && (s'.cam 1).start == 18) = true ∧ camSet0.podsNeeded 1 = 1 ∧ runTotal buffered.spool.bufs = 1 ∧ buffered.spool.epochs = [] ∧ CamsOn buffered = true := by decide +kernel
theorem wit_cam_close : goes (exec (.cameraLine 7 1 none [1, 2, 3, 4] true) framed) (fun s' => (s'.cam 1).closing.map CamFrame.short == [true] &&
    goes (exec (.cameraFrameClose 8 1 false [] () ()) s') (fun r => (r.cam 1).closing == [] && (r.cam 1).stats.map FrameStat.chans == [[⟨640 * 65536, 256, 1024, 0, 3⟩]] && (r.cam 1).stats.map FrameStat.flags == [1])) = true ∧
    goes (exec (.camPacketError 7 1) framed) (fun s' => s'.par (Par.at_ Par.camUPacketErr 1) == 1) = true := by decide +kernel

/-- C0 to C1 carry one device whose leader, C0, has a read of 4 bytes in work since 100. -/
def linked : State := ({ viewing with own := owned.own, now := 0 }.setPar (Par.at_ Par.camUAggregate 0) 2).modCam 0 (fun x => { x with state := 3, speed := 6, cmds := [⟨0, false, 16, 4, [], some 100⟩] })
theorem wit_link : linked.camLeader 1 = 0 ∧ goes (exec (.camLinkDown 200 1) linked) (fun s' => (s'.cam 0).state == 1 && (s'.cam 0).cmds == [] && s'.par (Par.evtCount000 + 60) == 1 &&
    goes (exec (.camLinkUp 299 1 5) s') (fun w => (w.cam 0).state == 2 && goes (exec (.camLinkUp 300 0 9) w) (fun r => (r.cam 0).state == 3 && (r.cam 0).speed == 5 && r.par (Par.evtCount000 + 61) == 1 && !r.cond 60 0) &&
      goes (exec (.camLinkDown 300 0) w) (fun r => (r.cam 0).state == 1 && r.par (Par.evtCount000 + 60) == 1))) = true ∧
    goes (exec (.camLinkUp 7 1 9) (viewing.modCam 1 (fun x => { x with state := 1 }))) (fun s' => (s'.cam 1).state == 3 && (s'.cam 1).speed == 6) = true := by decide +kernel
theorem wit_reg_read : viewing.camLeads 1 = true ∧ TakenAll h1 { viewing with own := owned.own } = true ∧
    goes (exec (.camRegRead 200000 h1 ([1, 0, 0, 0] ++ leBytes 4 16 ++ leBytes 2 4 ++ [0, 0])) { viewing with own := owned.own }) (fun s' => s'.out == [.camera 1 1 [0, 16, 4]] &&
      goes (exec (.camControlAck 200001 1 5 false [1, 2, 3, 4]) s') (replied h1 0x0D02 0 0 (.bytes [5, 0, 0, 0, 1, 2, 3, 4])) &&
      goes (exec (.camAckTimeout 40200000 1) s') (replied h1 0x0D02 0x0502 0x0D01 (.bytes [])) && goes (exec (.camAckTimeout 40199999 1) s') (fun r => (r.cam 1).cmds.length == 1)) = true ∧
    goes (exec (.camRegRead 200000 h1 ([3, 0, 0, 0] ++ leBytes 4 16 ++ leBytes 2 4 ++ [0, 0])) { viewing with own := owned.own }) (replied h1 0x0D02 0x0502 0x0D03 (.bytes [])) = true := by decide +kernel
theorem wit_write_ack : goes (exec (.camControlAck 200 0 0 false []) (linked.modCam 0 (fun x => { x with cmds := [⟨0, true, 16, 4, [1, 2, 3, 4], some 100⟩] }))) (fun s' => (s'.cam 0).cmds == []) = true := by decide +kernel
theorem wit_cam_status : learnRight (linked.role 1) .oper = .all ∧ learnRight (linked.role 1) .inspStats = .all ∧ goes (exec (.camStatus 7 h1 []) linked) (fun s' => s'.out.any (fun o => match o with
    | .reply 1 r => r.opcode == 0x0D01 && r.status == 0 && (match r.body with | .bytes b => b.take 2 == [7, 6] && (b.drop 16).take 2 == [11, 6] && b.length == 64 | _ => false) | _ => false)) = true ∧
    goes (exec (.camStatsRead 7 h1 [1, 0, 64, 0, 0, 0, 0, 0]) linked) (replied h1 0x0D03 0 0 (.bytes [0, 0, 0, 0])) = true := by decide +kernel

/-- Engine 2 works on frame 9 of C1, at stage `st`, with `n` more frames in its queue. -/
def imaged (st n : Nat) (reg : Bool) : State := { viewing with insp := { viewing.insp with
  images := [⟨1, 9, 7, [3], 64, [⟨26148864, [[7]]⟩], [8], st, st != 0, reg, 0, 0, [], [], 1⟩]
  views := [⟨0, 0, 0⟩, ⟨0, 0, 1⟩, ⟨0, 0, 0⟩, ⟨0, 0, 0⟩]
  engines := modNth (fun _ => ⟨false, (1, 9) :: (List.range n).map (fun k => (1, 10 + k))⟩) 2 viewing.insp.engines } }
theorem wit_defect_pass : ((imaged 0 0 true).working 2).isSome = true ∧ goes (exec (.defectAnalysis 7 2) (imaged 0 0 true)) (fun s' => (s'.image 1 9).map Image.stage == some 1 && s'.par Par.inspDefects == 0) = true := by decide +kernel
theorem wit_class6 : (imaged 0 0 false).frameNow = [] ∧ classEnable ((imaged 0 0 false).classPar 6) = true ∧ classReject ((imaged 0 0 false).classPar 6) = false ∧ classSize ((imaged 0 0 false).classPar 6) = 1 ∧
    goes (exec (.defectAnalysis 7 2) (imaged 0 0 false)) (fun s' => s'.insp.defects.map Defect.cls == [6] && (s'.engine 2).queue == [] && s'.par Par.inspDefects == 1 && s'.par (Par.evtCount000 + 67) == 1) = true := by decide +kernel
theorem wit_nozzle_pass : goes (exec (.nozzleHealthAnalysis 7 2) (imaged 1 3 true)) (fun s' => (s'.image 1 9).map Image.stage == some 2) = true ∧
    goes (exec (.nozzleHealthAnalysis 7 2) (imaged 1 4 true)) (fun s' => (s'.engine 2).queue.length == 4 && s'.par Par.inspFramesAnalysed == 1) = true := by decide +kernel
/-- The view of C1 spans 16 columns, sees ink of one drop at position 399 and none at 400, and its frame holds both lines. -/
def banded (n : Nat) : State :=
  let v := (((imaged 2 n true).setPar (Par.inspView0Planes + 16) 1).setPar (Par.inspView0Scale + 16) 0x100000).setPar (Par.inspView0Ink + 16) 100
  let v := (v.setPar Par.inspSpread (128 * 256 ^ 7)).setPar Par.inspDropMass (2000 * 65536)
  let v := v.setPar (Par.at_ Par.headUNozPerCol 0) 2
  { v with insp := { v.insp with
    images := v.insp.images.map (fun i => { i with lines := [⟨26148864, [[7]]⟩, ⟨26214400, [[9]]⟩], insp := v.frameNow })
    tap := [⟨0, 3, 0, 3, 399, 1, 77, false, false⟩] } }
theorem wit_align_band : (banded 2).viewPlanes 1 = [(0, 0)] ∧ (((banded 2).working 2).map (banded 2).wholeBands) = some [0] ∧ (((banded 2).working 2).map Image.insp) = some (banded 2).frameNow ∧
    ((banded 2).working 2).map (fun i => (banded 2).edgeLines 0 0 ((banded 2).analysed i)) = some [1] ∧
    goes (exec (.alignmentAnalysis 7 2 ()) (banded 2)) (fun s' => s'.insp.bands.map Band.edges == [1] && s'.insp.bands.map Band.nozzles == [[(0, 3)]] && (s'.engine 2).queue.length == 2) = true := by decide +kernel
theorem wit_align_pass : goes (exec (.alignmentAnalysis 7 2 ()) (banded 3)) (fun s' => s'.insp.bands == [] && (s'.engine 2).queue.length == 3) = true := by decide +kernel
theorem wit_engine_fail : goes (exec (.inspEngineFail 7 2) (imaged 0 0 true)) (fun s' => (s'.engine 2).out && s'.par (Par.evtCount000 + 65) == 1 && (s'.engine 0).queue == [(1, 9)]) = true := by decide +kernel
/-- 899 of 1,000 lines analysed; low since 5. -/
def uncovering : State := { viewing with insp := { viewing.insp with cover := [⟨100000, some 2, 1, 9, 1000, 899, 0, 0⟩], coverLow := some 5 } }
theorem wit_coverage_low : (uncovering.at_ 10000000005).coverage none 60000000000 0 = 899 ∧ goes (exec (.coverageLow 10000000005) uncovering) (fun s' => s'.cond 68 0 && s'.par (Par.evtCount000 + 68) == 1) = true ∧
    goes (exec (.coverageLow 10000000004) uncovering) (fun s' => !s'.cond 68 0 && s'.insp.coverLow == some 5) = true := by decide +kernel
theorem wit_alarm_clear : goes (exec (.defectAlarmClear 10000000005 6) { viewing with insp := { viewing.insp with alarms := List.replicate 6 ⟨true, [], 5⟩ } }) (fun s' => s'.insp.alarms.map Alarm.on == [true, true, true, true, true, false]) = true ∧
    goes (exec (.defectAlarmClear 10000000004 6) { viewing with insp := { viewing.insp with alarms := List.replicate 6 ⟨true, [], 5⟩ } }) (fun s' => s'.insp.alarms.all Alarm.on) = true := by decide +kernel
theorem wit_hold_expiry : goes (exec (.frameBufferHoldExpiry 7 1 9) { imaged 3 0 true with insp := { (imaged 3 0 true).insp with images := (imaged 3 0 true).insp.images.map (fun i => { i with charts := [88] }) } }) (fun s' =>
    s'.insp.images.map Image.charts == [[]]) = true := by decide +kernel

theorem wit_insp_stats : learnRight (two.role 1) .inspStats = .all ∧ learnRight 4 .inspStats = .summary ∧
    goes (exec (.inspStatsRead 7 h1 ([0, 0xFF] ++ leBytes 2 0 ++ leBytes 4 0)) { two with insp := { two.insp with alarms := modNth (fun _ => ⟨true, [], 5⟩) 5 two.insp.alarms } }) (replied h1 0x0E01 0 0 (.bytes (leBytes 4 64))) = true ∧
    goes (exec (.inspStatsRead 7 h1 ([2, 0xFF] ++ leBytes 2 256 ++ leBytes 4 0)) { two with insp := { two.insp with defects := [⟨0, 77, 65536, 6, 1, 0, false, 0, 0, 16, 0⟩] } }) (replied h1 0x0E01 0 0
      (.bytes (leBytes 8 77 ++ leBytes 8 65536 ++ [6, 1, 0, 0] ++ [0, 0, 0, 0] ++ leBytes 4 16 ++ [0, 0, 0, 0]))) = true := by decide +kernel
theorem wit_insp_observer : TakenAll h1 { two with sessions := [sess 1 4] } = true ∧ learnRight (({ two with sessions := [sess 1 4] } : State).role 1) .inspStats = .summary ∧
    goes (exec (.inspStatsRead 7 h1 ([1, 0xFF] ++ leBytes 2 1 ++ leBytes 4 0)) { two with sessions := [sess 1 4] }) (replied h1 0x0E01 0x0304 0 (.bytes [])) = true := by decide +kernel
theorem wit_image : keyed.holdsKey 1 9 = true ∧ keyed.holdsKey 1 8 = false ∧ keyed.noRandom = false ∧ learnRight (keyed.role 1) .images = .key ∧ keyed.insp.viewed = [] ∧ keyed.insp.images = [] ∧ (keyed.shell.keys.find? (fun k => k.job == 9)).isSome = true ∧ keyed.camPar Par.camUWidth 1 = 4096 ∧
    (emptyImage 1 7 256 35).length = 88 + 8960 ∧ goes (exec (.inspImageRequest 7 h1 (leBytes 8 8 ++ [5, 1, 1, 0] ++ leBytes 8 0 ++ leBytes 2 1 ++ leBytes 2 4095 ++ leBytes 2 1 ++ [0, 0])) keyed) (replied h1 0x0E02 0x0307 0 (.bytes [])) = true := by decide +kernel
theorem wit_chart_record : ({ inked with spool := { inked.spool with records := [⟨{ segIn Sg.complete [] with chart := some (2, 0) }⟩] } }).chartRecord 77 = some { segIn Sg.complete [] with chart := some (2, 0) } ∧
    goes (exec (.inspChartMeasure 7 h1 (leBytes 8 77 ++ [15, 0, 0, 0])) { inked with spool := { inked.spool with records := [⟨{ segIn Sg.complete [] with chart := some (2, 0) }⟩] } }) (fun s' =>
      s'.insp.runs.map MeasureRun.chart == [77] && goes (exec (.chartMeasureDone 8 77 ()) s') (fun r => r.insp.runs == [] && r.insp.measures.map Measure.kind == [2] && r.par Par.inspMeasurements == 1)) = true := by decide +kernel
theorem wit_chart_runs : mayChange (inked.role 1) .inspStats = true ∧ goes (exec (.inspChartMeasure 7 h1 (leBytes 8 77 ++ [15, 0, 0, 0])) (holding { segIn Sg.printing [] with chart := some (2, 0) })) (fun s' => s'.insp.runs == []) = true ∧
    goes (exec (.inspChartMeasure 7 h1 (leBytes 8 78 ++ [15, 0, 0, 0])) inked) (replied h1 0x0E04 0x010D 0 (.bytes [])) = true := by decide +kernel
theorem wit_measure_expiry : goes (exec (.measurementExpiry 600000000005 88) { charted with insp := { charted.insp with measures := [⟨88, 1, 8, [], [], 5⟩] } }) (fun s' => s'.insp.measures == []) = true ∧
    goes (exec (.measurementExpiry 600000000004 88) { charted with insp := { charted.insp with measures := [⟨88, 1, 8, [], [], 5⟩] } }) (fun s' => s'.insp.measures.length == 1) = true := by decide +kernel

/-- A member at address 3 of generation 3, all four Causeway lanes UP, which takes time from `src`; West B has latency 40. -/
def ringed (src : Nat) : State :=
  let s := State.each ([32, 33, 34, 35].map (fun u => (Par.at_ Par.laneUState u, 3)) ++ [(Par.causeAddress, 3), (Par.causeGeneration, 3), (Par.causeMembers, 8), (Par.causeTimeSource, src),
    (Par.at_ Par.laneULatency 35, 40)]) (fun e s => s.setPar e.1 e.2) two
  { s with own := owned.own }
/-- TIME of address 2 at West B: ring time and DIST. -/
def timeFrame (tx dist : Nat) : CFrame := sealedAt 35 0 (causeFrame 1 3 2 0x7FF 9 (leBytes 8 tx ++ leBytes 2 dist ++ [0, 0]))
/-- The same member, which has stepped, with the latest TIME of each lane: instant, DIST. -/
def timed2 (src : Nat) (l : List TimeLane) : State := { ringed src with cause := { (ringed src).cause with stepped := true, time := l } }
theorem wit_time_send : eastA ≤ 34 ∧ (ringed 3).laneIsUp 34 = true ∧ goes (exec (.timeSend 7 34) (ringed 3)) (fun s' => s'.out.any (fun o => match o with | .causeway 34 _ => true | _ => false) && s'.cause.ctr == 1 && goes (exec (.timeSend 10006 34) s') (fun r => r.cause.ctr == 1)) = true := by decide +kernel
theorem wit_time_master : RingTaken 7 1 (timeFrame 9000 5) ((ringed 3).setPar Par.causeAddress 0) = true ∧
    goes (exec (.time 7 (timeFrame 9000 5) 6) ((ringed 3).setPar Par.causeAddress 0)) (fun s' => s'.offset == 0 && (s'.timeLane 3).dist == 5) = true := by decide +kernel
theorem wit_time_step : RingTaken 7 1 (timeFrame 9000 5) (ringed 3) = true ∧
    goes (exec (.time 7 (timeFrame 9000 5) 6) (ringed 3)) (fun s' => s'.cause.stepped && s'.offset == 9034 && s'.par Par.causeTimeDist == 6) = true := by decide +kernel
theorem wit_time_slew : goes (exec (.time 20007 (timeFrame 19000 5) 20006) (timed2 3 (ringed 3).cause.time)) (fun s' => s'.offset == -1 && s'.ring == 20006) = true ∧
    goes (exec (.time 19999 (timeFrame 19000 5) 20006) (timed2 3 (ringed 3).cause.time)) (fun s' => s'.offset == 0) = true := by decide +kernel
theorem wit_time_silence : ((timed2 3 [⟨none, 0x7FF, none, 0⟩, ⟨some 60000, 4, none, 0⟩, ⟨none, 0x7FF, none, 0⟩, ⟨some 9, 2, none, 0⟩]).at_ 60001).bestTime = some 1 ∧
    ((timed2 3 [⟨none, 0x7FF, none, 0⟩, ⟨some 60000, 4, none, 0⟩, ⟨none, 0x7FF, none, 0⟩, ⟨some 9, 2, none, 0⟩]).at_ 60001).carriesTime 3 = false ∧
    goes (exec (.timeSourceSilence 60001) (timed2 3 [⟨none, 0x7FF, none, 0⟩, ⟨some 60000, 4, none, 0⟩, ⟨none, 0x7FF, none, 0⟩, ⟨some 9, 2, none, 0⟩])) (fun s' =>
      s'.par Par.causeTimeSource == 1 && s'.par Par.causeTimeDist == 5 && s'.par Par.causeTimeSwitches == 1) = true := by decide +kernel
theorem wit_time_holdover : ((ringed 3).at_ 60001).bestTime = none ∧ goes (exec (.timeSourceSilence 60001) (ringed 3)) (fun s' => s'.par Par.causeTimeSource == 5 && s'.cause.holdover == some 60001 &&
    goes (exec (.holdoverExpiry 1060001) s') (fun r => r.cause.timeLost && r.par Par.causeTimeSource == 6 && r.par (Par.evtCount000 + 70) == 1) &&
    goes (exec (.holdoverExpiry 1060000) s') (fun r => !r.cause.timeLost)) = true := by decide +kernel
theorem wit_time_better : ((timed2 3 [⟨some 60000, 2, some 9, 0⟩, ⟨none, 0x7FF, none, 0⟩, ⟨none, 0x7FF, none, 0⟩, ⟨some 60000, 4, none, 0⟩]).at_ 70000).eligible 0 = true ∧
    goes (exec (.timeSourceBetter 100000009 32) (timed2 3 [⟨some 99999999, 2, some 9, 0⟩, ⟨none, 0x7FF, none, 0⟩, ⟨none, 0x7FF, none, 0⟩, ⟨some 60000, 4, none, 0⟩])) (fun s' =>
      s'.par Par.causeTimeSource == 0 && s'.par Par.causeTimeSwitches == 1) = true ∧
    goes (exec (.timeSourceBetter 100000008 32) (timed2 3 [⟨some 99999999, 2, some 9, 0⟩, ⟨none, 0x7FF, none, 0⟩, ⟨none, 0x7FF, none, 0⟩, ⟨some 60000, 4, none, 0⟩])) (fun s' =>
      s'.par Par.causeTimeSource == 3) = true := by decide +kernel
theorem wit_time_lost_position : ((ringed 5).setPar Par.causePosSource 6).ownPos = false ∧
    goes (exec (.holdoverExpiry 1000009) { (ringed 5).setPar Par.causePosSource 6 with cause := { (ringed 5).cause with holdover := some 9 } }) (fun s' => s'.pos.lost == some 10 && s'.par Par.causePosTimeouts == 1) = true := by decide +kernel

/-- A frame of generation 0 at West A. -/
def enumFrame (ftype src hops : Nat) (p : List Byte) : CFrame :=
  let b := leBytes 1 ftype ++ [1, 0, 0] ++ leBytes 2 src ++ leBytes 2 0x7FF ++ leBytes 2 hops ++ leBytes 2 p.length ++ leBytes 8 9 ++ p
  sealedAt 34 0 b
/-- DISCOVER_REPLY from West A of run 11: identity, hops and BUSY. -/
def enumReply (ident a b old busy : Nat) : CFrame := enumFrame 9 0x7FF 2 (leBytes 4 11 ++ leBytes 16 ident ++ leBytes 2 a ++ leBytes 2 b ++ leBytes 2 old ++ leBytes 1 busy ++ [0])
/-- A run 11 of this member since 5 with its answers, and the time master's address. -/
def collecting (rs : List EnumReply) : State := { (ringed 4).setPar Par.causeAddress 0 with cause := { two.cause with run := some ⟨11, 5, rs, [], false⟩ } }
/-- The same for command 40 of session 1. -/
def collectingFor (rs : List EnumReply) : State := { collecting rs with
  cause := { two.cause with run := some ⟨11, 5, rs, [40], false⟩ }, flights := [⟨40, 5, 1, 1, 101, 5, 0x0F02, [], 0, 0, true, true, none, none, 0, none, 0⟩] }
theorem wit_enum_start : TakenAll h1 (ringed 4) = true ∧ mayChange ((ringed 4).role 1) .causeway = true ∧ (ringed 4).owns 1 = true ∧ (ringed 4).noRandom = false ∧ (ringed 4).cause.run = none ∧
    mayChange (two.role 2) .causeway = false ∧ TakenAll h2' two = true ∧ TakenAll h1 (collecting []) = true ∧ (collecting []).owns 1 = true := by decide +kernel
theorem wit_enum_again : goes (exec (.causeEnumerate 7 h1 []) (collecting [])) (fun s' => s'.cause.run.map EnumRun.cids == some [0]) = true := by decide +kernel
theorem wit_startup_enum : ((ringed 4).setPar Par.causeEnumerator 1).noRandom = false ∧ ([32, 33, 34, 35].all ((ringed 4).setPar Par.causeEnumerator 1).laneIsUp) = true ∧ two.par Par.causeEnumWait = 1000 := by decide +kernel
theorem wit_join : RingTaken 7 0x0B (enumFrame 0x0B 0x7FF 2 (leBytes 16 9)) (collecting []) = true ∧ RingTaken 7 0x0B (enumFrame 0x0B 0x7FF 2 (leBytes 16 9)) (ringed 3) = true ∧
    goes (exec (.join 7 (enumFrame 0x0B 0x7FF 2 (leBytes 16 9))) (collecting [])) (fun s' => s'.cause.join == some 7) = true := by decide +kernel
theorem wit_join_send : two.address = 0x7FF := by decide +kernel
theorem wit_reenumerate : goes (exec (.reenumerate 100000004) { two with cause := { two.cause with join := some 5 } }) (fun s' => s'.cause.join == some 5) = true ∧ two.noRandom = false := by decide +kernel
theorem wit_discover : RingTaken 7 8 (enumFrame 8 0x7FF 2 (leBytes 4 11)) (ringed 3) = true ∧ RingTaken 7 8 (enumFrame 8 0x7FF 2 (leBytes 4 12)) (collecting []) = true ∧
    ((collecting []).at_ 7).checkFrame (enumFrame 8 0 7 (leBytes 4 11)) = .ok ∧
    goes (exec (.discover 7 (enumFrame 8 0 7 (leBytes 4 11)) false) (collecting [])) (fun s' => s'.cause.run.map EnumRun.ringA == some true) = true := by decide +kernel
theorem wit_discover_lower : goes (exec (.discover 7 (enumFrame 8 0x7FF 2 (leBytes 4 12)) true) { collecting [] with params := [] }) (fun s' => s'.cause.run.isNone && s'.par (Par.evtCount000 + 76) == 1) = true := by decide +kernel
theorem wit_discover_reply : RingTaken 7 9 (enumReply 99 2 5 0x7FF 0) (collecting []) = true ∧
    goes (exec (.discoverReply 7 (enumReply 99 2 5 0x7FF 0)) (collecting [⟨99, 2, 0x7FF, 0x7FF, true⟩])) (fun s' => s'.cause.run.map EnumRun.replies == some [⟨99, 2, 5, 0x7FF, false⟩]) = true := by decide +kernel
theorem wit_enum_places : [⟨99, 0, 0x7FF, 0x7FF, false⟩, ⟨98, 0x7FF, 0, 7, false⟩].filterMap (EnumReply.place false 3) = [1, 2] ∧ [⟨99, 1, 0x7FF, 0x7FF, false⟩, ⟨98, 0x7FF, 0, 7, false⟩].filterMap (EnumReply.place false 3) = [2, 2] ∧
    (collecting [⟨99, 0, 0x7FF, 0x7FF, false⟩]).cause.wait = none ∧ goes (exec (.enumCollectEnd 2000004) (collecting [])) (fun s' => s'.cause.run.isSome && s'.cause.wait.isNone) = true := by decide +kernel
theorem wit_enum_fails : goes (exec (.enumCollectEnd 2000005) (collectingFor [⟨99, 0, 0x7FF, 6, true⟩])) (fun s' => s'.cause.run.isNone && replied h1 0x0F02 0x0202 6 (.bytes []) s') = true ∧
    goes (exec (.enumCollectEnd 2000005) (collectingFor [⟨99, 1, 0x7FF, 6, false⟩, ⟨98, 1, 0x7FF, 6, false⟩])) (fun s' => s'.cause.run.isNone && replied h1 0x0F02 0x0502 0x0F00 (.bytes []) s') = true := by decide +kernel
/-- A record for a member of the device root 12345: address 2, 8 members, generation 4, T_INSTALL 500, no chain, slots of digest 0; it seals the key 77 under
the ephemeral key 7 and is signed by the identity key 5. -/
def keyBytes : List Byte := leBytes 2 2 ++ leBytes 2 8 ++ [4, 0, 0, 0] ++ leBytes 8 500 ++ [0, 0] ++ List.replicate 192 0 ++ beBytes 337
  21090441452057335961672380488674386310760075721886950658644114896876785341478253685154130936230841096511902023541840385988441825888287248025293948050624944090317861951944501455501844580281005470632002534561522450609838304129151611892711461284370244555660255218288441581027827048248244876036791959538993490839961761111329222637550461351789627557071952723544291282348895884797973466896120741624213219468360064251492009577943343276504080328296524356023941339611405188564751380855260623204746259364405811424889358276886121638176959691329131638875584904457059058223652747020233735867469897000451994546671229630530972943293039878485327609006704740624619493448036280079028613465298762710779645549196699812360710270527243970163571143218166542151195483943685314374376106268105983346809065904277942054735444989075442135044
/-- The second of the two KEY frames of run 11 that carry it. -/
def keyFrame : CFrame := enumFrame 0x0A 0 2 (leBytes 4 11 ++ [1, 2, 0, 0] ++ pad4 (keyBytes.drop 488))
/-- DISCOVER of run 11 was heard, and the first fragment is held. -/
def heard11 : State := { ringed 3 with cause := { (ringed 3).cause with heard := some (11, 2, 0x7FF), frags := [(0, keyBytes.take 488)] }, shell := { two.shell with drk := 12345 } }
theorem wit_key_whole : KeyTaken 7 keyFrame heard11 = true ∧ KeyWhole keyFrame (keyBytes ++ [0]) heard11 = true := by decide +kernel
theorem wit_key_opens : recordKey (keyBytes ++ [0]) heard11 = some (beBytes 32 77) := by decide +kernel
theorem wit_key_signed : RecordSigned (ecPublic 5) (keyBytes ++ [0]) heard11 = true := by decide +kernel
theorem wit_key : goes (exec (.key 7 keyFrame true (ecPublic 5) ()) heard11) (fun s' => s'.cause.wait == some ⟨2, 8, 4, 500, 77⟩) = true := by decide +kernel
theorem wit_key_refused : lookup (Ev.causeAuthFail, 0) heard11.evt.last = none ∧ goes (exec (.key 7 keyFrame false (ecPublic 5) ()) heard11) (fun s' => s'.cause.wait.isNone && s'.address == 0x7FF && s'.par (Par.evtCount000 + 72) == 1) = true := by decide +kernel
theorem wit_key_other : recordKey (keyBytes ++ [0]) { heard11 with shell := { heard11.shell with drk := 12346 } } = none := by decide +kernel
theorem wit_key_part : KeyTaken 7 keyFrame { heard11 with cause := { heard11.cause with frags := [] } } = true ∧
    goes (exec (.key 7 keyFrame true [] ()) { heard11 with cause := { heard11.cause with frags := [] } }) (fun s' => s'.cause.frags.map Prod.fst == [1] && s'.cause.wait.isNone) = true := by decide +kernel
theorem wit_key_install : goes (exec (.keyInstall 500) { ringed 3 with cause := { two.cause with wait := some ⟨2, 9, 4, 500, 77⟩ } }) (fun s' => s'.address == 2 && s'.par Par.causeMembers == 9 && s'.par Par.causeGeneration == 4 &&
      s'.cause.oldGen == some ⟨3, 0, 1000500⟩ && s'.par (Par.evtCount000 + 74) == 1 && goes (exec (.oldGenerationWindowEnd 1000500) s') (fun r => r.cause.oldGen == none) && goes (exec (.oldGenerationWindowEnd 1000499) s') (fun r => r.cause.oldGen == some ⟨3, 0, 1000500⟩)) = true ∧
    goes (exec (.keyInstall 499) { ringed 3 with cause := { two.cause with wait := some ⟨2, 9, 4, 500, 77⟩ } }) (fun s' => s'.address == 3) = true := by decide +kernel

/-- A frame of generation 3 at West A from a member. -/
def fromMember (src ftype : Nat) (p : List Byte) : CFrame := sealedAt 34 0 (causeFrame ftype 3 src 0x7FF 9 p)
theorem wit_beacon : RingTaken 7 2 (fromMember 6 2 [5, 0, 0, 0]) (ringed 3) = true ∧ onRingA (fromMember 6 2 [5, 0, 0, 0]) = true ∧
    goes (exec (.beacon 7 (fromMember 6 2 [5, 0, 0, 0])) (ringed 3)) (fun s' => (s'.member 6).map Member.heardA == some (some 7) && (s'.member 6).map Member.source == some 5) = true ∧
    RingTaken 7 2 { fromMember 6 2 [5, 0, 0, 0] with lane := 33 } (ringed 3) = true := by decide +kernel
theorem wit_beacon_back : ((ringed 3).at_ 7).checkFrame (fromMember 3 2 [5, 0, 0, 0]) = .ok ∧ goes (exec (.ringOpen 1000000 0) (ringed 3)) (fun s' => s'.cause.openA && s'.par (Par.evtCount000 + 71) == 1 &&
      goes (exec (.beacon 1000007 (fromMember 3 2 [5, 0, 0, 0])) s') (fun r => !r.cause.openA && r.par (Par.evtCount000 + 73) == 1 && !r.cond 71 0)) = true ∧
    goes (exec (.ringOpen 999999 0) (ringed 3)) (fun s' => !s'.cause.openA) = true ∧ goes (exec (.ringOpen 1000000 1) (ringed 3)) (fun s' => s'.cond 71 1) = true := by decide +kernel
theorem wit_beacon_unaddressed : goes (exec (.beacon 7 (fromMember 6 2 [5, 0, 0, 0])) two) (fun s' => s'.cause.beacon) = true := by decide +kernel
theorem wit_beacon_send : (ringed 3).address ≠ 0x7FF := by decide +kernel
/-- Member 6 was heard at 5, and sums of event 50 gathered since 9. -/
def neighbour : State := { (ringed 3).setPar Par.causePosSource 6 with cause := { (ringed 3).cause with
  members := [⟨6, [], some 5, none, 2, 0x7FF, 0, 0, 6, 0xFF, false⟩], posAt := some 100, sums := [⟨50, 10, 0, 4, 20, some 9⟩] } }
theorem wit_member_lost : (neighbour.at_ 1000005).reachable 6 = false ∧ (neighbour.at_ 1000004).reachable 6 = true ∧ goes (exec (.causeMemberLost 1000005 6) neighbour) (fun s' => s'.par (Par.evtCount000 + 75) == 1) = true := by decide +kernel
/-- POSITION of member 6: P_K 1,000 lines, T_K, LINE_RATE 7,000 and FLAGS. -/
def posFrame (tk flags : Nat) : CFrame := fromMember 6 3 (leBytes 8 65536000 ++ leBytes 8 tk ++ leBytes 4 50 ++ leBytes 4 4096 ++ leBytes 8 999 ++ leBytes 4 7000 ++ leBytes 1 flags ++ [0, 0, 0])
theorem wit_position : RingTaken 7 3 (posFrame 101 0) neighbour = true ∧ neighbour.ownPos = false ∧ signed 32 (cfAt (posFrame 101 0) 40 4) = 4096 ∧
    goes (exec (.position 7 (posFrame 101 0)) { neighbour with pos := { neighbour.pos with lost := some 0xA } }) (fun s' => s'.pos.p == 65536000 && s'.pos.hw == 1000 && s'.par Par.posLineRate == 7000 && s'.pos.lost == none) = true ∧
    goes (exec (.position 7 (posFrame 101 1)) neighbour) (fun s' => s'.pos.lost == some 8 && s'.par (Par.evtCount000 + 54) == 1) = true ∧
    goes (exec (.position 7 (posFrame 100 0)) neighbour) (fun s' => s'.pos.p == 0) = true := by decide +kernel
theorem wit_position_send : ((ringed 3).setPar Par.causePosSource 3).address = 3 ∧ goes (exec (.positionSend 7) ((ringed 3).setPar Par.causePosSource 3)) (fun s' => s'.out.any (fun o => match o with | .causeway 35 _ => true | _ => false)) = true ∧ ((ringed 3).setPar Par.causePosSource 3).sendDue 3 9 = true := by decide +kernel
theorem wit_pos_timeout : goes (exec (.posTimeoutExpiry 50000) neighbour) (fun s' => s'.pos.lost == some 10 && s'.par Par.causePosTimeouts == 1 && s'.par (Par.evtCount000 + 70) == 1) = true ∧
    goes (exec (.posTimeoutExpiry 49999) neighbour) (fun s' => s'.pos.lost == none) = true := by decide +kernel
theorem wit_event_summary : RingTaken 7 0x30 (fromMember 6 0x30 ([50, 10, 1, 0] ++ leBytes 2 4 ++ [0, 0] ++ leBytes 8 20)) neighbour = true ∧
    goes (exec (.eventSummary 7 (fromMember 6 0x30 ([50, 10, 1, 0] ++ leBytes 2 4 ++ [0, 0] ++ leBytes 8 20))) neighbour) (fun s' => s'.evt.log.map LogEntry.code == [6] && (s'.member 6).map Member.lastEvent == some 50) = true ∧
    goes (exec (.eventSummarySend 1000000009 50) neighbour) (fun s' => s'.out.any (fun o => match o with | .causeway 35 _ => true | _ => false) && s'.cause.sums.map Summary.count == [0]) = true ∧
    goes (exec (.eventSummarySend 1000000008 50) neighbour) (fun s' => s'.out.length == 0) = true := by decide +kernel
theorem wit_cause_reads : learnRight (two.role 1) .oper = .all ∧ learnRight (two.role 1) .causeway = .all ∧ TakenAll h1 { two with sessions := [sess 1 4] } = true ∧
    goes (exec (.causeMemberList 7 h1 (leBytes 2 1023 ++ leBytes 2 1)) { two with sessions := [sess 1 4] }) (replied h1 0x0F03 0x0304 0 (.bytes [])) = true := by decide +kernel

theorem wit_husk : huskDecode false (modNth (fun v => v ^^^ 77) 17 (List.range 32 ++ huskCheck (List.range 32))) = some [(17, 77)] ∧ huskDecode true (modNth (fun v => v ^^^ 1) 35 (List.range 32 ++ huskCheck (List.range 32))) = some [(35, 1)] ∧
    huskDecode false (List.range 32 ++ huskCheck (List.range 32)) = some [] ∧
    huskDecode true (modNth (fun v => v ^^^ 9) 3 (modNth (fun v => v ^^^ 77) 17 (List.range 32 ++ huskCheck (List.range 32)))) = some [(3, 9), (17, 77)] ∧
    huskDecode false (modNth (fun v => v ^^^ 9) 3 (modNth (fun v => v ^^^ 77) 17 (List.range 32 ++ huskCheck (List.range 32)))) = none := by decide +kernel

/-- A chain that does not verify. -/
def noChain : Chain := ⟨false, 0, 0, 0, false, 0, 0, []⟩
/-- A board record of the two bytes that hold channels and ranks, and density and rate. -/
def boardBytes (a b : Nat) : List Byte := leBytes 4 0x44524241 ++ leBytes 1 1 ++ leBytes 1 a ++ leBytes 1 b ++ [0] ++ leBytes 4 2097152 ++ [0, 0] ++ leBytes 2 820 ++ List.replicate 48 0 ++ leBytes 2 4 ++ [0, 0] ++ List.replicate 100 0
/-- The machine past its power-up, with a spool key. -/
def phase1 : State := { State.reset.setPar Par.powerPhase 1 with shell := { State.reset.shell with spoolKey := 12345 } }
/-- DRAM ready with DA of one rank and 16 Gbit. -/
def ready16 : State := match exec (.dramDiscovery 0 [(boardBytes 5 4, noChain)] [1000, 1000, 1000, 1000] [3, 3, 3, 3] none) phase1 with
  | .next s => s
  | _ => State.reset
/-- The same with its first sub-channel changed. -/
def withSub (f : SubCh → SubCh) : State := ready16.modSub 0 f
/-- The data of a burst. -/
def zeros64 : List Byte := List.replicate 64 0
/-- Burst 6 of zeros at rest, or one whose tag does not hold, with its check fields and one line changed. -/
def burstWith (j e : Nat) (ok : Bool) (use : DramUse) : Burst := ⟨modNth (fun v => v ^^^ e) j (if ok then ready16.sealBurst 6 zeros64 else burstLines zeros64 (List.replicate 8 0)), use⟩
/-- Write `k` of a queue. -/
def queuedWrite (k : Nat) : DramWrite := ⟨2 * k, 1, 0, false, [k]⟩
theorem wit_dram_write : ready16.dramReady = true ∧ ready16.bursts = 268435456 ∧ (ready16.place 6).sub = 0 ∧ ready16.dram.subs.length = 4 ∧ (ready16.place 268435455).sub = 1 := by decide +kernel
theorem wit_dram_write_queued : goes (exec (.dramWriteRequest 7 1 6 zeros64 ()) (withSub (fun x => { x with writes := [queuedWrite 3] }))) (fun s' =>
      (s'.sub 0).writes.map DramWrite.lines == [ready16.sealBurst 6 zeros64]) = true := by decide +kernel
theorem wit_dram_write_stalls : goes (exec (.dramWriteRequest 7 1 200 zeros64 ()) (withSub (fun x => { x with writes := (List.range 64).map queuedWrite }))) (fun s' =>
      (s'.sub 0).writes.length == 64 && (s'.sub 0).strait.length == 1) = true := by decide +kernel
theorem wit_drain : goes (exec (.writeDrain 7 0 1) (withSub (fun x => { x with writes := (List.range 48).map queuedWrite }))) (fun s' => (s'.sub 0).writes.length == 47 && (s'.sub 0).draining && s'.out.length == 1) = true ∧
    goes (exec (.writeDrain 15000 0 9) (withSub (fun x => { x with writes := [queuedWrite 1] }))) (fun s' => (s'.sub 0).writes == [] && !(s'.sub 0).draining && s'.out.length == 1) = true ∧
    goes (exec (.writeDrain 7 0 1) (withSub (fun x => { x with writes := (List.range 47).map queuedWrite }))) (fun s' => (s'.sub 0).writes.length == 47 && !(s'.sub 0).draining) = true ∧
    goes (exec (.writeDrain 7 0 9) (withSub (fun x => { x with draining := true, writes := (List.range 17).map queuedWrite }))) (fun s' => (s'.sub 0).writes.length == 16 && !(s'.sub 0).draining) = true := by decide +kernel
theorem wit_urgent : goes (exec (.requestUrgent 15000 0 1 6) (withSub (fun x => { x with writes := [queuedWrite 3] }))) (fun s' => (s'.sub 0).writes.map DramWrite.urgent == [true]) = true ∧
    goes (exec (.requestUrgent 14999 0 1 6) (withSub (fun x => { x with writes := [queuedWrite 3] }))) (fun s' => (s'.sub 0).writes.map DramWrite.urgent == [false]) = true := by decide +kernel
theorem wit_print_late : goes (exec (.dramPrintLate 2001 0) (withSub (fun x => { x with reads := [⟨6, 0, 0, false, false, false⟩] }))) (fun s' => s'.par (Par.at_ Par.dramULate 0) == 1 && s'.par (Par.evtCount000 + 83) == 1) = true ∧
    goes (exec (.dramPrintLate 2000 0) (withSub (fun x => { x with reads := [⟨6, 0, 0, false, false, false⟩] }))) (fun s' => s'.par (Par.at_ Par.dramULate 0) == 0) = true := by decide +kernel
/-- A print read of burst 6 and an older scrub read of burst 4 wait. -/
def reading : State := withSub (fun x => { x with reads := [⟨4, 5, 0, false, false, false⟩, ⟨6, 0, 5, false, false, false⟩] })
theorem wit_read : (reading.sub 0).nextRead 7 = some ⟨6, 0, 5, false, false, false⟩ ∧ (reading.at_ 7).inWindow 0 = false ∧ reading.dramReady = true ∧ (reading.place 6).sub = 0 ∧
    decodeBurst false (burstWith 40 9 true .nothing).lines = ⟨[], [], none⟩ ∧ decodeBurst false (burstWith 3 9 true .nothing).lines = ⟨[(3, 9)], [], none⟩ ∧ reading.openBurst 6 (fixLines 0 [(3, 9)] (burstWith 3 9 true .nothing).lines) = some zeros64 ∧ DramOn reading = true ∧
    (decodeBurst false ((burstWith 3 9 true .nothing).lines.map (fun v => v ^^^ 77))).bad = some 0 := by decide +kernel
theorem wit_read_forward : goes (exec (.dramReadRequest 7 0 none (some (burstWith 40 0 true .nothing))) { reading with dram := (reading.modSub 0 (fun x => { x with writes := [⟨6, 1, 0, false, ready16.sealBurst 6 zeros64⟩] })).dram }) (fun s' =>
      s'.out == [.dram 0 1 (6 :: 0 :: List.replicate 64 0)] && s'.par (Par.at_ Par.dramUForwarded 0) == 1) = true := by decide +kernel
theorem wit_read_back : goes (exec (.dramReadRequest 7 0 none (some (burstWith 3 9 true .nothing))) reading) (fun s' => s'.out == [.dram 0 1 (6 :: 0 :: List.replicate 64 0)] &&
      s'.par (Par.at_ Par.dramUCorrected1 0) == 1) = true := by decide +kernel
theorem wit_read_tag : reading.openBurst 6 (burstWith 3 0 false .nothing).lines = none ∧
    goes (exec (.dramReadRequest 7 0 none (some (burstWith 3 0 false .nothing))) reading) (fun s' => s'.out == [] && s'.par (Par.at_ Par.dramUTagFail 0) == 1) = true := by decide +kernel
/-- The same beside a segment whose strip of head 3 holds pod 0. -/
def readingFor : State := { reading with spool := { reading.spool with segs := [{ segIn Sg.printing [] with strips := [{ empty 3 with pods := [0] }] }] } }
theorem wit_read_lost : readingFor.useFits 0 (.spool 77 3 0 4) = true ∧
    goes (exec (.dramReadRequest 7 0 none (some ⟨(burstWith 3 9 true .nothing).lines.map (fun v => v ^^^ 77), .spool 77 3 0 4⟩)) readingFor) (fun s' =>
      (s'.seg 77).map Seg.bad == some [(3, 0, 4)] && s'.par (Par.evtCount000 + 88) == 1 && s'.dram.marked == [0]) = true := by decide +kernel

theorem wit_discovery : ready16.par Par.dramCapacity = 17179869184 ∧ ready16.par Par.spoolDramReservable = 17107 ∧ ready16.par Par.dramState = 1 ∧ ready16.subOrder = [0, 1] ∧
    goes (exec (.dramDiscovery 0 [([], noChain), (boardBytes 10 14, noChain)] [] [] none) phase1) (fun s' => s'.par Par.dramCapacity == 137438953472 && s'.par Par.spoolDramReservable == 45619 && s'.subOrder == [0, 2, 1, 3]) = true ∧
    goes (exec (.dramDiscovery 0 [(boardBytes 5 0, noChain)] [] [] none) phase1) (fun s' => s'.par Par.dramState == 3 && s'.par (Par.evtCount000 + 80) == 1) = true ∧
    goes (exec (.dramDiscovery 0 [(boardBytes 5 4, noChain)] [] [] (some (1, 2))) phase1) (fun s' => s'.par (Par.at_ Par.dramUState 1) == 5) = true := by decide +kernel
theorem wit_refresh : (ready16.sub 0).ranks = [⟨false, false, 0, 0⟩] ∧ goes (exec (.refreshDue 3900 0 0 1) ready16) (fun s' => (s'.sub 0).ranks == [⟨false, true, 0, 3900⟩]) = true ∧
    goes (exec (.refreshDue 3899 0 0 1) ready16) (fun s' => (s'.sub 0).ranks == [⟨false, false, 0, 0⟩]) = true ∧ goes (exec (.refreshDue 3900 0 0 2) ready16) (fun s' => s'.cond 84 0 && s'.par (Par.evtCount000 + 84) == 1) = true := by decide +kernel
theorem wit_power_down : goes (exec (.powerDownEntry 1000 0 0) ready16) (fun s' => (s'.sub 0).ranks == [⟨true, false, 0, 0⟩] && s'.subState 0 == 4) = true ∧
    goes (exec (.powerDownEntry 1000 0 0) reading) (fun s' => (s'.sub 0).ranks == [⟨false, false, 0, 0⟩]) = true ∧ (ready16.setPar (Par.at_ Par.dramUPdTimer 0) 0).par (Par.at_ Par.dramUPdTimer 0) = 0 := by decide +kernel
theorem wit_oscillator : 0 ∈ ready16.subOrder ∧ (ready16.sub 0).osc = 1000 ∧ goes (exec (.dqsOscillatorRead 1000000 0 1021 3) ready16) (fun s' => (s'.sub 0).dueAt == some 1000000 && s'.par (Par.at_ Par.dramUDriftHigh 0) == 0) = true ∧
    goes (exec (.dqsOscillatorRead 1000000 0 1020 3) ready16) (fun s' => (s'.sub 0).dueAt == none) = true ∧ goes (exec (.dqsOscillatorRead 1000000 0 1041 3) ready16) (fun s' => s'.par (Par.at_ Par.dramUDriftHigh 0) == 1) = true := by decide +kernel
theorem wit_window : goes (exec (.retrainWindow 16000007 0 1000) (withSub (fun x => { x with dueAt := some 5, windowAt := some 7 }))) (fun s' => (s'.sub 0).windowEnd == 16001007 && s'.subState 0 == 3 && s'.par (Par.at_ Par.dramURetrains 0) == 1) = true ∧
    goes (exec (.retrainWindow 16000006 0 1000) (withSub (fun x => { x with dueAt := some 5, windowAt := some 7 }))) (fun s' => (s'.sub 0).dueAt == some 5) = true := by decide +kernel

theorem wit_scrub : ScrubFree 7 ready16 = true ∧ ready16.scrubDue 0 = true ∧ goes (exec (.scrubRead 7 none) ready16) (fun s' => (s'.sub 0).reads == [⟨0, 5, 7, false, false, false⟩]) = true ∧ goes (exec (.scrubRead 7 (some (burstWith 3 0 true .nothing))) ready16) (fun s' => s'.dram.scrub == 1) = true ∧
    goes (exec (.scrubRead 7 (some (burstWith 3 0 true .nothing))) { ready16 with dram := { ready16.dram with scrub := 268435455 } }) (fun s' => s'.dram.scrub == 0 && s'.par Par.dramScrubPasses == 1 && s'.dram.tPass == 7) = true := by decide +kernel
/-- The scrub stands in the last pod, which is allocated. -/
def scrubbing : State := { ready16 with spool := { ready16.spool with works := [] }, dram := { ready16.dram with scrub := 268435454 } }
theorem wit_scrub_corrects : scrubbing.podUsed 16383 = true ∧ podOf 268435454 = 16383 ∧ ready16.podUsed 0 = false ∧ decodeBurst false (burstWith 3 (9 * 256) true .nothing).lines = ⟨[], [(3, 9)], none⟩ ∧
    goes (exec (.scrubRead 7 (some (burstWith 3 (9 * 256) true .nothing))) scrubbing) (fun s' => s'.dram.backs == [⟨268435454, (burstWith 3 0 true .nothing).lines, 0, false⟩] && s'.par (Par.at_ Par.dramUCorrected1 0) == 1 &&
      goes (exec (.scrubWriteBack 8 268435454) s') (fun r => r.dram.backs == [] && r.out.length == 1)) = true := by decide +kernel
theorem wit_scrub_lost : goes (exec (.scrubRead 7 (some ⟨(burstWith 3 9 true .nothing).lines.map (fun v => v ^^^ 77), .nothing⟩)) scrubbing) (fun s' => s'.spool.retired == [16383] || s'.dram.marked == [16383]) = true ∧
    goes (exec (.scrubRead 7 (some ⟨(burstWith 3 9 true .nothing).lines.map (fun v => v ^^^ 77), .nothing⟩)) ready16) (fun s' => s'.spool.retired == [0]) = true := by decide +kernel
theorem wit_scrub_dropped : goes (exec (.scrubWriteBack 8 6) { ready16 with dram := { ready16.dram with backs := [⟨6, [], 41, false⟩] } }) (fun s' => s'.out == [] && s'.par (Par.at_ Par.dramUScrubDropped 0) == 1) = true := by decide +kernel
theorem wit_dram_reads : goes (exec (.dramErrorRead 7 h1 (leBytes 2 0 ++ leBytes 2 65)) two) (replied h1 0x0602 0x010B 0 (.bytes [])) = true := by decide +kernel

/-- A pack job of command 40 of session 1 with TAG 9, running, and the command in flight. -/
def packing (op limit : Nat) (data : List Byte) : State := { two with
  pack := ⟨false, [⟨40, 1, 9, op, 0, .host, 0, data.length, limit, data, 0, true, none⟩]⟩, flights := [⟨40, 5, 1, 1, 101, 9, 0x1001, [], 0, 0, true, false, none, none, 0, none, 0⟩], nextCid := 41 }
/-- The FINAL reply of command 40. -/
def replied9 (st d : Nat) (body : Body) (s : State) : Bool := replied ⟨1, 9, 0, 0⟩ 0x1001 st d body s
theorem wit_pack_submit : goes (exec (.packCompress 7 h1 ([1, 0, 0, 0] ++ leBytes 4 3 ++ leBytes 4 0 ++ leBytes 2 17 ++ [0, 0] ++ [5, 6, 7, 0])) two) (fun s' => s'.pack.jobs.map PackJob.data == [[5, 6, 7]] && s'.out == [] &&
      goes (exec (.packJobStart 8) s') (fun r => r.pack.jobs.map PackJob.running == [true] && r.pack.jobs.map PackJob.data == [[5, 6, 7]] && goes (exec (.packJobStart 9) r) (fun q => q.pack == r.pack))) = true ∧
    goes (exec (.packDecompress 7 h1 ([2, 1, 0, 0] ++ leBytes 4 3 ++ leBytes 4 0 ++ leBytes 2 17 ++ [0, 0])) two) (replied h1 0x1001 0x0101 9 (.bytes [])) = true ∧
    (pad4 [5, 6, 7] : List Byte) = [5, 6, 7, 0] := by decide +kernel
theorem pack_syms_24 : packSyms (List.replicate 24 1) 0 0 [] = [.lit 1, .pair 23 1] := by
  generalize hs : (List.replicate 24 1 : List Byte) = src
  have : src = [1, 1, 1, 1, 1, 1, 1, 1, 1, 1, 1, 1, 1, 1, 1, 1, 1, 1, 1, 1, 1, 1, 1, 1] := by rw [← hs]; rfl
  subst this
  simp [packSyms, packChain, bestMatch, matchLen]
/-- A block is no longer than its fixed encoding (R397 step 4). -/
theorem pack_block_fixed (last : Bool) (n : Nat) (data : List Byte) (xs : List PackSym) : (packBlock last n data xs).bits.length ≤ (fixedBlock last xs).bits.length := by
  simp only [packBlock]
  split
  · rename_i h; exact h.1
  · split
    · exact Nat.le_refl _
    · rename_i h; omega
theorem wit_pack_ok : (packOut (List.replicate 24 1)).length < 24 ∧ (packing 1 64 (List.replicate 24 1)).pack.jobs.find? PackJob.running = some ⟨40, 1, 9, 1, 0, .host, 0, 24, 64, List.replicate 24 1, 0, true, none⟩ ∧
    (packing 1 64 (List.replicate 24 1)).saveMode = false := by
  refine ⟨?_, by decide +kernel, by decide +kernel⟩
  have h4 : ∀ n : Nat, (leBytes 4 n).length = 4 := fun n => rfl
  have hf : (fixedBlock true [.lit 1, .pair 23 1]).bits.length = 32 := by decide +kernel
  have hb := pack_block_fixed true 0 (List.replicate 24 1) [.lit 1, .pair 23 1]
  simp only [packOut, packBlocks, pack_syms_24, packBlocksFrom, bytesOfBits, List.length_append, h4, List.length_map, List.length_range, List.length_cons, List.length_nil, ceilDiv]
  simp [PackSym.span] at *
  simp only [hf] at hb
  omega
theorem wit_pack_gain : (packing 1 19 [1]).pack.jobs.find? PackJob.running = some ⟨40, 1, 9, 1, 0, .host, 0, 1, 19, [1], 0, true, none⟩ ∧ ([1] : List Byte).length ≤ (packOut [1]).length := by
  refine ⟨by decide +kernel, ?_⟩
  simp only [packOut, List.length_append, List.length_cons]; omega
theorem wit_pack_full : (packing 1 15 (List.replicate 16 1)).pack.jobs.find? PackJob.running = some ⟨40, 1, 9, 1, 0, .host, 0, 16, 15, List.replicate 16 1, 0, true, none⟩ ∧ 15 < (packOut (List.replicate 16 1)).length := by
  refine ⟨by decide +kernel, ?_⟩
  have h4 : ∀ n : Nat, (leBytes 4 n).length = 4 := fun n => rfl
  simp only [packOut, List.length_append, h4, List.length_cons, List.length_nil]; omega
/-- A stored block of three bytes. -/
def storedBlock : List Byte := [1, 3, 0, 252, 255, 5, 6, 7]
theorem wit_unpack : (inflate storedBlock 3 [] none).reason = 0 ∧ (inflate storedBlock 3 [] none).out = [5, 6, 7] ∧
    goes (exec (.packJobComplete 8 true) (packing 2 19 (leBytes 4 0x4B504C41 ++ [1, 0, 0, 0] ++ leBytes 4 3 ++ leBytes 4 (crc32 [5, 6, 7]) ++ storedBlock))) (replied9 0 0 (.bytes (leBytes 4 24 ++ leBytes 4 3 ++ leBytes 8 0 ++ [5, 6, 7, 0]))) = true ∧
    goes (exec (.packJobComplete 8 true) (packing 2 19 (leBytes 4 0x4B504C42 ++ [1, 0, 0, 0] ++ leBytes 4 3 ++ leBytes 4 (crc32 [5, 6, 7]) ++ storedBlock))) (replied9 0x0101 0 (.bytes (leBytes 4 16 ++ leBytes 12 0))) = true := by decide +kernel
theorem wit_pack_husk : goes (exec (.packJobComplete 8 false) (packing 1 19 [1])) (fun s' => s'.par Par.packFailData == 1 && replied9 0x0503 0 (.bytes (leBytes 16 0)) s') = true := by decide +kernel
theorem wit_pack_fault : goes (exec (.packUnitFault 8) (packing 1 19 [1])) (fun s' => s'.pack == ⟨true, []⟩ && s'.par (Par.evtCount000 + 90) == 1 && replied9 0x0502 0x1000 (.bytes (leBytes 16 0)) s') = true := by decide +kernel
theorem wit_pack_abort : TakenBeside [40] 0x1002 8 h1 (packing 1 19 [1]) = true ∧ ((packing 1 19 [1]).flight 40).all (fun f => f.final.isNone && !(packing 1 19 [1]).behind f) = true ∧ goes (exec (.packAbort 8 h1 (leBytes 2 9 ++ [0, 0])) (packing 1 19 [1])) (fun s' => s'.pack.jobs == [] && s'.par Par.packFailFull == 1 && replied9 0x0418 0xFFFFFFFF (.bytes (leBytes 16 0)) s' && replied h1 0x1002 0 0 (.bytes []) s') = true ∧
    goes (exec (.packAbort 8 h1 (leBytes 2 8 ++ [0, 0])) { packing 1 19 [1] with flights := [] }) (replied h1 0x1002 0x010C 0 (.bytes [])) = true := by decide +kernel

theorem wit_subscribe : goes (exec (.evtSubscribe 7 h1 (leBytes 16 (2 ^ 128 - 1) ++ [1, 0, 0, 0])) two) (fun s' => (s'.session 1).map (fun x => (bitAt x.subMask 0, bitAt x.subMask 9, bitAt x.subMask 119, bitAt x.subMask 120, x.subRing)) ==
    some (true, false, true, false, true)) = true := by decide +kernel
/-- EV043 and EV030 latched and held, and EV046 with its condition; the log holds their entries. -/
def latchedThree : State := { (((two.raise 43 3 [1]).raise 30 0 [2]).raise 46 5 [1]) with own := owned.own }
theorem wit_log_read : learnRight (two.role 1) .log = .all ∧ (latchedThree.logFrom 0).length = 3 ∧ (latchedThree.logReply (learnsArgs 1) 1 256).length = 72 ∧
    goes (exec (.evtLogRead 7 h1 (leBytes 4 0 ++ leBytes 2 257 ++ [0, 0])) two) (replied h1 0x1102 0x010B 0 (.bytes [])) = true := by decide +kernel
theorem wit_evt_clear : (latchedThree.at_ 7).raisedNow 43 = false ∧ (latchedThree.at_ 0).raisedNow 43 = true ∧ goes (exec (.evtClear 0 h1 [1, 0, 0, 0, 43, 0, 0, 0]) latchedThree) (fun s' => bitAt s'.evt.latched 43 && replied h1 0x1103 0 0 (.bytes [1, 0, 0, 0, 43, 0, 0, 0]) s') = true ∧ TakenAll h1 latchedThree = true ∧ mayChange (latchedThree.role 1) .log = true ∧ latchedThree.owns 1 = true ∧ (evRow 43).map EvRow.clearing = some .held ∧ (evRow 30).map EvRow.clearing = some .toReset ∧ evRow 127 = none ∧
    goes (exec (.evtClear 7 h1 [1, 0, 0, 0, 43, 0, 0, 0]) latchedThree) (fun s' => !bitAt s'.evt.latched 43 && bitAt s'.evt.latched 46 && replied h1 0x1103 0 0 (.bytes [1, 0, 0, 0, 43, 0, 0, 0]) s') = true ∧
    goes (exec (.evtClear 7 h1 [1, 0, 0, 0, 46, 0, 0, 0]) latchedThree) (replied h1 0x1103 4 1 (.bytes [1, 0, 0, 0, 46, 0, 2, 2])) = true ∧
    goes (exec (.evtClear 7 h1 [1, 0, 0, 0, 127, 0, 0, 0]) latchedThree) (replied h1 0x1103 4 1 (.bytes [1, 0, 0, 0, 127, 0, 1, 1])) = true ∧
    goes (exec (.evtClear 7 h1 [1, 0, 0, 0, 43, 0, 0, 0]) { latchedThree with own := two.own }) (replied h1 0x1103 0x0305 0 (.bytes [])) = true := by decide +kernel
theorem wit_log_export : goes (exec (.evtLogExport 7 h1 (leBytes 4 0 ++ leBytes 4 8192)) two) (fun s' => s'.pack.jobs.map PackJob.count == [8192] && s'.out == []) = true := by decide +kernel
theorem wit_pin_pulse : goes (exec (.eventPinPulseEnd 10005 1) { two with evt := { two.evt with pulses := [(1, 10005)] } }) (fun s' => s'.out == [.pin "EVT_N" 3] && s'.evt.pulses == []) = true ∧
    goes (exec (.eventPinPulseEnd 10005 0) latchedThree) (fun s' => s'.out == [.pin "EVT_N" 0]) = true := by decide +kernel

/-- A message with SEQ 65 in TH6 and in TM6, of a class, in a state; bells 1 and 3 of each side are set. -/
def posted (state : Nat) (request : Bool) : State := { two with mgmt := { two.mgmt with
  th := modNth (fun _ => ⟨state, request, 66, 65, [1, 2, 3, 4], 9, false, false, false⟩) 6 two.mgmt.th, tm := modNth (fun _ => ⟨state, request, 66, 65, [1, 2, 3, 4], 9, false, false, false⟩) 6 two.mgmt.tm
  thBells := 10, tmBells := 10 } }
theorem wit_mail_post : goes (exec (.mgmtMailboxPost 7 h1 ([22, 0, 0, 0] ++ leBytes 2 4 ++ [0, 0] ++ [5, 6, 7, 8])) (two.setPar Par.mgmtClassTm 64)) (fun s' => s'.mailbox true 6 == ⟨1, true, 1, 0, [5, 6, 7, 8], 0, false, false, false⟩) = true ∧
    goes (exec (.mgmtMailboxPost 7 h1 ([22, 0, 0, 0] ++ leBytes 2 4 ++ [0, 0] ++ [5, 6, 7, 8])) (posted 3 true)) (replied h1 0x1201 0 0 (.bytes [1, 0, 0, 0])) = true := by decide +kernel
theorem wit_mail_ack : goes (exec (.mgmtMailboxAcknowledge 7 h1 ([6, 1] ++ leBytes 2 77 ++ [0, 0, 0, 0])) (posted 2 true)) (fun s' => (s'.mailbox false 6).state == 3 && (s'.mailbox false 6).code == 77) = true ∧
    goes (exec (.mgmtMailboxAcknowledge 7 h1 ([6, 1] ++ leBytes 2 77 ++ [0, 0, 0, 0])) (posted 1 false)) (replied h1 0x1201 0 0 (.bytes [3, 0, 0, 0])) = true := by decide +kernel
theorem wit_mail_read : goes (exec (.mgmtMailboxRead 7 h1 [6, 0, 0, 0]) (posted 1 false)) (fun s' => (s'.mailbox false 6).state == 0 && replied h1 0x1202 0 0 (.bytes ([0, 0, 0, 0] ++ [65, 0, 4, 0, 0, 0, 0, 0] ++ [1, 2, 3, 4] ++ List.replicate 60 0)) s') = true ∧
    goes (exec (.mgmtMailboxRead 7 h1 [6, 0, 0, 0]) (posted 2 true)) (fun s' => (s'.mailbox false 6).state == 2 && (s'.mailbox false 6).again) = true ∧
    goes (exec (.mgmtMailboxRead 7 h1 [6, 0, 0, 0]) (posted 3 true)) (replied h1 0x1202 0 0 (.bytes [2, 0, 0, 0])) = true := by decide +kernel
theorem wit_mail_take : goes (exec (.mgmtAcknowledgeTake 7 h1 [22, 1, 0, 0]) (posted 3 true)) (fun s' => (s'.mailbox true 6).state == 0 && replied h1 0x1202 0 0 (.bytes [0, 0, 0, 0, 65, 0, 9, 0, 0, 0, 0, 0]) s') = true := by decide +kernel
theorem wit_doorbell : goes (exec (.mgmtDoorbell 7 h1 (leBytes 4 4 ++ leBytes 4 7)) (posted 0 false)) (fun s' => s'.mgmt.tmBells == 14 && s'.mgmt.thBells == 8 && replied h1 0x1203 0 0 (.bytes [2, 0, 0, 0]) s') = true := by decide +kernel

theorem wit_spi_read : SpiOn two = true ∧ mgmtReadStatus Par.devCommitSeq = St.ok ∧ vlenOf Par.devCommitSeq = some 4 ∧ mgmtReadStatus Par.spoolSegBroken = St.classForbidden ∧ vlenOf Par.spoolSegBroken = some 8 ∧
    goes (exec (.readParam 7 (readBytes 0x01 Par.mgmtAttnMask 1)) two) (fun s' => s'.out == [.spi ([0] ++ [0, 0, 7] ++ crcBytes [0, 0, 7])]) = true := by decide +kernel
theorem wit_spi_write : ((portOwns.at_ 7).spiActive.refusals 17 [⟨Par.mgmtAttnMask, 3⟩]) = [] ∧ goes (exec (.writeParam 7 (writeBytes 0x02 Par.mgmtAttnMask (leBytes 1 3))) portOwns) (fun s' => s'.par Par.mgmtAttnMask == 3 && s'.mgmt.resStatus == 0) = true ∧
    goes (exec (.writeParam 7 (writeBytes 0x02 Par.mgmtAttnMask (leBytes 1 3))) two) (fun s' => s'.par Par.mgmtAttnMask == 7 && s'.mgmt.resStatus == 0x0305 &&
      goes (exec (.result 8 (readBytes 0x05 0 4)) s') (fun r => r.out == [.spi ([0] ++ [0, 0, 5, 3, 0, 0] ++ crcBytes [0, 0, 5, 3, 0, 0])])) = true := by decide +kernel
theorem wit_spi_log : goes (exec (.logRead 7 (readBytes 0x06 0 32)) (two.raise 43 3 [1])) (fun s' => match s'.out with
    | [.spi d] => d.length == 37
    | _ => false) = true := by decide +kernel
theorem wit_spi_mail : goes (exec (.mboxPost 7 (writeBytes 0x10 6 [5, 6, 7, 8])) two) (fun s' => (s'.mailbox false 6).state == 1 && s'.mgmt.resByte == 0) = true ∧
    goes (exec (.mboxPost 7 (writeBytes 0x10 6 [5, 6, 7, 8])) (posted 1 false)) (fun s' => s'.mgmt.resByte == 1) = true ∧ goes (exec (.mboxRead 7 (readBytes 0x11 22 72)) (posted 1 false)) (fun s' => (s'.mailbox true 6).state == 0) = true ∧
    goes (exec (.mboxAck 7 (writeBytes 0x12 22 [77, 0, 0, 0])) (posted 1 true)) (fun s' => (s'.mailbox true 6).code == 77) = true ∧ goes (exec (.mboxAck 7 (writeBytes 0x12 22 [77, 0, 0, 0])) (posted 1 false)) (fun s' => s'.mgmt.resByte == 3) = true ∧
    goes (exec (.ackRead 7 (readBytes 0x13 6 8)) (posted 3 true)) (fun s' => (s'.mailbox false 6).state == 0 && s'.out.length == 1) = true := by decide +kernel
theorem wit_spi_bells : goes (exec (.bellRing 7 (writeBytes 0x20 0 (leBytes 4 4))) (posted 0 false)) (fun s' => s'.mgmt.thBells == 14) = true ∧ goes (exec (.bellTake 7 (readBytes 0x21 0 4)) (posted 0 false)) (fun s' => s'.mgmt.tmBells == 0 &&
      s'.out == [.spi ([9] ++ [0, 0, 10, 0, 0, 0] ++ crcBytes [0, 0, 10, 0, 0, 0])]) = true := by decide +kernel
theorem wit_spi_side_reset : goes (exec (.sideReset 7 (writeBytes 0x30 0 [])) (posted 2 true)) (fun s' => (s'.mailbox false 6).senderReset && (s'.mailbox true 6).preReset && s'.par Par.mgmtSideResets == 1) = true := by decide +kernel
theorem wit_spi_malformed : spiCommand 0x07 = none ∧ goes (exec (.malformedTransaction 7 [7]) two) (fun s' => s'.mgmt.lastErr && s'.par Par.mgmtProtocolErrors == 1 && s'.par (Par.evtCount000 + 100) == 1) = true ∧
    goes (exec (.bellRing 7 [0, 0, 0, 0, 4, 0, 1]) two) (fun s' => s'.mgmt.lastErr) = true := by decide +kernel

/-- A sag sequence in a stage, of a kind, with a save in progress; H3 has power. -/
def sagging (stage kind : Nat) (v : Option Save) : State := { two with
  power := { two.power with sag := stage, sagKind := kind, saving := v }, fire := { two.fire with sag := true }, heads := modNth (fun x => { x with hpen := true }) 3 two.heads }
def save1 : Save := ⟨9, 3, 5, 6, [], [], [], [], true, true, 0⟩
theorem wit_porst : goes (exec (.porstAssert 7 3) (sagging 0 0 none)) (fun s' => s'.power.down && s'.sessions == [] && s'.out.contains (.pin "HPEN3" 0)) = true ∧
    goes (exec (.porstAssert 7 3) (sagging 3 3 (some save1))) (fun s' => s'.power.store.state == 1 && s'.power.store.seq == 9 && goes (exec (.porstRelease 8 true) s') (fun r => r.now == 0 && !r.power.down && r.shell.strap)) = true := by decide +kernel
theorem wit_sysrst : goes (exec (.sysrstAssert 7) (two.setPar (Par.at_ Par.laneUState 7) 3)) (fun s' => s'.power.sagKind == 2 && s'.out.contains (.marker 7 0x55 1) && goes (exec (.sysrstAssert 8) s') (fun r => r.power == s'.power)) = true ∧
    (two.setPar (Par.at_ Par.laneUState 7) 3).lanesUp 3 = [7] := by decide +kernel
theorem wit_sag : goes (exec (.sagRecognised 7 10400) (two.setPar (Par.at_ Par.laneUState 7) 3)) (fun s' => s'.power.sagKind == 3 && s'.par (Par.evtCount000 + 110) == 1 && (s'.rej 0).sag && s'.out.contains (.marker 7 0x55 1) && s'.par Par.powerHoldMv == 10400) = true ∧
    goes (exec (.sagGlitch 7 10400) two) (fun s' => s'.par Par.powerSagGlitches == 1 && s'.power.sag == 0) = true := by decide +kernel
theorem wit_sag_gate : goes (exec (.sagGateDone 7) (sagging 1 3 none)) (fun s' => s'.power.sag == 2 && !(s'.head 3).hpen) = true ∧ goes (exec (.sagGateDone 7) (sagging 2 3 none)) (fun s' => (s'.head 3).hpen) = true := by decide +kernel
theorem wit_save_mode : goes (exec (.saveModeEntry 7) { sagging 2 3 none with sessions := [sess 1 1] }) (fun s' => s'.sessions == [] && s'.par (Par.evtCount000 + 12) == 1 && s'.power.saving.map Save.kind == some 3 && s'.power.saving.map Save.header == some false) = true ∧
    goes (exec (.saveModeEntry 7) { (sagging 2 3 none).setPar Par.powerPhase 5 with sessions := [] }) (fun s' => s'.power.saving.map Save.header == some true) = true := by decide +kernel
theorem wit_save_complete : goes (exec (.saveComplete 7) (sagging 3 3 (some save1))) (fun s' => s'.power.down && s'.power.store.state == 2 && s'.par Par.powerResetKind == 3 && s'.par Par.powerSaveSeq == 9 && goes (exec (.holdRestart 8 11500) s') (fun r => !r.power.down && r.par Par.powerHoldMv == 11500)) = true ∧
    goes (exec (.saveComplete 7) (sagging 3 2 (some save1))) (fun s' => !s'.power.down && s'.now == 0) = true := by decide +kernel
theorem wit_rails : goes (exec (.railFault 7 4) two) (fun s' => s'.cond 109 0 && s'.par (Par.evtCount000 + 109) == 1 && goes (exec (.railsGood 8) s') (fun r => !r.cond 109 0 && r.power.railBad == [])) = true := by decide +kernel
theorem wit_store_retry : goes (exec (.saveStoreRetry 7 false) { two with power := { two.power with ringDue := [⟨77, 4, 0⟩] } }) (fun s' => s'.cond 107 0 && s'.power.retryAt == some 10000007 &&
    goes (exec (.saveStoreRetry 10000007 true) s') (fun r => !r.cond 107 0 && r.power.store.ring == [⟨77, 4, 0⟩])) = true := by decide +kernel

/-- An accepted segment, an earlier entry of it, and one that completed. -/
def ring3 : List RingEnt := [⟨77, 4, 0⟩, ⟨78, 4, 0⟩, ⟨78, 7, 0⟩]
/-- A device in a phase, with that handle ring and a save in a state. -/
def starting (phase state kind : Nat) : State := { (two.setPar Par.powerPhase phase).setPar Par.powerResetKind kind with
  sessions := [], power := { two.power with store := ⟨⟨0, 0, 0, 0, 0⟩, false, 9, state, ring3, 500, 0, none, 0, some { save1 with log := [⟨5, 40, 43, false, 8, 3, 3, false, false, false, false, false, []⟩], sections := 6 }⟩ } }
def image5 : ImageEv := ⟨true, true, 5, 77, 900⟩
theorem wit_rom_done : goes (exec (.shellRomDone 7 (selectBytes 3 1) [] 55 [1, 2, 3, 4] []) { starting 0 0 1 with shell := { two.shell with strap := true } }) (fun s' => s'.par Par.powerPhase == 1 && s'.par Par.devSerial == 55 && s'.par Par.shellCommissionState == 1 &&
    s'.power.select == [some (3, 1), none] && s'.namedBank == 1 && s'.par (Par.at_ Par.fresyUMac 3) == 4) = true := by decide +kernel
/-- Both select records name bank 0. -/
def selected : State := { starting 1 0 1 with power := { (starting 1 0 1).power with select := [some (3, 0), some (2, 1)] } }
theorem wit_boot_image : selected.namedBank = 0 ∧ selected.acceptable image5 = true ∧ goes (exec (.imageVerified 7 (some image5) none) selected) (fun s' => s'.par Par.powerRunningSvn == 5 && s'.par Par.shellUtcFloor == 900) = true ∧
    goes (exec (.imageVerified 7 none none) selected) (fun s' => s'.par Par.powerPhase == 6 && s'.shell.recoveryFw) = true := by decide +kernel
theorem wit_boot_fallback : selected.acceptable { image5 with krovpor := false } = false ∧ (selected.boot 1 image5).par Par.powerRunningBank = 1 := by decide +kernel
theorem wit_engines : goes (exec (.enginesLoaded 7) { starting 2 0 1 with power := { (starting 2 0 1).power with restored := true } }) (fun s' => s'.par Par.powerPhase == 3 && s'.par (Par.evtCount000 + 108) == 1) = true := by decide +kernel
theorem wit_ring : latestEntries ring3 = [⟨77, 4, 0⟩, ⟨78, 7, 0⟩] ∧ (starting 1 0 1).evt.log = [] ∧ LatestOk [true, false] (starting 1 0 1) = true ∧ (starting 1 2 3).power.store.save.map Save.seq = some 9 := by decide +kernel
theorem wit_phase_ready : (starting 3 0 1).r440 = false ∧ goes (exec (.phaseReady 7) (starting 3 0 1)) (fun s' => s'.par Par.powerPhase == 4) = true ∧
    goes (exec (.phaseReady 7) { (State.each (List.range 32) (fun u s => s.setPar (Par.at_ Par.laneUState u) 4) (starting 4 0 1)).setPar Par.dramState 1 with power := { two.power with restored := true } }) (fun s' =>
      s'.par Par.powerPhase == 5 && s'.par Par.devState == 1 && s'.par (Par.evtCount000 + 0) == 1) = true := by decide +kernel
/-- A report of one segment. -/
def reported : State := { two with power := { two.power with report := some ⟨3, 1, 9, 5, 6, List.replicate 9 7, [⟨77, 4, true, false, false, 0, List.replicate 16 0⟩]⟩ } }
theorem wit_report : learnRight (two.role 1) .spool = .all ∧ (Report.toBytes ⟨3, 1, 9, 5, 6, List.replicate 9 7, [⟨77, 4, true, false, false, 0, List.replicate 16 0⟩]⟩ true).length = 208 ∧
    goes (exec (.powerRestartReport 7 h1 (leBytes 4 208)) reported) (replied h1 0x1304 0 0 (.bytes (leBytes 4 208 ++ leBytes 4 208))) = true ∧
    goes (exec (.powerRestartReport 7 h1 (leBytes 4 0)) { reported with sessions := [sess 1 4] }) (replied h1 0x1304 0x0304 0 (.bytes [])) = true := by decide +kernel

/-- Session 1 owns, and the idle bank holds the first 4 bytes of an image of some length. -/
def staging (total : Nat) : State := { owned with power := { owned.power with banks := [⟨none, 0, 0, []⟩, ⟨none, total, 4, [1, 2, 3, 4]⟩] } }
def stageBody (off : Nat) : List Byte := leBytes 4 off ++ leBytes 2 4 ++ [0, 0] ++ [5, 6, 7, 8]
theorem wit_fw_stage : mayChange (owned.role 1) .firmware = true ∧ (staging 12).idleBank = 1 ∧ goes (exec (.powerFwStage 7 h1 (stageBody 4) 0 none) (staging 12)) (fun s' => s'.par Par.powerStaged == 1 && s'.power.banks.map Bank.held == [0, 8]) = true ∧
    goes (exec (.powerFwStage 7 h1 (stageBody 4) 0 (some image5)) (staging 8)) (fun s' => s'.par Par.powerStaged == 2 && s'.power.banks.map Bank.image == [none, some image5]) = true := by decide +kernel
theorem wit_fw_refused : (staging 8).acceptable { image5 with integrator := false } = false ∧ (staging 8).shell.tampered = false := by decide +kernel
theorem wit_fw_erase : (match exec (.powerFwStage 7 h1 (stageBody 0) 12 none) (staging 12) with
    | .next s => goes (exec (.fwBankErased 8) s) (fun r => r.power.banks.map Bank.data == [[], [5, 6, 7, 8]] && r.par Par.powerStaged == 1 && r.power.erase == [])
    | _ => false) = true := by decide +kernel
/-- A verified image waits in bank 1. -/
def verified : State := { (staging 8).setPar Par.powerStaged 2 with power := { (staging 8).power with banks := [⟨none, 0, 0, []⟩, ⟨some image5, 8, 8, []⟩], select := [some (3, 0), none] } }
/-- A switch to bank 1 by command 40 waits since 5, or is under way. -/
def switching (w : Option (Nat × Nat × Nat)) (g : Option (Nat × Nat)) : State := { verified with
  power := { verified.power with switch := w, switching := g }
  flights := [⟨40, 5, 1, 1, 101, 9, 0x1303, [], 0, 0, true, true, none, none, 0, none, 0⟩] }
theorem wit_fw_switch : goes (exec (.powerFwSwitch 7 h1 [1, 0, 0, 0]) verified) (fun s' => s'.power.switch.map (fun w => w.2) == some (1, 7)) = true ∧
    goes (exec (.powerFwSwitch 7 h1 [0, 0, 0, 0]) verified) (replied h1 0x1303 0x0202 0 (.bytes [])) = true := by decide +kernel
theorem wit_fw_gap : goes (exec (.firmwareGap 7) (switching (some (40, 1, 5)) none)) (fun s' => s'.power.switching == some (40, 1)) = true ∧
    goes (exec (.fwGapWaitExpiry 10000000005) (switching (some (40, 1, 5)) none)) (fun s' => s'.power.switch == none && replied ⟨1, 9, 0, 0⟩ 0x1303 0x0202 0 (.bytes []) s') = true ∧
    goes (exec (.fwGapWaitExpiry 10000000004) (switching (some (40, 1, 5)) none)) (fun s' => s'.power.switch == some (40, 1, 5)) = true := by decide +kernel
theorem wit_fw_done : goes (exec (.fwSwitchComplete 7 true) (switching none (some (40, 1)))) (fun s' => s'.par Par.powerRunningBank == 1 && s'.power.select == [some (3, 0), some (4, 1)] && s'.par (Par.evtCount000 + 8) == 1 && replied ⟨1, 9, 0, 0⟩ 0x1303 0 0 (.bytes []) s') = true := by decide +kernel
theorem wit_fw_reverts : (switching none (some (40, 1))).bankImage 1 = some image5 ∧ (switching none (some (40, 1))).flights.all (fun f => f.wait.isNone) = true := by decide +kernel

theorem wit_save_kept : (starting 1 1 1).power.store.state = 1 ∧ (starting 1 1 1).power.restored = false ∧ (starting 1 1 1).par Par.powerPhase = 1 ∧ (sagging 3 2 (some save1)).power.saving = some save1 ∧
    goes (exec (.porstAssert 7 9) (sagging 3 2 (some save1))) (fun s' => s'.power.store.state == 1 && s'.power.store.save.map Save.sections == some 5) = true ∧
    goes (exec (.porstAssert 7 0) (sagging 3 2 (some save1))) (fun s' => s'.power.store == two.power.store && s'.par Par.powerResetKind == 1) = true ∧
    goes (exec (.sagRecognised 7 9000) (sagging 3 2 (some save1))) (fun s' => s'.power.sagKind == 2 && s'.out == [] && goes (exec (.saveComplete 9) s') (fun r => r.power.store.state == 2 && r.par Par.powerResetKind == 2)) = true := by decide +kernel

theorem wit_lockstep : goes (exec (.lockstepMismatch 7 1 ()) two) (fun s' => s'.dev.pol.restart == some 7 && s'.dev.cmd.restart == none && s'.par (Par.evtCount000 + 1) == 1 && goes (exec (.coreRestartComplete 8 1) s') (fun r => r.dev.pol.restart == none && r.dev.pol.fails == [])) = true ∧
    goes (exec (.lockstepMismatch 7 0 ()) { two with dev := { two.dev with cmd := ⟨some 5, [1]⟩ } }) (fun s' => s'.dev.cmd == ⟨some 7, [7, 1]⟩ && s'.cmdHeld) = true := by decide +kernel
/-- Command 40 of session 1 with that wait and flags, started or not, in a restart of the command pair. -/
def waiting (r : Option Nat) (w : Option Instr) (flags : Nat) : State := { two with
  dev := { two.dev with cmd := ⟨r, []⟩ }, flights := [⟨40, 5, 1, 1, 101, 9, 0x1301, [], flags, 0, false, false, w, none, 0, none, 0⟩] }
theorem wit_cut : goes (exec (.lockstepMismatch 7 0 ()) (waiting none none 0)) (fun s' => s'.flights.map (fun f => f.final.map Reply.status) == [some 0x0501] && s'.out.all (fun o => match o with
      | .reply .. => false
      | _ => true) &&
    goes (exec (.coreRestartComplete 8 0) s') (fun q => q.flights == [] && replied ⟨1, 9, 0, 0⟩ 0x1301 0x0501 0 (.bytes []) q)) = true := by decide +kernel
theorem wit_restart_timeout : goes (exec (.coreRestartTimeout 50000005 1) { (two.setPar (Par.at_ Par.laneUState 7) 3) with dev := { two.dev with pol := ⟨some 5, [2, 1]⟩ } }) (fun s' => s'.power.sag == 1 && s'.power.sagKind == 4 && s'.out.contains (.marker 7 0x55 1)) = true ∧
    goes (exec (.coreRestartTimeout 50000005 1) { two with dev := { two.dev with pol := ⟨some 5, [2]⟩ } }) (fun s' => s'.power.sag == 0 && s'.dev.pol.fails.length == 2) = true ∧
    goes (exec (.coreRestartTimeout 50000004 1) { two with dev := { two.dev with pol := ⟨some 5, [2]⟩ } }) (fun s' => s'.dev.pol.fails.length == 1) = true := by decide +kernel
theorem wit_restart_complete : goes (exec (.powerStatus 6 h1 []) { two with dev := { two.dev with cmd := ⟨some 5, []⟩ } }) (fun s' => s'.parked == [.row 1 (.powerStatus 6 h1 [])] && s'.out == [] && Quiet 7 s' &&
      TakenBeside [] 0x1301 7 h1 { s' with dev := { s'.dev with cmd := { s'.dev.cmd with restart := none } } } &&
      goes (exec (.coreRestartComplete 7 0) s') (fun r => r.dev.cmd.restart == none && r.parked == [] && r.flights == [] && r.out.any (fun o => match o with
        | .reply 1 q => q.tag == h1.tag && q.status == 0
        | _ => false))) = true ∧
    goes (exec (.coreRestartComplete 7 0) (waiting (some 5) none 0)) (fun s' => s'.flights.map Flight.extra == [50000000]) = true ∧ learnRight 1 .oper = .all := by decide +kernel
theorem wit_fence : goes (exec (.fencedCommandStart 7 40) (waiting none (some (.powerStatus 0 h1 [])) 1)) (fun s' => s'.flights == [] && s'.out.any (fun o => match o with
      | .reply 1 _ => true
      | _ => false)) = true ∧
    goes (exec (.fencedCommandStart 7 40) { waiting none (some (.powerStatus 0 h1 [])) 1 with flights := (waiting none (some (.powerStatus 0 h1 [])) 1).flights ++ [⟨39, 5, 1, 1, 101, 8, 0x1301, [], 0, 0, true, true, none, none, 0, none, 0⟩] }) (fun s' => s'.flights.length == 2 && s'.out == []) = true := by decide +kernel

/-- Floor counts of 200 for every ring, and a counts operand: SHELL's rings count as given, every other ring 220. -/
def paced : State := { two with cal := { two.cal with trims := modNth (fun x => { x with fused := true, values := List.replicate 31 200 }) 8 two.cal.trims } }
def shellCounts (a b : Nat) : List (List Nat) := (List.range 21).map (fun n => if n = 4 then [a, b] else [220, 220])
theorem wit_pace : paced.ringReading (shellCounts 240 190) 5 0 = 1200 ∧ paced.ringInUse 5 0 = true ∧ paced.ringInUse 5 1 = true ∧ printPath 5 = true ∧
    goes (exec (.paceWindow 7 (shellCounts 240 200)) paced) (fun s' => s'.par (Par.calPace01 + 4) == 1000 && s'.par (Par.calPaceMin01 + 4) == 1000 && s'.dev.paceLow == []) = true ∧
    goes (exec (.paceWindow 7 (shellCounts 280 200)) { paced with dev := { paced.dev with paceApart := [(5, 9)] } }) (fun s' => s'.par (Par.calPace01 + 4) == 1400 && s'.ringInUse 5 0 && !s'.ringInUse 5 1) = true ∧
    goes (exec (.paceWindow 7 (shellCounts 280 200)) paced) (fun s' => s'.dev.paceApart == [(5, 1)] && s'.ringInUse 5 1) = true := by decide +kernel
/-- Ring 1 of SHELL is out of use, and VDD_CORE may be tuned. -/
def slow (low good : List (Nat × Nat)) (rings : Nat) : State := { paced.setPar Par.calPaceRings (paced.par Par.calPaceRings - rings) with dev := { paced.dev with paceLow := low, paceGood := good } }
theorem wit_pace_low : (slow [] [] 512).ringInUse 5 1 = false ∧ goes (exec (.paceWindow 7 (shellCounts 199 0)) (slow [(5, 1)] [] 512)) (fun s' => s'.par (Par.calPace01 + 4) == 995 && s'.fire.outside && s'.cond 2 5 && s'.par Par.powerVddCoreSet == 760) = true ∧
    goes (exec (.paceWindow 7 (shellCounts 200 0)) (slow [] [(5, 1)] 512)) (fun s' => !s'.cond 2 5 && s'.dev.paceGood == []) = true ∧
    goes (exec (.paceWindow 7 (shellCounts 0 0)) (slow [] [] 768)) (fun s' => s'.par (Par.calPace01 + 4) == 65535) = true ∧ two.mayTune = true := by decide +kernel
theorem wit_vdd : goes (exec (.vddCoreLower 100000000) two) (fun s' => s'.par Par.powerVddCoreSet == 745 && s'.out == [two.vout 745]) = true ∧ goes (exec (.vddCoreLower 99999999) two) (fun s' => s'.out == []) = true ∧
    goes (exec (.vddCoreRaise 1000000) (two.setPar Par.calPace01 1000)) (fun s' => s'.par Par.powerVddCoreSet == 755 && (two.setPar Par.calPace01 1000).wantsPace) = true ∧ goes (exec (.vddCoreRaise 1000000) (two.setPar Par.powerVddCoreSet 850)) (fun s' => s'.out == []) = true := by decide +kernel
theorem wit_vout : goes (exec (.readVoutCheck 1000005 true false 761) { two with power := { two.power with vddAt := some 5 } }) (fun s' => s'.cond 104 0 && s'.par Par.powerVddCore == 761 && !s'.mayTune &&
      goes (exec (.readVoutCheck 3000005 true false 760) s') (fun r => !r.cond 104 0)) = true := by decide +kernel
/-- Head 3 holds a line of the printing segment that has not started. -/
def unstarted : State := ((firing none).modFire 3 (fun f => { f with sent := [⟨9, [(77, 1, 2)], 3000000, 1000000, 0, none, false⟩] }))
theorem wit_island : (unstarted.seg 77).isSome = true ∧ goes (exec (.islandReset 7 0x0C 1 3 [(3, 9)]) unstarted) (fun s' => (s'.fireHead 3).sent == [] && (s'.seg 77).map (fun g => Ranged g 3 1 5 0) == some true && s'.dev.resync == [(12, 1, 3)] &&
      goes (exec (.straitResync 8 0x0C 1) s') (fun r => r.par Par.devStraitDiscards == 3 && r.par Par.devStraitResyncs == 1 && r.dev.resync == [])) = true := by decide +kernel

/-- Element 3 is fused with one trim of 0, 100 and 228, an offset of 5 and an output of 9; element 2 is fused too, and element 1 is on its default. -/
def fusedCal : State := { owned with cal := { owned.cal with trims := [⟨true, false, 1, [7], 0, [7], [7], 0, false, false⟩, noTrim, ⟨true, true, 1, [1, 2, 3], 0, [2], [2], 0, false, false⟩,
  ⟨true, true, 1, [0, 100, 228], 5, [9], [9], 0, false, false⟩, ⟨true, true, 1, [0, 10, 20], 0, [9], [9], 0, false, false⟩, noTrim, noTrim, noTrim, noTrim] } }
def jTrim (s : State) : List Int × List Int := ((s.trim 3).next, (s.trim 4).out)
theorem wit_tj : goes (exec (.tjSample 7 (-640) (-660) (-600)) fusedCal) (fun s' => jTrim s' == ([5], [9]) && s'.par Par.calTj == 64896 && s'.par Par.calTjValid == 7) = true ∧
    goes (exec (.tjSample 7 1680 1670 1700) fusedCal) (fun s' => jTrim s' == ([233], [9])) = true ∧
    goes (exec (.tjSample 7 400 390 410) fusedCal) (fun s' => jTrim s' == ([105], [9]) && (s'.trim 3).out == [105] && (s'.trim 4).next == [10]) = true ∧
    goes (exec (.tjSample 7 1040 1040 1041) fusedCal) (fun s' => jTrim s' == ([169], [9])) = true ∧ fusedCal.cal.trims.length = 9 := by decide +kernel
theorem wit_tj_two : goes (exec (.tjSample 7 390 410 2401) fusedCal) (fun s' => s'.par Par.calTj == 410 && s'.par Par.calTjValid == 3) = true ∧
    goes (exec (.tjSample 7 2350 2401 2500) fusedCal) (fun s' => s'.par Par.calTj == 2350 && s'.par Par.calTjValid == 1) = true ∧
    goes (exec (.tjSample 7 390 800 1200) fusedCal) (fun s' => s'.par Par.calTjValid == 0 && (s'.trim 3).stale && (s'.trim 3).out == [9]) = true := by decide +kernel
theorem wit_tj_hot : goes (exec (.tjSample 7 1681 1681 1681) fusedCal) (fun s' => s'.dev.hot && s'.fire.outside && s'.par (Par.evtCount000 + 3) == 1 &&
      goes (exec (.tjSample 8 1600 1600 1600) s') (fun r => r.dev.hot && r.cond 3 0 && goes (exec (.tjSample 9 1599 1599 1599) r) (fun q => !q.dev.hot && !q.cond 3 0 && !q.fire.outside))) = true := by decide +kernel
theorem wit_cal_stale : goes (exec (.calStale 10000000 3) fusedCal) (fun s' => (s'.trim 3).stale && s'.cond 116 3 && s'.par Par.calStaleEvents == 1) = true ∧
    goes (exec (.calStale 9999999 3) fusedCal) (fun s' => !(s'.trim 3).stale) = true := by decide +kernel

theorem wit_cal_verify : fusedCal.owns 1 = true ∧ goes (exec (.calVerify 7 h1 (leBytes 4 0x108A) [none, some (201, 0, 0), none, some (-40, -5, 0)]) fusedCal) (fun s' => s'.cal == fusedCal.cal && s'.par (Par.evtCount000 + 117) == 1 &&
    replied h1 0x1402 0 0 (.bytes [201, 0, 1, 0, 0xD8, 0xFF, 0, 0, 0, 0, 2, 0, 0, 0, 2, 0]) s') = true := by decide +kernel
theorem wit_cal_run : goes (exec (.calRun 7 h1 (leBytes 4 0x71) [(0, 0, 0), (0, 0, 0), (0, 0, 0), (0, 0, 0), (20, 0, 6), (21, 0, 6), (80, 0, -3)]) fusedCal) (fun s' => replied h1 0x1401 0 0 (.bytes [1, 0, 2, 0]) s' &&
      (s'.trim 4).offset == -6 && (s'.trim 4).out == [9] && (s'.trim 6).offset == 3 && (s'.trim 5).offset == 0 && (s'.trim 4).trimmed && s'.par (Par.evtCount000 + 117) == 1) = true ∧
    (maskUnits 16 0x71 = [0, 4, 5, 6]) ∧ mayChange (fusedCal.role 1) .oper = true := by decide +kernel
/-- A segment prints. -/
def busyCal : State := { fusedCal with spool := { fusedCal.spool with segs := [segIn Sg.printing [empty 0, empty 3]] } }
theorem wit_cal_busy : busyCal.runningState = some Sg.printing ∧ goes (exec (.calRun 7 h1 (leBytes 4 0x20) []) busyCal) (replied h1 0x1401 0x0202 Sg.printing (.bytes [])) = true ∧
    goes (exec (.calRun 7 h1 (leBytes 4 0x80) []) busyCal) (replied h1 0x1401 0 0 (.bytes [0, 0, 0, 0])) = true ∧
    goes (exec (.calHoldupTest 7 h1 [] 12000) busyCal) (replied h1 0x1403 0x0202 Sg.printing (.bytes [])) = true := by decide +kernel
/-- The rail at 12 V before the load, and falling by some mV a sample behind a step. -/
def railBefore : List Nat := List.replicate 4 12000
def railAfter (step fall n : Nat) : List Nat := (List.range n).map (fun i => 12000 - step - fall * i)
theorem wit_holdup_values : holdupC 1000 railBefore (railAfter 80 1 90) = some 100 ∧ holdupR 1000 railBefore (railAfter 80 1 90) = some 100 := by decide +kernel
theorem wit_holdup : goes (exec (.calHoldupTest 7 h1 [] 11499) fusedCal) (replied h1 0x1403 0x0202 0 (.bytes [])) = true ∧
    goes (exec (.calHoldupTest 7 h1 [] 11500) (fusedCal.setPar Par.calHoldupLoad 1000)) (fun s' => s'.out.contains (.pin "HOLD_TST" 1) && goes (exec (.holdupTestDone 9 railBefore (railAfter 80 1 90) () ()) s') (fun r =>
      r.par Par.calHoldupUf == 100 && r.par Par.calHoldupMohm == 100 && r.par (Par.evtCount000 + 106) == 1 && r.out.contains (.pin "HOLD_TST" 0) && replied h1 0x1403 0 0 (.bytes (leBytes 2 100 ++ leBytes 2 100 ++ [0, 0, 0, 0])) r)) = true ∧
    goes (exec (.holdupTestDone 9 railBefore [] () ()) fusedCal) (fun s' => s'.cal == fusedCal.cal) = true := by decide +kernel

/-- A TAP instruction is current, TEST_EN has a level, session 1 is open and a segment prints. -/
def tapped (code en : Nat) : State := { (two.setPar Par.testInstruction code).setPar Par.testTestEn en with
  sessions := [sess 1 1], spool := { two.spool with segs := [segIn Sg.printing [empty 0, empty 3]] }, heads := modNth (fun x => { x with hpen := true }) 3 two.heads }
theorem wit_test_rise : goes (exec (.testEnRise 7) (tapped 3 0)) (fun s' => s'.par Par.devState == 4 && !(s'.head 3).hpen && s'.cond 118 0 && s'.sessions.length == 1 && goes (exec (.testEnRise 8) s') (fun r => r.evt == s'.evt) &&
      goes (exec (.testEnFall 8) s') (fun r => !r.cond 118 0 && r.par Par.devState == 0)) = true ∧ (tapped 3 0).heads.length = 16 := by decide +kernel
theorem wit_test_drive : (segIn Sg.printing [empty 0, empty 3]).live = true ∧ (segIn Sg.printing [empty 0, empty 3]).keep = false ∧ (segIn Sg.printing [empty 0, empty 3]).headList = [0, 3] ∧ (segIn Sg.printing [empty 0, empty 3]).lines ≠ 0 ∧
    (segIn Sg.printing [empty 0, empty 3]).passed 0 = 0 ∧
    goes (exec (.testEnRise 7) (tapped 5 0)) (fun s' => s'.par Par.testPinDriven == 1 && s'.sessions == [] && s'.spool.segs == [] && s'.spool.done.map Done.state == [Sg.broken] && s'.power.driven.map SavedSeg.handle == [77] && s'.out.contains (.pin "HIGHZ" 0) &&
      goes (exec (.testEnFall 8) s') (fun r => !(r.head 3).hpen && r.par Par.testTestEn == 0)) = true := by decide +kernel
theorem wit_tap : goes (exec (.idcode 7) (tapped 1 0)) (fun s' => s'.out == [.scan 0 1, .scan 2 0x1A7169A7]) = true ∧ goes (exec (.idcode 7) (two.setPar Par.testTestEn 1)) (fun s' => s'.out == [.scan 0 13, .scan 2 0x1A7169A7]) = true ∧
    goes (exec (.preload 7 5 (2 ^ 994 + 6)) (tapped 3 0)) (fun s' => s'.test.captured == 5 && s'.test.boundary == 6 && goes (exec (.sample 8 9) s') (fun r => r.test.captured == 9 && r.test.boundary == 6) &&
      goes (exec (.extest 8 9 1) s') (fun r => r.par Par.testInstruction == 0 && r.test.boundary == 6 && r.par Par.testPinDriven == 0) && goes (exec (.clamp 8) s') (fun r => r.par Par.testPinDriven == 0)) = true ∧
    goes (exec (.bypass 7 0xA0) (tapped 3 0)) (fun s' => s'.par Par.testInstruction == 0xA0 && goes (exec (.tapReset 8) s') (fun r => r.par Par.testInstruction == 3)) = true := by decide +kernel
theorem wit_tap_drive : goes (exec (.extest 7 9 6) (tapped 3 1)) (fun s' => s'.par Par.testPinDriven == 1 && s'.spool.segs == [] && s'.out.contains (.pin "EXTEST" 6)) = true ∧
    goes (exec (.clamp 7) (tapped 3 1)) (fun s' => s'.par Par.testPinDriven == 1 && s'.out.contains (.pin "CLAMP" 0)) = true := by decide +kernel

theorem wit_bist : goes (exec (.testBist 7 h1 (leBytes 4 0x58) []) (owned.setPar (Par.at_ Par.camUEnable 2) 1)) (replied h1 0x1501 0 0 (.bytes (List.replicate 17 0 ++ [0, 0, 2, 0] ++ [0, 0, 0]))) = true ∧
    goes (exec (.testBist 7 h1 (leBytes 4 128) []) owned) (replied h1 0x1501 0x0101 8 (.bytes [])) = true ∧
    goes (exec (.testBist 7 h1 (leBytes 4 1) []) { owned with spool := { owned.spool with segs := [segIn Sg.printing [empty 0, empty 3]] } }) (replied h1 0x1501 0x0202 6 (.bytes [])) = true := by decide +kernel
theorem wit_bist_fails : ([0, 1, 2, 3, 4].all (fun k => owned.bistUnits k |>.contains (0, 0))) = true ∧ owned.insp.engines.length = 8 ∧ owned.heads.length = 16 ∧
    goes (exec (.testBist 7 h1 (leBytes 4 16) [(4, 3)]) owned) (fun s' => (s'.head 3).out && s'.par (Par.evtCount000 + 119) == 1 && s'.par (Par.evtCount000 + 40) == 1 && replied h1 0x1501 0 0 (.bytes [0, 0, 0, 1, 0, 0, 0, 0, 0, 0, 0, 0, 0, 0, 0, 0]) s') = true ∧
    goes (exec (.testBist 7 h1 (leBytes 4 1) [(0, 31)]) owned) (fun s' => !bitAt s'.spool.inflateUnits 31 && bitAt s'.spool.inflateUnits 30) = true := by decide +kernel
theorem wit_capture_done : goes (exec (.testCapture 1500 h1 ([3, 0, 0, 0] ++ leBytes 4 8)) owned) (fun s' => s'.test.captures.map CaptureRun.start == [2000] && captureNs 3 8 == 400 &&
      goes (exec (.captureComplete 2399 (s'.test.captures.headD ⟨0, 0, 0, 0, 0⟩).cid [1, 2, 3, 4, 5, 6, 7, 8]) s') (fun r => r.test == s'.test) &&
      goes (exec (.captureComplete 3000 (s'.test.captures.headD ⟨0, 0, 0, 0, 0⟩).cid [1, 2, 3, 4, 5, 6, 7, 8]) s') (fun r => r.pack.jobs.map PackJob.use == [.capture 3 2000 8] && r.pack.jobs.map PackJob.count == [8]) &&
      goes (exec (.captureComplete 3000 (s'.test.captures.headD ⟨0, 0, 0, 0, 0⟩).cid [1, 2, 3, 4, 5, 6, 7, 8]) { s' with pack := { s'.pack with out := true } }) (fun r =>
        (r.sessions.map Session.capture).contains [1, 2, 3, 4, 5, 6, 7, 8] && replied h1 0x1502 0 0 (.bytes (leBytes 4 8 ++ [3, 0, 0, 0] ++ leBytes 8 2000 ++ [1, 2, 3, 4, 5, 6, 7, 8])) r)) = true := by decide +kernel
theorem wit_capture_packed : ({ two with pack := ⟨false, [⟨40, 1, 9, 1, 0, .capture 3 2000 24, 0, 24, 2 ^ 32, List.replicate 24 1, 0, true, none⟩]⟩ } : State).pack.jobs.any PackJob.running = true ∧ (packOut (List.replicate 24 1)).length < 24 :=
  ⟨by decide +kernel, wit_pack_ok.1⟩
theorem wit_capture : ScanOn owned = true ∧
    goes (exec (.testCapture 7 h1 ([1, 0, 0, 0] ++ leBytes 4 8)) owned) (replied h1 0x1502 0x0202 0 (.bytes [])) = true ∧
    goes (exec (.testCapture 7 h1 ([2, 0, 0, 0] ++ leBytes 4 8)) (owned.setPar (Par.at_ Par.posUMode 1) 2)) (fun s' => s'.test.captures.map CaptureRun.point == [2]) = true ∧
    goes (exec (.testCapture 7 h1 ([6, 0, 0, 0] ++ leBytes 4 8)) owned) (replied h1 0x1502 0x0108 8 (.bytes [])) = true ∧
    goes (exec (.testCapture 7 h1 ([3, 0, 0, 0] ++ leBytes 4 10)) owned) (replied h1 0x1502 0x0101 12 (.bytes [])) = true ∧
    goes (exec (.captureComplete 7 50 [1]) owned) (fun s' => s'.test == owned.test) = true := by decide +kernel

theorem wit_attn : (two.setMailbox true 3 ⟨1, false, 1, 0, [], 0, false, false, false⟩).attnLow = true ∧ two.attnLow = false ∧ (two.setMailbox false 3 ⟨3, true, 1, 0, [], 0, false, false, false⟩).attnLow = true ∧
    (two.setMailbox false 3 ⟨1, true, 1, 0, [], 0, false, false, false⟩).attnLow = false := by decide +kernel
theorem wit_canonical : (two.setPar Par.powerPhase 5).canonical = true ∧ (match step { two with pending := [.tapReset 5, .idcode 6] } with
    | .next s => s.canonical && s.pending == [.idcode 6]
    | _ => false) = true := by decide +kernel

/-- The header of a packet in every part of its range, and out of it. -/
theorem form_header : wellFormed (.devEcho 7 h1 [1, 2, 3, 4]) = true ∧ wellFormed (.devEcho (2 ^ 64) h1 []) = false ∧ wellFormed (.devEcho 7 ⟨0, 5, 0, 0⟩ []) = false ∧ wellFormed (.devEcho 7 ⟨17, 5, 0, 0⟩ []) = false ∧
    wellFormed (.devEcho 7 ⟨16, 65535, 255, 255⟩ []) = true ∧ wellFormed (.devEcho 7 ⟨1, 65536, 0, 0⟩ []) = false ∧ wellFormed (.devEcho 7 ⟨1, 5, 256, 0⟩ []) = false ∧ wellFormed (.devEcho 7 ⟨1, 5, 0, 256⟩ []) = false := by decide +kernel
theorem form_body : wellFormed (.devEcho 7 h1 [1, 2, 3]) = false ∧ wellFormed (.devEcho 7 h1 (List.replicate 9112 0)) = true ∧ wellFormed (.devEcho 7 h1 (List.replicate 9116 0)) = false := by decide +kernel
theorem form_ranges : wellFormed (.fresyLockLoss 7 3) = true ∧ wellFormed (.fresyLockLoss 7 4) = false ∧ wellFormed (.idleLimitExpiry 7 0) = false ∧ wellFormed (.idleLimitExpiry 7 17) = false ∧ wellFormed (.idleLimitExpiry 7 16) = true ∧
    wellFormed (.calHoldupTest 7 h1 [] 65536) = false ∧ wellFormed (.bellRing 7 (List.replicate 601 0)) = false := by decide +kernel
/-- A frame of session 3. -/
def f0 : Frame := bare 3 1 4
theorem form_frame : f0.wf = true ∧ [{ f0 with port := 4 }, { f0 with dst := 2 ^ 48 }, { f0 with src := 2 ^ 48 }, { f0 with vlan := some 65536 }, { f0 with ethertype := 65536 }, { f0 with session := 256 },
    { f0 with seq := 2 ^ 32 }, { f0 with ack := 2 ^ 32 }, { f0 with sack := 2 ^ 64 }, { f0 with credit := 2 ^ 32 }, { f0 with len := 65536 }, { f0 with ports := 16 }, { f0 with txc := 2 ^ 32 }, { f0 with ver := 16 }, { f0 with rsv := 2 ^ 28 }, { f0 with tag := List.replicate 17 0 }].all (fun (f : Frame) => !f.wf) = true ∧
    ([⟨31, []⟩, ⟨36, []⟩] : List CFrame).all (fun (f : CFrame) => !f.wf) = true ∧ (⟨32, []⟩ : CFrame).wf = true := by decide +kernel

end Sys2Proof.Tests
end

section
/-!
The attention output of the management port (R429): the conditions as bits of one word, and that word under MGMT.ATTN_MASK.
-/
namespace Sys2Proof.Machine

/-! Bits of a word. -/

/-- The model's bit test is the library's, so the library's lemmas on `&&&` and `|||` apply to it. -/
theorem bitAt_eq_testBit (v i : Nat) : bitAt v i = v.testBit i := by
  simp [bitAt, Nat.testBit_eq_decide_div_mod_eq, Bool.beq_eq_decide_eq]

@[simp] theorem testBit_bit (b : Bool) (i j : Nat) : (bit b i).testBit j = (b && decide (i = j)) := by
  cases b <;> simp [bit, Nat.testBit_two_pow]

/-- Bits at different places do not carry into one another. -/
theorem bit_add_three (a b c : Bool) : bit a 0 + bit b 1 + bit c 2 = bit a 0 ||| bit b 1 ||| bit c 2 := by
  revert a b c; decide

theorem land_ne_zero_iff_bitAt (v w : Nat) : v &&& w ≠ 0 ↔ ∃ i, bitAt v i ∧ bitAt w i := by
  simp only [bitAt_eq_testBit, ← Bool.and_eq_true, ← Nat.testBit_and]
  exact ⟨Nat.exists_testBit_of_ne_zero, fun ⟨_, hi⟩ h => by simp [h] at hi⟩

/-! The attention word. -/

/-- The three conditions of R429, each at its own bit, and no other bit. -/
theorem State.bitAt_attnConds (s : State) (i : Nat) : bitAt s.attnConds i ↔
    (i = 0 ∧ ∃ m ∈ s.mgmt.tm, m.state = 1) ∨ (i = 1 ∧ s.mgmt.tmBells ≠ 0) ∨ (i = 2 ∧ ∃ m ∈ s.mgmt.th, m.state = 3) := by
  rw [State.attnConds, bit_add_three, bitAt_eq_testBit]
  simp [and_comm, eq_comm (b := i), or_assoc]

/-- The pin is low when some bit is set both in the attention word and in the mask. -/
theorem State.attnLow_iff (s : State) : s.attnLow = true ↔ ∃ i, bitAt s.attnConds i ∧ bitAt (s.par Par.mgmtAttnMask) i := by
  rw [State.attnLow, bne_iff_ne, land_ne_zero_iff_bitAt]

/-- Settles O57: the masked attention word has a bit set, and each of its bits is one condition. -/
theorem attentionOutput : Obligations.AttentionOutput := by
  unfold Obligations.AttentionOutput
  intro s
  rw [State.attnLow_iff]
  constructor
  · rintro ⟨i, hc, hm⟩
    obtain ⟨rfl, h⟩ | ⟨rfl, h⟩ | ⟨rfl, h⟩ := (s.bitAt_attnConds i).mp hc
    · exact .inl ⟨hm, h⟩
    · exact .inr (.inl ⟨hm, h⟩)
    · exact .inr (.inr ⟨hm, h⟩)
  · rintro (⟨hm, h⟩ | ⟨hm, h⟩ | ⟨hm, h⟩)
    · exact ⟨0, (s.bitAt_attnConds 0).mpr (.inl ⟨rfl, h⟩), hm⟩
    · exact ⟨1, (s.bitAt_attnConds 1).mpr (.inr (.inl ⟨rfl, h⟩)), hm⟩
    · exact ⟨2, (s.bitAt_attnConds 2).mpr (.inr (.inr ⟨rfl, h⟩)), hm⟩

end Sys2Proof.Machine
end

section
/-!
A save and what may interrupt it (R434-R436, R449-R452): what the save store holds after a save that ended or was abandoned, what a
device reset leaves of it, and what the restart report says of it.
-/
namespace Sys2Proof.Machine

/-! The save store. -/

@[simp] theorem State.storeSave_zero (v : Save) (s : State) : s.storeSave 0 v = s := rfl

/-- With at least one section, the store holds the save under its number: complete (state 2) with all six, else cut short (state 1). -/
theorem State.storeSave_store (n : Nat) (hn : n ≠ 0) (v : Save) (s : State) :
    (s.storeSave n v).power.store.state = (if n = 6 then 2 else 1) ∧ (s.storeSave n v).power.store.save = some { v with sections := n } ∧
      (s.storeSave n v).power.store.seq = v.seq := by
  unfold State.storeSave
  by_cases h : n = 6 <;> simp [hn, h, Store.ctrlWrite]

/-- Where the latest copy of the control block verifies, the store stands for the save that it stood for (R450). -/
theorem Store.restored_latest (older : Bool) (st : Store) :
    (st.restored true older).seq = st.seq ∧ (st.restored true older).state = st.state := ⟨rfl, rfl⟩

/-! A device reset. -/

/-- A device reset reports its own kind: the parameters that it carries over are others. -/
@[simp] theorem State.deviceReset_kind (k : Nat) (s : State) : (s.deviceReset k).par Par.powerResetKind = k := by
  unfold State.deviceReset
  iterate 5 rw [State.par_setPar_ne _ _ _ (by decide)]
  exact State.par_setPar_self _ _ _

/-! The commands. -/

/-- A save that PORST_ASSERT abandons reaches the store with the sections that it completed, and with no sixth one (R436). -/
theorem exec_porstAssert_of_saving (t n : Nat) (v : Save) (s : State) (h : s.power.saving = some v) :
    ∃ s', exec (.porstAssert t n) s = .next s' ∧ s'.power.store = ((s.at_ t).storeSave (min n 5) v).power.store := by
  refine ⟨_, rfl, ?_⟩
  dsimp only [State.at__power]
  rw [h]
  rfl

theorem exec_sysrstAssert_of_sag (t : Nat) (s : State) (h : s.power.sag ≠ 0) : exec (.sysrstAssert t) s = .next (s.at_ t) :=
  if_pos (.inl h)

theorem exec_sagRecognised_of_sag (t mv : Nat) (s : State) (h : s.power.sag ≠ 0) : exec (.sagRecognised t mv) s = .next (s.at_ t) :=
  if_pos (.inl h)

/-- SAVE_COMPLETE writes all six sections and resets with the kind of the save, into the held reset after a sag (R449). -/
theorem exec_saveComplete_of_saving (t : Nat) (v : Save) (s : State) (h : s.power.saving = some v) :
    ∃ s', exec (.saveComplete t) s = .next s' ∧ s'.power.store = ((s.at_ t).storeSave 6 v).power.store ∧
      s'.par Par.powerResetKind = s.power.sagKind := by
  have hexec : exec (.saveComplete t) s = execSaveComplete t s := rfl
  rw [hexec]
  unfold execSaveComplete
  simp only [State.at__power, h]
  by_cases hk : s.power.sagKind = 3
  · exact ⟨_, if_pos hk, rfl, State.deviceReset_kind _ _⟩
  · exact ⟨_, if_neg hk, rfl, State.deviceReset_kind _ _⟩

/-! The restart report. -/

theorem State.power_eq_of_rest {s s' : State} (h : s'.rest = s.rest) : s'.power = s.power :=
  show s'.rest.power = s.rest.power from h ▸ rfl

theorem State.rest_when_raise (on : Bool) (ev unit : Nat) (args : List Byte) (s : State) : (s.when on (State.raise ev unit args)).rest = s.rest :=
  State.rest_when on _ (State.rest_raise ev unit args) s

theorem State.rest_each_addEntry (es : List LogEntry) (s : State) : (s.each es (fun e s => s.addEntry 0 (s.numbered 0 e))).rest = s.rest :=
  State.rest_each _ (fun e s => State.rest_addEntry 0 (s.numbered 0 e) s) es s

/-- A restore in force reports the save of the control block that it read, and what it logs and raises afterwards leaves the report
(R451, R452). -/
theorem exec_restore_report (t : Nat) (a : List Bool) (b c d e : Bool) (l : List Nat) (s : State)
    (hr : s.power.restored = false) (hd : s.power.down = false) (hs : s.power.sag = 0) (hp : s.par Par.powerPhase ≠ 0) :
    ∃ s' r older bad lost, exec (.restore t ⟨a, b⟩ c d e l) s = .next s' ∧ s'.power.report = some r ∧
      r.seq = (s.power.store.restored (LatestOk a s) older).seq ∧
      r.flags = bit ((s.power.store.restored (LatestOk a s) older).state == 2) 0 + bit ((s.power.store.restored (LatestOk a s) older).state == 1) 1
        + bit bad 2 + bit lost 3 := by
  have hexec : exec (.restore t ⟨a, b⟩ c d e l) s = execRestore t ⟨a, b⟩ c d e l s := rfl
  rw [hexec]
  unfold execRestore
  extract_lets now _ _ _ _ _ _ ckpt journal _ _ _ _ _ _ _ _ _ _ bad _ report
  have hpower : now.power = s.power := rfl
  have hphase : now.par Par.powerPhase ≠ 0 := hp
  have hgo : ¬ (now.power.restored || now.power.down || now.power.sag != 0 || now.par Par.powerPhase == 0) = true := by
    simp [hpower, hr, hd, hs, hphase]
  refine ⟨_, report, _, bad, ckpt.isNone || journal.isNone, if_neg hgo, ?_, rfl, rfl⟩
  exact congrArg Power.report (State.power_eq_of_rest ((State.rest_when_raise _ _ _ _ _).trans ((State.rest_when_raise _ _ _ _ _).trans
    ((State.rest_when_raise _ _ _ _ _).trans ((State.rest_happen _).trans ((State.rest_each_addEntry _ _).trans
      (State.rest_record _ _ _ _ _)))))))

/-- The flag byte of a save cut short: bit 0, a complete save, is clear, and bit 1 is set. -/
theorem cutShort_flags (bad lost : Bool) : bitAt (bit (1 == 2) 0 + bit (1 == 1) 1 + bit bad 2 + bit lost 3) 1 = true ∧
    bitAt (bit (1 == 2) 0 + bit (1 == 1) 1 + bit bad 2 + bit lost 3) 0 = false := by
  revert bad lost; decide

/-- Settles O49: in a save SYSRST_ASSERT and SAG_RECOGNISED only move the time, so SAVE_COMPLETE finds the save as it was; PORST_ASSERT leaves
the store with state 1, and that is what the flags of the restart report repeat. -/
theorem savesAreNotDisturbed : Obligations.SavesAreNotDisturbed := by
  unfold Obligations.SavesAreNotDisturbed
  refine ⟨?_, ?_, ?_, ?_, ?_, ?_⟩
  · intro t n s
    exact ⟨_, rfl, rfl, rfl, rfl, State.deviceReset_kind 1 _⟩
  · intro t n v s hv
    obtain ⟨s', hex, hst⟩ := exec_porstAssert_of_saving t n v s hv
    refine ⟨s', hex, ?_, ?_⟩
    · rintro rfl
      simpa using hst
    · intro hn
      obtain ⟨hstate, hsave, hseq⟩ := State.storeSave_store (min n 5) (by omega) v (s.at_ t)
      rw [hst]
      exact ⟨hstate.trans (if_neg (by omega)), hsave, hseq⟩
  · intro t a b c d e l s hl hr hd hs hp h1
    obtain ⟨s', r, older, bad, lost, hex, hrep, hseq, hflags⟩ := exec_restore_report t a b c d e l s hr hd hs hp
    obtain ⟨hq, hst⟩ := s.power.store.restored_latest older
    rw [hl] at hseq hflags
    rw [hst, h1] at hflags
    obtain ⟨hcut, hfull⟩ := cutShort_flags bad lost
    exact ⟨s', hex, r, hrep, hflags ▸ hcut, hflags ▸ hfull, hseq.trans hq⟩
  · intro t s hs
    exact ⟨_, exec_sysrstAssert_of_sag t s hs, rfl⟩
  · intro t mv s hs _
    exact ⟨_, exec_sagRecognised_of_sag t mv s hs, rfl⟩
  · intro t t' mv v s s' hs hv hex
    rw [exec_sysrstAssert_of_sag t s hs, exec_sagRecognised_of_sag t mv s hs, or_self, Host.Outcome.next.injEq] at hex
    subst hex
    obtain ⟨r, hr, hst, hk⟩ := exec_saveComplete_of_saving t' v (s.at_ t) hv
    obtain ⟨hstate, hsave, -⟩ := State.storeSave_store 6 (by decide) v ((s.at_ t).at_ t')
    exact ⟨r, hr, hst ▸ hstate, hst ▸ hsave, hk⟩

end Sys2Proof.Machine
end

section
/-!
The die temperature (R458): which of the three sensors are valid, the Tj that they give, and what TJ_SAMPLE does with it.
-/
namespace Sys2Proof.Machine

/-! An update of a list at one place. -/

/-- The model's update is the library's, so the library's lemmas on `List.modify` apply to it. -/
theorem modNth_eq_modify {α : Type} (f : α → α) (i : Nat) (xs : List α) : modNth f i xs = xs.modify i f := by
  induction xs generalizing i with
  | nil => cases i <;> rfl
  | cons x xs ih =>
    cases i with
    | zero => rfl
    | succ i => simp [modNth, ih]

@[simp] theorem length_modNth {α : Type} (f : α → α) (i : Nat) (xs : List α) : (modNth f i xs).length = xs.length := by
  rw [modNth_eq_modify, List.length_modify]

theorem nth_modNth {α : Type} (f : α → α) (d : α) {i : Nat} {xs : List α} (h : i < xs.length) (j : Nat) :
    nth (modNth f i xs) d j = if i = j then f (nth xs d j) else nth xs d j := by
  rw [modNth_eq_modify, nth, List.getElem?_modify]
  by_cases hij : i = j
  · subst hij
    simp [nth, h]
  · simp [nth, hij]

/-! What an act repeated over a list keeps. -/

theorem State.each_keeps {α β : Type} (φ : State → β) (f : α → State → State) (h : ∀ x s, φ (f x s) = φ s) (xs : List α) :
    ∀ s : State, φ (s.each xs f) = φ s := by
  induction xs with
  | nil => intro s; rfl
  | cons x xs ih => intro s; exact (ih (f x s)).trans (h x s)

theorem State.dev_eq_of_rest {s s' : State} (h : s'.rest = s.rest) : s'.dev = s.dev :=
  show s'.rest.dev = s.rest.dev from h ▸ rfl

theorem State.cal_eq_of_rest {s s' : State} (h : s'.rest = s.rest) : s'.cal = s.cal :=
  show s'.rest.cal = s.rest.cal from h ▸ rfl

@[simp] theorem State.params_endCond (ev unit : Nat) (s : State) : (s.endCond ev unit).params = s.params := by
  unfold State.endCond; dsimp only; split <;> rfl

theorem State.par_endCond (j ev unit : Nat) (s : State) : (s.endCond ev unit).par j = s.par j :=
  congrArg (mget resetVal · j) (s.params_endCond ev unit)

/-! The count of an event. A ring summary counts frames of lanes alone, so it leaves the counts of events as well. -/

theorem State.par_sendRing_of_svc_ne (j : Nat) (hj : idSvc j ≠ 0x0C) (ftype dst : Nat) (p : List Byte) (s : State) :
    (s.sendRing ftype dst p).par j = s.par j := by
  unfold State.sendRing State.sendFrameGen State.sendOn
  refine (State.par_each j _ _ ?_ _).trans rfl
  intro u hu s
  have hlane : u = eastA ∨ u = westB := by simpa using (List.mem_filter.mp hu).1
  have hne : j ≠ Par.at_ Par.laneUFramesTx u := by
    rintro rfl
    obtain rfl | rfl := hlane <;> exact hj (by decide)
  rw [State.frameOut, State.par_bump_ne _ _ _ hne, State.par_modLane, State.par_lineOut, State.par_emit]

theorem State.par_summarise_of_svc_ne (j : Nat) (hj : idSvc j ≠ 0x0C) (ev svc unit : Nat) (s : State) :
    (s.summarise ev svc unit).par j = s.par j := by
  unfold State.summarise State.sendSummary
  dsimp only
  exact iteInduction (motive := fun r => State.par r j = s.par j) (fun _ => rfl) fun _ =>
    iteInduction (motive := fun r => State.par r j = s.par j) (fun _ => State.par_sendRing_of_svc_ne j hj _ _ _ _) fun _ => rfl

/-- Raising an event of the table counts it once (R406). -/
theorem State.countsUp_raise (ev unit : Nat) (args : List Byte) (s : State) (h : (evRow ev).isSome) :
    CountsUp (Par.evtCount000 + ev) s (s.raise ev unit args) := by
  obtain ⟨r, hr⟩ := Option.isSome_iff_exists.mp h
  have hlt := evRow_lt ev r hr
  have hsvc : idSvc (Par.evtCount000 + ev) ≠ 0x0C := by simp only [idSvc, Par.evtCount000]; omega
  have hdropped : Par.evtCount000 + ev ≠ Par.evtQueueDropped := by simp only [Par.evtCount000, Par.evtQueueDropped]; omega
  have hraised : Par.evtCount000 + ev ≠ Par.evtRaised := by simp only [Par.evtCount000, Par.evtRaised]; omega
  unfold CountsUp State.raise State.raiseFull State.raiseCore State.deliver
  rw [hr]
  dsimp only
  rw [State.par_summarise_of_svc_ne _ hsvc, State.par_when _ _ _ (State.par_bump_ne _ _ _ hdropped)]
  refine (State.par_pulsePins _ _ _).trans ?_
  rw [State.bump, State.par_setPar_self, State.par_bump_ne _ _ _ hraised, State.par_latch]
  rfl

/-! Trimmed elements. -/

theorem State.trim_modTrim (e : Nat) (f : Trim → Trim) (s : State) (h : e < s.cal.trims.length) (d : Nat) :
    (s.modTrim e f).trim d = if e = d then f (s.trim d) else s.trim d :=
  nth_modNth f noTrim h d

theorem State.dev_goStale (e : Nat) (s : State) : (s.goStale e).dev = s.dev := by
  unfold State.goStale
  split
  · rfl
  · exact (State.dev_eq_of_rest (State.rest_raiseKeyed _ _ _ _ _)).trans rfl

theorem State.par_goStale (j : Nat) (hj : quiet j) (hne : j ≠ Par.calStaleEvents) (e : Nat) (s : State) : (s.goStale e).par j = s.par j := by
  unfold State.goStale
  split
  · rfl
  · exact (State.par_raiseCore j hj _ _ _ _ _ _ _ _).trans (State.par_bump_ne _ _ _ hne _)

/-- An element that goes stale is marked, and its outputs and the other elements stay (R461). -/
theorem State.trim_goStale (e : Nat) (s : State) (h : e < s.cal.trims.length) (d : Nat) :
    (s.goStale e).trim d = { s.trim d with stale := decide (d = e) || (s.trim d).stale } := by
  unfold State.goStale
  by_cases hst : (s.trim e).stale
  · rw [if_pos hst]
    by_cases hd : d = e
    · subst hd; simp [← hst]
    · simp [hd]
  · rw [if_neg hst]
    have hcal := State.cal_eq_of_rest (State.rest_raiseKeyed Ev.calStale 0 e [BitVec.ofNat 8 e]
      ((s.modTrim e (fun x => { x with stale := true })).bump Par.calStaleEvents 1))
    rw [State.trim, hcal]
    refine (s.trim_modTrim e (fun x => { x with stale := true }) h d).trans ?_
    by_cases hd : d = e
    · simp [hd]
    · simp [hd, Ne.symm hd]

theorem State.length_trims_goStale (e : Nat) (s : State) : (s.goStale e).cal.trims.length = s.cal.trims.length := by
  unfold State.goStale
  split
  · rfl
  · rw [State.cal_eq_of_rest (State.rest_raiseKeyed _ _ _ _ _)]
    exact length_modNth _ _ _

theorem State.trim_each_goStale (es : List Nat) (d : Nat) :
    ∀ s : State, (∀ e ∈ es, e < s.cal.trims.length) →
      (s.each es State.goStale).trim d = { s.trim d with stale := decide (d ∈ es) || (s.trim d).stale } := by
  induction es with
  | nil => intro s _; simp [State.each]
  | cons e es ih =>
    intro s h
    have htail : ∀ e' ∈ es, e' < (s.goStale e).cal.trims.length := fun e' he' =>
      (s.length_trims_goStale e).symm ▸ h e' (List.mem_cons_of_mem _ he')
    refine (ih (s.goStale e) htail).trans ?_
    rw [State.trim_goStale e s (h e List.mem_cons_self)]
    by_cases hd : d = e <;> simp [hd]

/-! A refresh (R459-R461) changes no parameter and nothing of the device's own state. -/

theorem State.par_refresh (j e : Nat) (tj : Int) (s : State) : (s.refresh e tj).par j = s.par j := by
  unfold State.refresh
  dsimp only
  rw [State.par_when j _ _ (State.par_endCond j _ _)]
  split <;> rfl

theorem State.dev_refresh (e : Nat) (tj : Int) (s : State) : (s.refresh e tj).dev = s.dev := by
  unfold State.refresh
  dsimp only
  rw [State.dev_eq_of_rest (State.rest_when _ _ (State.rest_endCond _ _) _)]
  split <;> rfl

/-! The sensors (R458). -/

/-- A reading is valid beside two others: within -55 to +150 degrees C, and within 5 degrees C of one of them. -/
def sensorValid (a b c : Int) : Bool := decide (-880 ≤ a ∧ a ≤ 2400 ∧ ((a - b).natAbs ≤ 80 ∨ (a - c).natAbs ≤ 80))

theorem sensorValid_eq_and (a b c : Int) : sensorValid a b c =
    (decide (-880 ≤ a) && decide (a ≤ 2400) && (decide ((a - b).natAbs ≤ 80) || decide ((a - c).natAbs ≤ 80))) := by
  simp only [sensorValid, Bool.decide_and, Bool.decide_or, Bool.and_assoc]

/-! Each of the three has the other two beside it: the model's search for another sensor, place by place. -/

theorem validMask_three (x y z : Int) :
    validMask [x, y, z] = bit (sensorValid x y z) 0 + bit (sensorValid y x z) 1 + bit (sensorValid z x y) 2 := by
  simp only [validMask, List.zipIdx_cons, List.zipIdx_nil, List.any_cons, List.any_nil, List.map_cons, List.map_nil, List.sum_cons,
    List.sum_nil, bne_self_eq_false, Nat.reduceBNe, Nat.reduceAdd, Bool.false_and, Bool.true_and, Bool.false_or, Bool.or_false,
    Nat.zero_add, Nat.add_zero, Nat.add_assoc, ← sensorValid_eq_and]

theorem validSensors_three (x y z : Int) : validSensors [x, y, z] =
    (if sensorValid x y z then [x] else []) ++ (if sensorValid y x z then [y] else []) ++ (if sensorValid z x y then [z] else []) := by
  simp only [validSensors, List.zipIdx_cons, List.zipIdx_nil, List.any_cons, List.any_nil, List.filter_cons, List.filter_nil,
    bne_self_eq_false, Nat.reduceBNe, Nat.reduceAdd, Bool.false_and, Bool.true_and, Bool.false_or, Bool.or_false, Nat.zero_add,
    ← sensorValid_eq_and]
  cases sensorValid x y z <;> cases sensorValid y x z <;> cases sensorValid z x y <;> rfl

/-- A valid sensor reads within -55 to +150 degrees C. -/
theorem mem_validSensors_range {xs : List Int} {a : Int} (h : a ∈ validSensors xs) : -880 ≤ a ∧ a ≤ 2400 := by
  obtain ⟨⟨b, i⟩, hb, rfl⟩ := List.mem_map.mp h
  have hp := (List.mem_filter.mp hb).2
  simp only [Bool.and_eq_true, decide_eq_true_eq] at hp
  exact hp.1

@[simp] theorem tjOf_eq_none (xs : List Int) : tjOf xs = none ↔ xs = [] := by
  unfold tjOf
  split <;> simp

/-- Tj is the reading of a sensor. -/
theorem tjOf_mem {xs : List Int} {m : Int} (h : tjOf xs = some m) : m ∈ xs := by
  match xs, h with
  | [a], h => simpa [tjOf, eq_comm] using h
  | [a, b], h =>
    obtain rfl : max a b = m := by simpa [tjOf] using h
    simp only [List.mem_cons]
    omega
  | a :: b :: c :: _, h =>
    obtain rfl : max (min a b) (min (max a b) c) = m := by simpa [tjOf] using h
    simp only [List.mem_cons]
    omega

theorem two_le_length_filter (p : Int → Bool) (x y z : Int) (h : p x ∧ p y ∨ p x ∧ p z ∨ p y ∧ p z) :
    2 ≤ ([x, y, z].filter p).length := by
  obtain ⟨h1, h2⟩ | ⟨h1, h2⟩ | ⟨h1, h2⟩ := h <;> simp [List.filter_cons, h1, h2] <;> split <;> simp

/-- With three readings Tj is their median: two of them do not exceed it, and two are not below it. -/
theorem tjOf_median {x y z m : Int} (h : tjOf [x, y, z] = some m) : m ∈ [x, y, z] ∧
    2 ≤ ([x, y, z].filter (fun a => decide (a ≤ m))).length ∧ 2 ≤ ([x, y, z].filter (fun a => decide (m ≤ a))).length := by
  refine ⟨tjOf_mem h, two_le_length_filter _ _ _ _ ?_, two_le_length_filter _ _ _ _ ?_⟩ <;>
  · simp only [tjOf, Option.some.injEq] at h
    simp only [decide_eq_true_eq]
    omega

/-- A reading of a valid sensor fits in the field of CAL.TJ. -/
theorem signed_twos_of_range {m : Int} (h : -880 ≤ m ∧ m ≤ 2400) : signed 16 (twos 16 m) = m := by
  unfold signed twos
  split <;> omega

/-! TJ_SAMPLE (R458). -/

theorem quiet_calTj : quiet Par.calTj := ⟨by decide, by decide, by decide⟩

theorem quiet_calTjValid : quiet Par.calTjValid := ⟨by decide, by decide, by decide⟩

/-- Without a valid sensor Tj stays, and every element with a temperature set goes stale with its outputs as they were. -/
theorem exec_tjSample_of_no_valid (t : Nat) (x y z : Int) (s : State) (h : tjOf (validSensors [x, y, z]) = none)
    (hlen : s.cal.trims.length = 9) :
    Answers (.tjSample t x y z) s (fun s' => s'.par Par.calTjValid = validMask [x, y, z] ∧ s'.par Par.calTj = s.par Par.calTj ∧
      s'.dev = s.dev ∧ ∀ e, hasTset e → (s'.trim e).stale ∧ (s'.trim e).out = (s.trim e).out) := by
  have hexec : exec (.tjSample t x y z) s = execTjSample t x y z s := rfl
  unfold execTjSample at hexec
  dsimp only at hexec
  rw [h] at hexec
  refine ⟨_, hexec, ?_, ?_, ?_, ?_⟩
  · exact (State.par_each _ _ _ (fun e _ s => State.par_goStale _ quiet_calTjValid (by decide) e s) _).trans (State.par_setPar_self _ _ _)
  · exact (State.par_each _ _ _ (fun e _ s => State.par_goStale _ quiet_calTj (by decide) e s) _).trans
      (State.par_setPar_ne _ _ _ (by decide) _)
  · exact State.each_keeps State.dev _ State.dev_goStale _ _
  · intro e he
    have hmem : e ∈ (List.range 9).filter hasTset := by
      have hlt : e < 9 := by
        simp [hasTset] at he
        omega
      exact List.mem_filter.mpr ⟨List.mem_range.mpr hlt, he⟩
    rw [State.trim_each_goStale]
    · exact ⟨by simp [hmem], rfl⟩
    · intro d hd
      exact hlen.symm ▸ List.mem_range.mp (List.mem_filter.mp hd).1

/-- The state in which TJ_SAMPLE judges EV003: the parameters of R458 hold the sample, and the elements are refreshed. -/
def State.sampled (t mask : Nat) (tj : Int) (s : State) : State :=
  ((((s.at_ t).setPar Par.calTjValid mask).setPar Par.calTj (twos 16 tj)).outsideUpdate).each ((List.range 9).filter hasTset)
    (fun e s => s.refresh e tj)

theorem State.dev_sampled (t mask : Nat) (tj : Int) (s : State) : (s.sampled t mask tj).dev = s.dev :=
  State.each_keeps State.dev _ (fun e s => State.dev_refresh e tj s) _ _

theorem State.par_sampled (j t mask : Nat) (tj : Int) (s : State) :
    (s.sampled t mask tj).par j = (((s.at_ t).setPar Par.calTjValid mask).setPar Par.calTj (twos 16 tj)).par j :=
  State.par_each j _ _ (fun e _ s => State.par_refresh j e tj s) _

theorem State.sampled_calTj (t mask : Nat) (tj : Int) (s : State) : (s.sampled t mask tj).par Par.calTj = twos 16 tj :=
  (State.par_sampled _ t mask tj s).trans (State.par_setPar_self _ _ _)

theorem State.sampled_calTjValid (t mask : Nat) (tj : Int) (s : State) : (s.sampled t mask tj).par Par.calTjValid = mask :=
  (State.par_sampled _ t mask tj s).trans ((State.par_setPar_ne _ _ _ (by decide) _).trans (State.par_setPar_self _ _ _))

theorem State.par_sampled_of_ne (j t mask : Nat) (tj : Int) (s : State) (hv : j ≠ Par.calTjValid) (hj : j ≠ Par.calTj) :
    (s.sampled t mask tj).par j = s.par j :=
  (State.par_sampled j t mask tj s).trans ((State.par_setPar_ne _ _ _ hj _).trans (State.par_setPar_ne _ _ _ hv _))

theorem exec_tjSample_eq (t : Nat) (x y z tj : Int) (s : State) (h : tjOf (validSensors [x, y, z]) = some tj) :
    exec (.tjSample t x y z) s =
      let r := s.sampled t (validMask [x, y, z]) tj
      if !r.dev.hot && 1680 < tj then .next ({ r with dev := { r.dev with hot := true } }.raise Ev.tjHigh 0 (leBytes 2 (twos 16 tj)))
      else if r.dev.hot && tj < 1600 then .next ({ r with dev := { r.dev with hot := false } }.endCond Ev.tjHigh 0)
      else .next r := by
  have hexec : exec (.tjSample t x y z) s = execTjSample t x y z s := rfl
  rw [hexec]
  unfold execTjSample State.sampled
  dsimp only
  rw [h]

/-- With a valid sensor CAL.TJ takes Tj, and the condition of EV003 begins above 105 degrees C, with one count, and ends below 100. -/
theorem exec_tjSample_of_tj (t : Nat) (x y z tj : Int) (s : State) (h : tjOf (validSensors [x, y, z]) = some tj) :
    Answers (.tjSample t x y z) s (fun s' => s'.par Par.calTjValid = validMask [x, y, z] ∧ s'.par Par.calTj = twos 16 tj ∧
      s'.dev.hot = (if s.dev.hot then decide (1600 ≤ tj) else decide (1680 < tj)) ∧
      (s.dev.hot = false → s'.dev.hot → CountsUp (Par.evtCount000 + Ev.tjHigh) s s')) := by
  have hexec := exec_tjSample_eq t x y z tj s h
  have hdev := s.dev_sampled t (validMask [x, y, z]) tj
  have htj := s.sampled_calTj t (validMask [x, y, z]) tj
  have hvalid := s.sampled_calTjValid t (validMask [x, y, z]) tj
  have hcount := s.par_sampled_of_ne (Par.evtCount000 + Ev.tjHigh) t (validMask [x, y, z]) tj (by decide) (by decide)
  dsimp only at hexec
  generalize s.sampled t (validMask [x, y, z]) tj = r at hexec hdev htj hvalid hcount
  rw [← hdev]
  by_cases hbegins : (!r.dev.hot && decide (1680 < tj)) = true
  · rw [if_pos hbegins] at hexec
    simp only [Bool.and_eq_true, Bool.not_eq_true', decide_eq_true_eq] at hbegins
    obtain ⟨hcold, hover⟩ := hbegins
    refine ⟨_, hexec, (State.par_raise _ quiet_calTjValid _ _ _ _).trans hvalid, (State.par_raise _ quiet_calTj _ _ _ _).trans htj, ?_, ?_⟩
    · rw [State.dev_eq_of_rest (State.rest_raise _ _ _ _)]
      simp [hcold, hover]
    · intro _ _
      have hup := State.countsUp_raise Ev.tjHigh 0 (leBytes 2 (twos 16 tj)) { r with dev := { r.dev with hot := true } } (by decide)
      exact hup.trans (congrArg (fun n => min (n + 1) _) hcount)
  rw [if_neg hbegins] at hexec
  by_cases hends : (r.dev.hot && decide (tj < 1600)) = true
  · rw [if_pos hends] at hexec
    simp only [Bool.and_eq_true, decide_eq_true_eq] at hends
    obtain ⟨hhot, hunder⟩ := hends
    have hdone := State.dev_eq_of_rest (State.rest_endCond Ev.tjHigh 0 { r with dev := { r.dev with hot := false } })
    refine ⟨_, hexec, (State.par_endCond _ _ _ _).trans hvalid, (State.par_endCond _ _ _ _).trans htj, ?_, ?_⟩
    · rw [hdone]
      simp [hhot, hunder]
    · intro hcold
      exact absurd (hhot.symm.trans hcold) (by decide)
  · rw [if_neg hends] at hexec
    refine ⟨_, hexec, hvalid, htj, ?_, ?_⟩
    · cases hhot : r.dev.hot
      · simpa [hhot] using hbegins
      · simpa [hhot] using hends
    · intro hcold hhot
      exact absurd (hhot.symm.trans hcold) (by decide)

/-- Settles O53: TJ_SAMPLE takes Tj from the valid sensors, by which of the three are. -/
theorem tjFromValidSensors : Obligations.TjFromValidSensors := by
  unfold Obligations.TjFromValidSensors
  intro t x y z vx vy vz s hx hy hz hlen
  have hsensors := validSensors_three x y z
  have hmask := validMask_three x y z
  rw [show sensorValid x y z = vx from hx.symm, show sensorValid y x z = vy from hy.symm,
    show sensorValid z x y = vz from hz.symm] at hsensors hmask
  clear hx hy hz
  cases htj : tjOf (validSensors [x, y, z]) with
  | none =>
    obtain ⟨s', hex, hvalid, hpar, hdev, htrim⟩ := exec_tjSample_of_no_valid t x y z s htj hlen
    obtain ⟨rfl, rfl, rfl⟩ : vx = false ∧ vy = false ∧ vz = false := by
      rw [tjOf_eq_none, hsensors] at htj
      simpa using htj
    exact ⟨s', hex, hvalid.trans hmask, by simp, by simp, by simp, by simp, by simp, by simp, by simp,
      fun _ _ _ => ⟨hpar, congrArg _ hdev, htrim⟩, by simp⟩
  | some m =>
    obtain ⟨s', hex, hvalid, hpar, hhot, hcount⟩ := exec_tjSample_of_tj t x y z m s htj
    have hrange := mem_validSensors_range (tjOf_mem htj)
    rw [hsensors] at htj
    refine ⟨s', hex, hvalid.trans hmask, ?_, ?_, ?_, ?_, ?_, ?_, ?_, ?_, ?_⟩
    · rintro rfl rfl rfl
      obtain ⟨hm, hle, hge⟩ := tjOf_median htj
      exact ⟨m, hm, hpar, hle, hge⟩
    iterate 6
      · rintro rfl rfl rfl
        rw [hpar, Option.some.inj htj]
    · rintro rfl rfl rfl
      cases htj
    · intro _
      rw [hpar, signed_twos_of_range hrange]
      exact ⟨hhot, hcount⟩

end Sys2Proof.Machine
end
